-- ==== Sys2Proof/Word.lean ====
section
/-! DEFINITION. The fixed-width numbers of the part: bytes of a frame, 16-bit fields, 48-bit block numbers, the
32-bit commit count and the nine-flag set. -/

namespace Sys2Proof

/-- One data byte of a link character, of a frame or of a block. -/
abbrev Byte := BitVec 8

/-- A 16-bit field: tags, epochs, lengths, counts, offsets, masks, checks. -/
abbrev Word := BitVec 16

/-- A 48-bit logical block number. -/
abbrev Lba := BitVec 48

/-- The 32-bit commit count, wrapping (R40). -/
abbrev CommitCount := BitVec 32

/-- The nine fault flags, or a notice mask: bit k stands for flag id k + 1 (R21). -/
abbrev FlagSet := BitVec 9

end Sys2Proof
end

