-- ==== Sys2Proof/Config.lean ====
section
/-! DEFINITION. The sizes, limits and constants the manual fixes, each with the rule that gives it. -/

namespace Sys2Proof.Config

/-- Payload length of the largest frame on a path link (R2). -/
def maxPayload : Nat := 4100

/-- Character times of silence after which the gap timer expires (R4). -/
def gapCharacters : Nat := 64

/-- Frames a receive queue holds (R10). -/
def receiveDepth : Nat := 16

/-- Frames a transmit queue holds (R12). -/
def transmitDepth : Nat := 32

/-- Greatest health score (R25). -/
def scoreMax : Nat := 255

/-- Score set at carrier return (R35). -/
def returnScore : Nat := 192

/-- Entry slots of the In-Flight Table (R104). -/
def entrySlots : Nat := 32

/-- One more than the greatest age the admission sequence counter holds, less one: 2^48 − 1 (R93). -/
def sequenceMax : Nat := 2 ^ 48 - 1

/-- Greatest number of blocks of one command (R100). -/
def maxCommandBlocks : Nat := 1024

/-- Greatest number of blocks of one segment (R118). -/
def segmentBlocks : Nat := 16

/-- Greatest reissue count; the next zero-progress event ends the entry (R124). -/
def reissueMax : Nat := 3

/-- Bytes of a block, of a staging page, and of the data field of a data frame (section 3 of 00_scope). -/
def blockBytes : Nat := 4096

/-- Pages that serve the two paths, 0 to 254 (R137). -/
def pathPages : Nat := 255

/-- The page reserved for the Ownership Controller (R137). -/
def ownershipPage : Nat := 255

/-- Blocks of the reserved region at the top of the drive (R160). -/
def reservedBlocks : Nat := 8

/-- Greatest slot count of the Drive Port (R159). -/
def maxDriveSlots : Nat := 8

/-- Greatest queue depth taken from identify results (R156). -/
def maxDepth : Nat := 32

/-- Smallest suitable capacity, in blocks (R159). -/
def minCapacity : Nat := 16

/-- Smallest suitable queue depth (R159). -/
def minDepth : Nat := 2

/-- Duration of the reset timer in ms (R170). -/
def resetTimeoutMs : Nat := 30000

/-- Attempts of an ownership block operation (R55, R60), and identify attempts (R158). -/
def attemptMax : Nat := 3

/-- Records the orphan list holds (R90). -/
def orphanDepth : Nat := 32

/-- Records the history holds (R66). -/
def historyDepth : Nat := 8

/-- Saturation limit of the dropped counter and of the orphans-added counter (R90). -/
def counterMax : Nat := 255

/-- Answers the Fault and Notice Unit lets wait for one path (R180). -/
def waitingAnswers : Nat := 16

/-- The default notice mask, all flags but LINK_ERROR (R21). -/
def defaultNoticeMask : FlagSet := 0x17F#9

/-- What a byte of the staging buffer that nothing has filled reads as.
DESIGN CHOICE, unsafe, notes/assumptions/3.md: the contents of a page are not defined until they are filled (R154). -/
def unfilledByte : Byte := 0#8

end Sys2Proof.Config
end

