-- ==== Sys2Proof/Syntax.lean ====
section
/-! DEFINITION. The commands of the part: one constructor of `Instr` for each row of spec/opcode_table.json, and the
frames and drive results that are their operands. -/

namespace Sys2Proof

/-- The two paths (section 4.1 of 00_scope). -/
inductive Path where
  | a
  | b
  deriving DecidableEq, Repr

/-- The policy record as it stands in a POLICY frame and in the ownership block (R23). -/
structure PolicyRecord where
  pulsePeriodMs : Word
  pulseCredit : Byte
  missWeight : Byte
  linkWeight : Byte
  stallWeight : Byte
  doubtLo : Byte
  doubtHi : Byte
  lostAt : Byte
  graceMs : Word
  drainMs : Word
  driveTimeoutMs : Word
  flags : Byte
  quotaA : Byte
  quotaB : Byte
  holdMargin : Byte
  maxEntries : Byte
  commonStart : Lba
  commonCount : Word
  deriving DecidableEq, Repr

/-- The command and control frames, which are routed to the receive queue (R3), with the fields of R19. -/
inductive QueuedFrame where
  | command (tag epoch : Word) (op flags : Byte) (start : Lba) (count : Word)
  | claim (tag epoch : Word) (flags : Byte) (overrideEpoch : Word)
  | release (tag epoch : Word) (flags : Byte)
  | rejoin (tag epoch : Word)
  | policy (tag epoch : Word) (record : PolicyRecord)
  | inspect (tag : Word) (mode table : Byte) (index : Word)
  | clear (tag : Word) (target : Byte) (mask : Word)
  | deviceReset (tag epoch : Word)
  | notifyMask (tag mask : Word)
  deriving DecidableEq, Repr

/-- The status of a completion record (R156). `other` is any value that is not one of the three. -/
inductive DriveStatus where
  | good
  | partialDone
  | media
  | other
  deriving DecidableEq, Repr

/-- The commands: the part's operations and events. A completion record's `blocks` are the blocks the drive has placed
for a READ, in order; they play no part for any other holder of the slot. -/
inductive Instr where
  | powerOnReset (drivePresent : Bool)
  | pinReset
  | carrierLoss (p : Path)
  | carrierReturn (p : Path)
  | truncation (p : Path) (kind : Byte)
  | overLength (p : Path) (lengthLow : Byte)
  | gapTimeout (p : Path)
  | checkFailure (p : Path) (checkLow : Byte)
  | unknownKind (p : Path) (checkLow : Byte)
  | pulse (p : Path) (epoch : Word) (sequence : Byte)
  | hold (p : Path)
  | go (p : Path)
  | writeData (p : Path) (tag offset : Word) (data : List Byte)
  | receiveQueueArrival (p : Path) (frame : QueuedFrame)
  | commandRead (p : Path)
  | commandWrite (p : Path)
  | commandWritePosted (p : Path)
  | commandFlush (p : Path)
  | commandBadOp (p : Path)
  | claim (p : Path)
  | forcedClaim (p : Path)
  | overrideClaim (p : Path)
  | release (p : Path)
  | releaseHandover (p : Path)
  | rejoin (p : Path)
  | policy (p : Path)
  | inspectSet (p : Path)
  | inspectNext (p : Path)
  | clearFaultFlags (p : Path)
  | clearOrphanList (p : Path)
  | notifyMask (p : Path)
  | deviceReset (p : Path)
  | waitingFrameEntry (p : Path)
  | frameTransmitted (p : Path)
  | readDataOffer (p : Path)
  | pulseWindowExpiry (p : Path)
  | graceExpiry
  | drainStage1Expiry
  | drainStage2Expiry
  | drainStage3Expiry
  | drainEnd
  | waitingTransition
  | loadBegin
  | reservedOperationIssue
  | segmentIssue
  | readGrant
  | pathSlotCompletion (slot : Nat) (status : DriveStatus) (done : Word) (blocks : List (List Byte))
  | entryRemoval (slot : Nat)
  | reservedSlotCompletion (status : DriveStatus) (done : Word) (block : List Byte)
  | identifyCompletion (status : DriveStatus) (done : Word) (capacity : Lba) (blockSize depth : Nat)
  | identifyTimeout
  | slotTimeout (slot : Nat)
  | readyIndication
  | resetTimeout
  | drvPresentFall
  | drvPresentRise
  | linkCharacter (p : Path) (marked : Bool) (byte : Byte)
  | inspectBadMode (p : Path)
  | clearBadTarget (p : Path)
  deriving DecidableEq, Repr

end Sys2Proof
end

