-- ==== Sys2Proof/WellFormed.lean ====
section
/-! DEFINITION. Which terms of `Instr` stand for a command the part can receive. -/

namespace Sys2Proof

/-- A list of bytes that fills one block. -/
def isBlock (bytes : List Byte) : Bool :=
  bytes.length == Config.blockBytes

/-- A command is well-formed when its data fields have the lengths their layouts give and its slot numbers name slots
that exist: a WRITE_DATA carries one block (R19); a drive READ places at most 16 blocks (R155); entry slots are 0 to 31
(R104) and drive slots with a timer are 0 to 7 (R161). The slot of a completion record is not limited: a record that
names no slot is a record the part takes, as a violation (R165). -/
def Instr.wellFormed : Instr → Bool
  | .writeData _ _ _ data => isBlock data
  | .pathSlotCompletion _ _ _ blocks =>
      blocks.all isBlock && decide (blocks.length ≤ Config.segmentBlocks)
  | .entryRemoval slot => decide (slot < Config.entrySlots)
  | .reservedSlotCompletion _ _ block => isBlock block
  | .slotTimeout slot => decide (slot < Config.maxDriveSlots)
  | .powerOnReset _ | .pinReset | .carrierLoss _ | .carrierReturn _ | .truncation _ _ | .overLength _ _ | .gapTimeout _
  | .checkFailure _ _ | .unknownKind _ _ | .pulse _ _ _ | .hold _ | .go _ | .receiveQueueArrival _ _
  | .commandRead _ | .commandWrite _ | .commandWritePosted _ | .commandFlush _ | .commandBadOp _
  | .claim _ | .forcedClaim _ | .overrideClaim _ | .release _ | .releaseHandover _ | .rejoin _ | .policy _
  | .inspectSet _ | .inspectNext _ | .clearFaultFlags _ | .clearOrphanList _ | .notifyMask _ | .deviceReset _
  | .waitingFrameEntry _ | .frameTransmitted _ | .readDataOffer _ | .pulseWindowExpiry _ | .graceExpiry
  | .drainStage1Expiry | .drainStage2Expiry | .drainStage3Expiry | .drainEnd | .waitingTransition | .loadBegin
  | .reservedOperationIssue | .segmentIssue | .readGrant | .identifyCompletion _ _ _ _ _ | .identifyTimeout
  | .readyIndication | .resetTimeout | .drvPresentFall | .drvPresentRise | .linkCharacter _ _ _ | .inspectBadMode _
  | .clearBadTarget _ => true

end Sys2Proof
end

