-- ==== Sys2Proof/Decode.lean ====
section
/-! DEFINITION. The command a word spells by the bits of the opcode table. No row of the table gives bits. -/

namespace Sys2Proof

/-- The command that a word spells: none, because the rows of this table are events and steps, which have no bits. The
frames on a path link are decoded by `Machine.decodeFrame`. -/
def decodeTableWord (_nbits _w : Nat) : Option Instr := none

end Sys2Proof
end

