-- ==== Sys2Proof/Machine/State.lean ====
section
/-! DEFINITION. Everything the part holds, block by block, as plain data; the reasons a step can stop; the state right
after power-on reset. -/

namespace Sys2Proof.Machine

/-! ## A value for each path -/

/-- One value for Path A and one for Path B. -/
structure Both (α : Type) where
  a : α
  b : α
  deriving DecidableEq, Repr

/-! ## Enumerated values -/

/-- Whether carrier is present on a link (section 1 of 01_path_links). -/
inductive Link where
  | down
  | up
  deriving DecidableEq, Repr

/-- A path's standing with respect to ownership (R42). -/
inductive Role where
  | owner
  | sharer
  | standby
  | releasing
  | fenced
  deriving DecidableEq, Repr

/-- The ownership state (R40). -/
inductive OwnState where
  | loading
  | unowned
  | owned
  | grace
  | draining
  | committing
  | frozen
  deriving DecidableEq, Repr

/-- A path's health (R26). -/
inductive Health where
  | healthy
  | doubtful
  | lost
  deriving DecidableEq, Repr

/-- The fault flags, ids 1 to 9 (R21). -/
inductive Flag where
  | driveReset
  | mediaError
  | dataLoss
  | driveFailed
  | blockBad
  | frozen
  | orphans
  | linkError
  | partnerLost
  deriving DecidableEq, Repr

/-- The status field of REPLY and RECORD frames (R22). -/
inductive Status where
  | ok
  | posted
  | badOp
  | badLength
  | outOfRange
  | tagInUse
  | queueFull
  | badTable
  | endOfTable
  | empty
  | staleEpoch
  | fenced
  | notOwner
  | notUnowned
  | contended
  | forbidden
  | notHealthy
  | frozen
  | busy
  | badPolicy
  | commitFailed
  | overrun
  | badData
  | mediaError
  | driveStall
  | driveFailed
  | orphaned
  deriving DecidableEq, Repr

/-! ## Path interfaces -/

/-- Outbound frames, with the fields of R20. -/
inductive OutFrame where
  | reply (tag : Word) (status : Status) (done : Word) (epoch : Word)
  | dataRequest (tag count : Word)
  | readData (tag offset : Word) (data : List Byte)
  | record (tag : Word) (status : Status) (table : Byte) (index : Word) (fields : List Byte)
  | echo (sequence : Byte) (epoch : Word) (owner : Option Path) (role : Role) (state : OwnState)
      (health partner : Health)
  | flagNotice (flag : Flag)
  | ownershipNotice (epoch : Word) (owner : Option Path) (role : Role) (count : CommitCount)
  | hold
  | go
  deriving DecidableEq, Repr

/-- What the transmission of a frame reports (R14). `block`: the read block of the entry in this slot, with this age,
in this page. `heldPage`: the entry was fenced while the frame was being sent, so its end only frees the page (R77). -/
inductive Tie where
  | plain
  | block (slot age page : Nat)
  | heldPage (page : Nat)
  deriving DecidableEq, Repr

/-- A frame in a transmit queue, with what its transmission reports. -/
structure TxItem where
  frame : OutFrame
  tie : Tie
  deriving DecidableEq, Repr

/-- Who holds a frame that waits for room in a transmit queue (section 1.6 of 01_path_links). `iftFinal` is the final
reply of the entry in the slot named, which stays in the table while it waits (R128). -/
inductive Producer where
  | ift
  | iftFinal (slot : Nat)
  | owc
  | adm
  | fnuAnswer
  | fnuFlag (flag : Flag)
  | stb
  deriving DecidableEq, Repr

/-- A frame held by a waiting producer (R12). -/
structure Waiting where
  producer : Producer
  item : TxItem
  deriving DecidableEq, Repr

/-- Where the frame in transmission was taken from (R13). `detached`: from a transmit queue that a soft reset has
emptied since (R17). -/
inductive SendSource where
  | flow
  | echo
  | queue
  | detached
  deriving DecidableEq, Repr

/-- The frame in transmission on an outbound link. -/
structure Sending where
  source : SendSource
  item : TxItem
  deriving DecidableEq, Repr

/-- Progress of the frame being received (R1): the kind, then up to one length byte, then the bytes after the length
in order of arrival, with the running sum modulo 65536. -/
inductive Assembler where
  | idle
  | length (kind : Byte) (held : Option Byte) (sum : Word)
  | body (kind : Byte) (length : Nat) (bytes : List Byte) (sum : Word)
  deriving DecidableEq, Repr

/-- One path interface (PIF). The transmit queue proper is `txq`, with the frame taken from it for transmission, if
any, in `sending`: that frame keeps its position until its last character has been sent (R13). `waiting` holds the
frames of waiting producers in the order in which they began to wait (R12). `sent` is the model's own record of the
outbound line: every frame whose last character has been sent, oldest first. `heldServer` is the model's own too: the
last flow frame begun on the link is a HOLD, so that the server has something for a GO to release (R151,
notes/assumptions/38.md). -/
structure Pif where
  link : Link
  assembler : Assembler
  gapTimer : Option Nat
  rxq : List QueuedFrame
  txq : List TxItem
  sending : Option Sending
  echoWaiting : Option OutFrame
  flowWaiting : Option OutFrame
  serverHold : Bool
  partHold : Bool
  heldServer : Bool
  waiting : List Waiting
  sent : List OutFrame
  deriving DecidableEq, Repr

/-! ## Health Monitor -/

/-- One path's health state (HMON). `window` holds the duration in ms the running pulse window timer was started
with. -/
structure Hmon where
  score : Nat
  health : Health
  window : Option Nat
  pulseCounted : Bool
  heldThroughout : Bool
  deriving DecidableEq, Repr

/-! ## Ownership Controller -/

inductive DrainStage where
  | cooperative
  | fenced
  | resetDone
  deriving DecidableEq, Repr

inductive DrainCause where
  | loss
  | forced
  | release
  | handover
  deriving DecidableEq, Repr

inductive Purpose where
  | claim
  | forced
  | override
  | release
  | handover
  | loss
  | policy
  deriving DecidableEq, Repr

inductive FrozenCause where
  | blockBad
  | commitFailed
  | drive
  deriving DecidableEq, Repr

/-- What a commit writes to the ownership block (section 3 of 03_ownership_and_epochs). -/
structure Contents where
  owner : Option Path
  epoch : Word
  count : CommitCount
  policy : PolicyRecord
  deriving DecidableEq, Repr

/-- A reply owed to an ownership request (R45), with the purpose of the commit that decides it. -/
structure OwedReply where
  path : Path
  tag : Word
  purpose : Purpose
  deriving DecidableEq, Repr

inductive HistoryCause where
  | start
  | claim
  | forced
  | override
  | release
  | handover
  | loss
  deriving DecidableEq, Repr

/-- A history record (R66). -/
structure HistoryRecord where
  epoch : Word
  newOwner : Option Path
  previousOwner : Option Path
  cause : HistoryCause
  orphans : Nat
  deriving DecidableEq, Repr

/-- The operation of a command (R19). -/
inductive Op where
  | read
  | write
  | flush
  deriving DecidableEq, Repr

/-- Why a command's outcome was not reported in the usual way (R91). -/
inductive Outcome where
  | notStarted
  | torn
  | readCut
  | completeUnreported
  | postedDone
  | postedLost
  | linkCut
  | resetCut
  deriving DecidableEq, Repr

/-- An orphan record (R89). -/
structure OrphanRecord where
  origin : Path
  tag : Word
  op : Op
  start : Nat
  count : Nat
  done : Nat
  epoch : Word
  outcome : Outcome
  deriving DecidableEq, Repr

/-- The Ownership Controller (OWC). Optional fields are `none` while absent. `successor` is `none` while absent and
`some none` for NONE. Timers hold the duration in ms they were started with. -/
structure Owc where
  state : OwnState
  owner : Option Path
  epoch : Word
  commitCount : CommitCount
  drainStage : Option DrainStage
  drainCause : Option DrainCause
  successor : Option (Option Path)
  purpose : Option Purpose
  frozenCause : Option FrozenCause
  roles : Both Role
  policy : PolicyRecord
  pendingPolicy : Option PolicyRecord
  contents : Option Contents
  attempt : Nat
  owedReplies : List OwedReply
  waitingTransition : Option Purpose
  history : List HistoryRecord
  orphans : List OrphanRecord
  dropped : Nat
  graceTimer : Option Nat
  drainTimer : Option Nat
  drainedPath : Option Path
  orphansAdded : Option Nat
  deriving DecidableEq, Repr

/-! ## Admission Unit -/

/-- The Admission Unit (ADM). Its waiting frame of a path is the `adm` frame among the path's waiting frames. -/
structure Adm where
  pointer : Path
  sequence : Nat
  deriving DecidableEq, Repr

/-! ## In-Flight Table -/

inductive Phase where
  | blocked
  | running
  | ending
  deriving DecidableEq, Repr

/-- The end status of an entry (R126). `fenced` stands for the outcome the fencing step gave it. -/
inductive EndStatus where
  | ok
  | overrun
  | badData
  | mediaError
  | driveStall
  | driveFailed
  | linkCut
  | fenced
  deriving DecidableEq, Repr

/-- A run of consecutive blocks of an entry, by offset and length. -/
structure Run where
  offset : Nat
  length : Nat
  deriving DecidableEq, Repr

/-- A segment at the drive (R115). -/
structure Segment where
  driveSlot : Nat
  offset : Nat
  length : Nat
  deriving DecidableEq, Repr

/-- One entry of the In-Flight Table (R104, R115). `staged`, `issued`, `committed`, `fetched` and `delivered` are the
manual's r, i, c, f and d; a write uses r, i, c and a read i, f, d. `flushDone`: the entry's flush completed GOOD.
`reported`: the entry's final reply is built and waits for room in the transmit queue (R128). -/
structure Entry where
  slot : Nat
  origin : Path
  tag : Word
  op : Op
  start : Nat
  count : Nat
  epoch : Word
  common : Bool
  posted : Bool
  acked : Bool
  age : Nat
  phase : Phase
  staged : Nat
  issued : Nat
  committed : Nat
  fetched : Nat
  delivered : Nat
  frontier : Nat
  returned : List Run
  readGrant : Option Nat
  reissue : Nat
  blockedBy : List Nat
  outstanding : List Segment
  endStatus : Option EndStatus
  fencedOutcome : Option Outcome
  cut : Bool
  flushDone : Bool
  reported : Bool
  deriving DecidableEq, Repr

/-! ## Staging Buffer -/

/-- States of an allocated page (R138); a page that has no record is FREE. -/
inductive PageState where
  | staged
  | atDrive
  | granted
  | fetched
  deriving DecidableEq, Repr

/-- The record of an allocated page (R138). `slot` is `none` for a page that is kept only until a READ_DATA that was
being sent when its read was fenced has been sent (R77). -/
structure PageRecord where
  number : Nat
  path : Path
  slot : Option Nat
  offset : Nat
  state : PageState
  deriving DecidableEq, Repr

/-- A read's request for pages (R145). -/
structure GrantRequest where
  slot : Nat
  path : Path
  age : Nat
  length : Nat
  deriving DecidableEq, Repr

/-- The Staging Buffer (STB): the records of the allocated pages, by rising number, and the grant list, by rising
age. -/
structure Stb where
  pages : List PageRecord
  grants : List GrantRequest
  deriving DecidableEq, Repr

/-- The contents of the 256 pages: byte k of page n stands at address 4096 × n + k. In canonical form: addresses
strictly rising, and no entry equal to `Config.unfilledByte`. -/
abbrev Memory := List Host.Cell

/-! ## Drive Port -/

inductive DriveState where
  | absent
  | identifying
  | ready
  | resetting
  | failed
  | halted
  deriving DecidableEq, Repr

inductive DriveCause where
  | none
  | unsuited
  | changed
  | noReady
  | noIdentify
  | violation
  deriving DecidableEq, Repr

/-- The identify results that last took the drive to READY (R159). -/
structure Identity where
  capacity : Nat
  blockSize : Nat
  depth : Nat
  deriving DecidableEq, Repr

/-- An ownership block operation: the load's read or a commit's write (R161). -/
inductive BlockOp where
  | load
  | commit
  deriving DecidableEq, Repr

/-- What a busy drive slot holds (R161). -/
inductive Holder where
  | segment (entry offset length : Nat) (op : Op)
  | blockOp (op : BlockOp) (attempt : Nat)
  | identify
  deriving DecidableEq, Repr

/-- A busy drive slot; `timer` is the duration in ms its timer was started with. A slot with no record is free. -/
structure BusySlot where
  slot : Nat
  holder : Holder
  timer : Nat
  deriving DecidableEq, Repr

/-- Requests sent to the drive (R155). The pages are those the data is read from or placed into. -/
inductive DriveRequest where
  | read (slot lba count : Nat) (pages : List Nat)
  | write (slot lba count : Nat) (pages : List Nat)
  | flush (slot : Nat)
  | identify
  | reset
  deriving DecidableEq, Repr

/-- The Drive Port (DPT). `present` is the DRV_PRESENT pin. `requests` is the model's own record of the drive link:
every request sent to the drive, oldest first. -/
structure Dpt where
  state : DriveState
  cause : DriveCause
  identity : Option Identity
  referenceMark : Bool
  slotCount : Nat
  busy : List BusySlot
  request : Option BlockOp
  identifyFailures : Nat
  resetTimer : Option Nat
  present : Bool
  requests : List DriveRequest
  deriving DecidableEq, Repr

/-! ## Fault and Notice Unit -/

inductive ResetCause where
  | power
  | pin
  | soft
  deriving DecidableEq, Repr

/-- An inspect cursor (R184). -/
structure Cursor where
  table : Nat
  index : Nat
  deriving DecidableEq, Repr

/-- The Fault and Notice Unit (FNU). Its waiting frames are the `fnuAnswer` and `fnuFlag` frames among the paths'
waiting frames. -/
structure Fnu where
  flags : Both FlagSet
  masks : Both FlagSet
  cursors : Both Cursor
  resetCause : ResetCause
  postedLost : Nat
  deciding : Option (Path × Word)
  deriving DecidableEq, Repr

/-! ## The part -/

/-- The whole part, and the queue of the commands that are waiting, first in, first out. -/
structure State where
  pif : Both Pif
  hmon : Both Hmon
  owc : Owc
  adm : Adm
  ift : List Entry
  stb : Stb
  mem : Memory
  dpt : Dpt
  fnu : Fnu
  pending : List Instr
  deriving DecidableEq, Repr

/-- The part never stops with a fault of its own: where the manual speaks of a fault it sets a flag, ends an entry or
enters FROZEN, all of which are next states. No meaning raises one. -/
inductive Fault where
  deriving DecidableEq, Repr

/-- `notModelled`: raised by `exec` for a command that has no meaning; safe, because no claim about a next state can
follow from it. Every command of this model has its meaning, so no arm raises it. -/
inductive Refusal where
  | notModelled (mnemonic : String)
  deriving DecidableEq, Repr

/-! ## Reset -/

/-- The default policy (R52): 32 < 96 < 224, quotas 120 and 120, share_reads and auto_takeover set. -/
def defaultPolicy : PolicyRecord :=
  { pulsePeriodMs := 100#16, pulseCredit := 48#8, missWeight := 32#8, linkWeight := 8#8, stallWeight := 16#8,
    doubtLo := 32#8, doubtHi := 96#8, lostAt := 224#8, graceMs := 500#16, drainMs := 2000#16,
    driveTimeoutMs := 8000#16, flags := 0x05#8, quotaA := 120#8, quotaB := 120#8, holdMargin := 16#8,
    maxEntries := 16#8, commonStart := 0#48, commonCount := 0#16 }

/-- A path interface at power-on (R17). -/
def Pif.reset : Pif :=
  { link := .down, assembler := .idle, gapTimer := none, rxq := [], txq := [], sending := none, echoWaiting := none,
    flowWaiting := none, serverHold := false, partHold := false, heldServer := false, waiting := [], sent := [] }

/-- A path's health at power-on (R38). -/
def Hmon.reset : Hmon :=
  { score := 255, health := .lost, window := none, pulseCounted := false, heldThroughout := false }

/-- The Ownership Controller at power-on (R67). -/
def Owc.reset : Owc :=
  { state := .loading, owner := none, epoch := 0#16, commitCount := 0#32, drainStage := none, drainCause := none,
    successor := none, purpose := none, frozenCause := none, roles := { a := .sharer, b := .sharer },
    policy := defaultPolicy, pendingPolicy := none, contents := none, attempt := 0, owedReplies := [],
    waitingTransition := none, history := [], orphans := [], dropped := 0, graceTimer := none, drainTimer := none,
    drainedPath := none, orphansAdded := none }

/-- The Drive Port at power-on with DRV_PRESENT high: IDENTIFYING, with the IDENTIFY of R158 issued in slot 0 under the
default drive_timeout_ms (R157). -/
def Dpt.reset : Dpt :=
  { state := .identifying, cause := .none, identity := none, referenceMark := false, slotCount := 0,
    busy := [{ slot := 0, holder := .identify, timer := 8000 }], request := none, identifyFailures := 0,
    resetTimer := none, present := true, requests := [.identify] }

/-- The Fault and Notice Unit at power-on (R194). -/
def Fnu.reset : Fnu :=
  { flags := { a := 0#9, b := 0#9 }, masks := { a := Config.defaultNoticeMask, b := Config.defaultNoticeMask },
    cursors := { a := { table := 0, index := 0 }, b := { table := 0, index := 0 } }, resetCause := .power,
    postedLost := 0, deciding := none }

/-- The machine right after power-on reset with a drive in the slot (R17, R38, R67, R93, R136, R154, R157, R194). That
DRV_PRESENT is high is a DESIGN CHOICE, unsafe, notes/assumptions/2.md. -/
def State.reset : State :=
  { pif := { a := Pif.reset, b := Pif.reset }, hmon := { a := Hmon.reset, b := Hmon.reset }, owc := Owc.reset,
    adm := { pointer := .b, sequence := 0 }, ift := [], stb := { pages := [], grants := [] }, mem := [],
    dpt := Dpt.reset, fnu := Fnu.reset, pending := [] }

end Sys2Proof.Machine
end

