-- ==== Sys2Proof/Machine/Ops.lean ====
section
/-! DEFINITION. The named operations every block uses: a value per path, the cells of the staging buffer, the outbound
link of a path interface, and the entries of the In-Flight Table as a store. -/

namespace Sys2Proof

/-- The partner of a path. -/
def Path.other : Path → Path
  | .a => .b
  | .b => .a

end Sys2Proof

namespace Sys2Proof.Machine

/-! ## A value for each path -/

def Both.get {α : Type} (x : Both α) : Path → α
  | .a => x.a
  | .b => x.b

def Both.set {α : Type} (x : Both α) (p : Path) (v : α) : Both α :=
  match p with
  | .a => { x with a := v }
  | .b => { x with b := v }

/-- Apply an update to the path interface of one path. -/
def State.onPif (p : Path) (f : Pif → Pif) (s : State) : State :=
  { s with pif := s.pif.set p (f (s.pif.get p)) }

/-- Apply an update to the health state of one path. -/
def State.onHmon (p : Path) (f : Hmon → Hmon) (s : State) : State :=
  { s with hmon := s.hmon.set p (f (s.hmon.get p)) }

/-- The role of a path (R42). -/
def State.role (s : State) (p : Path) : Role :=
  s.owc.roles.get p

/-- Whether the link of a path is UP. -/
def State.linkUp (s : State) (p : Path) : Bool :=
  (s.pif.get p).link == .up

/-! ## The cells of the staging buffer -/

/-- The byte at an address; an unlisted address reads as `Config.unfilledByte`. -/
def readByte : Memory → Nat → Byte
  | [], _ => Config.unfilledByte
  | (k, v) :: rest, a => if k = a then v else readByte rest a

/-- Write one byte, keeping the canonical form. -/
def writeByte (m : Memory) (a : Nat) (v : Byte) : Memory :=
  m.filter (fun c => decide (c.1 < a)) ++ (if v = Config.unfilledByte then [] else [(a, v)]) ++
    m.filter (fun c => decide (a < c.1))

/-- The cells of consecutive bytes from an address on, in canonical form. -/
def cellsFrom : Nat → List Byte → Memory
  | _, [] => []
  | a, v :: rest => if v = Config.unfilledByte then cellsFrom (a + 1) rest else (a, v) :: cellsFrom (a + 1) rest

/-- The address of byte 0 of a page. -/
def pageBase (page : Nat) : Nat :=
  page * Config.blockBytes

/-- Fill a page with a block. Bytes beyond a block are not taken, and bytes short of one are unfilled. -/
def fillPage (m : Memory) (page : Nat) (bytes : List Byte) : Memory :=
  m.filter (fun c => decide (c.1 < pageBase page)) ++
    cellsFrom (pageBase page) (bytes.take Config.blockBytes) ++
    m.filter (fun c => decide (pageBase page + Config.blockBytes ≤ c.1))

/-- The bytes of `n` consecutive addresses. -/
def readBytes (m : Memory) : Nat → Nat → List Byte
  | 0, _ => []
  | n + 1, a => readByte m a :: readBytes m n (a + 1)

/-- The listed cells of a range of addresses. -/
def cellsIn (m : Memory) (lo n : Nat) : Memory :=
  m.filter (fun c => decide (lo ≤ c.1) && decide (c.1 < lo + n))

/-- Spread sorted cells over `n` consecutive addresses, with unlisted ones unfilled. -/
def spread : Nat → Nat → Memory → List Byte
  | 0, _, _ => []
  | n + 1, a, [] => Config.unfilledByte :: spread n (a + 1) []
  | n + 1, a, (k, v) :: rest =>
    if k = a then v :: spread n (a + 1) rest else Config.unfilledByte :: spread n (a + 1) ((k, v) :: rest)

/-- The block a page holds. -/
def readPage (m : Memory) (page : Nat) : List Byte :=
  spread Config.blockBytes (pageBase page) (cellsIn m (pageBase page) Config.blockBytes)

/-- The canonical form: addresses strictly rising, and no entry equal to what an unlisted address reads as. -/
def memoryWf : Memory → Bool
  | [] => true
  | [c] => c.2 != Config.unfilledByte
  | c :: d :: rest => c.2 != Config.unfilledByte && decide (c.1 < d.1) && memoryWf (d :: rest)

/-! ## The outbound link of a path interface -/

/-- Whether a frame is a READ_DATA. -/
def OutFrame.isReadData : OutFrame → Bool
  | .readData _ _ _ => true
  | _ => false

/-- Whether the frame in transmission keeps a position of the transmit queue (R13). -/
def Pif.sendingFromQueue (f : Pif) : Bool :=
  match f.sending with
  | some x => x.source == .queue
  | none => false

/-- The number of frames in the transmit queue, the one being sent from it included (R13). -/
def Pif.transmitCount (f : Pif) : Nat :=
  f.txq.length + (if f.sendingFromQueue then 1 else 0)

/-- The oldest frame of a transmit queue that may be sent, and the rest in order: while the server holds, a READ_DATA
keeps its place and frames behind it are sent past it (R13). -/
def takeSendable (held : Bool) : List TxItem → Option (TxItem × List TxItem)
  | [] => none
  | x :: rest =>
    if held && x.frame.isReadData then
      match takeSendable held rest with
      | some (y, others) => some (y, x :: others)
      | none => none
    else some (x, rest)

/-- The arbiter over the outbound link: when the link is free, the flow frame goes first, then the ECHO, then the oldest
frame of the transmit queue that may be sent (R13). -/
def Pif.chooseNext (f : Pif) : Pif :=
  if f.link = .up ∧ f.sending = none then
    match f.flowWaiting with
    | some g =>
      { f with
        flowWaiting := none, heldServer := decide (g = .hold)
        sending := some { source := .flow, item := { frame := g, tie := .plain } } }
    | none =>
      match f.echoWaiting with
      | some e =>
        { f with echoWaiting := none, sending := some { source := .echo, item := { frame := e, tie := .plain } } }
      | none =>
        match takeSendable f.serverHold f.txq with
        | some (x, rest) => { f with txq := rest, sending := some { source := .queue, item := x } }
        | none => f
  else f

/-- Put a frame at the tail of the transmit queue. -/
def Pif.enqueue (x : TxItem) (f : Pif) : Pif :=
  { f with txq := f.txq ++ [x] }.chooseNext

/-- Whether the transmit queue has room for a frame on an UP path (R12). -/
def Pif.hasRoom (f : Pif) : Bool :=
  f.link == .up && decide (f.transmitCount < Config.transmitDepth)

/-- Offer a frame to the transmit queue: discarded on a DOWN path (R6), entered where there is room, and otherwise held
by its producer, which waits (R12). -/
def Pif.offer (producer : Producer) (x : TxItem) (f : Pif) : Pif :=
  if f.link = .down then f
  else if f.hasRoom then f.enqueue x
  else { f with waiting := f.waiting ++ [{ producer := producer, item := x }] }

/-- Offer a frame whose transmission reports nothing. -/
def State.offer (p : Path) (producer : Producer) (frame : OutFrame) (s : State) : State :=
  s.onPif p (Pif.offer producer { frame := frame, tie := .plain })

/-- The producer whose frame enters the transmit queue next, if there is one and there is room (R12). -/
def Pif.entering (f : Pif) : Option Producer :=
  match f.waiting with
  | [] => none
  | w :: _ => if f.hasRoom then some w.producer else none

/-- The frame that began to wait first enters the transmit queue, when there is room for it (R12). -/
def Pif.enterWaiting (f : Pif) : Pif :=
  match f.waiting with
  | [] => f
  | w :: rest => if f.hasRoom then Pif.enqueue w.item { f with waiting := rest } else f

/-- Place a HOLD or GO in the flow position; one not yet begun is replaced (R16). -/
def Pif.placeFlow (frame : OutFrame) (f : Pif) : Pif :=
  { f with flowWaiting := some frame }.chooseNext

/-- The request to send HOLD (R16). -/
def Pif.sendHold (f : Pif) : Pif :=
  { f with partHold := true }.placeFlow .hold

/-- The request to send GO (R16). -/
def Pif.sendGo (f : Pif) : Pif :=
  { f with partHold := false }.placeFlow .go

/-- Take a GO that has not begun out of the flow position (R151). -/
def Pif.withdrawGo (f : Pif) : Pif :=
  if f.flowWaiting = some .go then { f with flowWaiting := none } else f

/-- STB's request for GO. The GO is placed in the flow position (R16). One that has replaced a HOLD not yet begun there is
taken out again at that event, so that the server sees neither and R13 finds none (R151), unless the last flow frame begun is a
HOLD, from which the server is still to be released: DESIGN CHOICE, notes/assumptions/38.md. -/
def Pif.askGo (f : Pif) : Pif :=
  if f.flowWaiting = some .hold ∧ f.heldServer = false then f.sendGo.withdrawGo else f.sendGo

/-- Place an ECHO in the echo position; one not yet begun is replaced (R9). -/
def Pif.placeEcho (frame : OutFrame) (f : Pif) : Pif :=
  { f with echoWaiting := some frame }.chooseNext

/-- Whether a READ_DATA of the path is queued, waits for room or is being sent (R131). -/
def Pif.holdsReadData (f : Pif) : Bool :=
  f.txq.any (fun x => x.frame.isReadData) || f.waiting.any (fun w => w.item.frame.isReadData) ||
    (match f.sending with
     | some x => x.item.frame.isReadData
     | none => false)

/-- Discard the frame in assembly, if any: the assembler is IDLE and the gap timer stopped (R1 to R4). -/
def Pif.clearAssembler (f : Pif) : Pif :=
  { f with assembler := .idle, gapTimer := none }

/-! ## The In-Flight Table as a store -/

/-- The entry in a slot. -/
def State.entry? (s : State) (slot : Nat) : Option Entry :=
  s.ift.find? (fun e => e.slot == slot)

/-- Change the entry in a slot. -/
def State.onEntry (slot : Nat) (f : Entry → Entry) (s : State) : State :=
  { s with ift := s.ift.map (fun e => if e.slot = slot then f e else e) }

/-- The slots of the entries that a test accepts, oldest first. -/
def State.slotsWhere (s : State) (test : Entry → Bool) : List Nat :=
  (s.ift.filter test).map (fun e => e.slot)

/-- Apply an operation to each slot of a list in turn. -/
def forSlots (op : Nat → State → State) : List Nat → State → State
  | [], s => s
  | k :: rest, s => forSlots op rest (op k s)

/-- The number of entries of a path, in every phase. -/
def State.entryCount (s : State) (p : Path) : Nat :=
  (s.ift.filter (fun e => e.origin == p)).length

/-- The reported capacity Cr: 0 while the identity is absent (R160, R100). -/
def State.reportedCapacity (s : State) : Nat :=
  match s.dpt.identity with
  | some i => i.capacity - Config.reservedBlocks
  | none => 0

end Sys2Proof.Machine
end

