-- ==== Sys2Proof/Machine/Layouts.lean ====
section
/-! DEFINITION. Codes and layouts: enumerated values (R21, R22), frames on a path link (R18 to R20), the policy record
(R23), the ownership block (R24). Every multi-byte field is big-endian. -/

namespace Sys2Proof.Machine

/-! ## Big-endian fields -/

/-- `width` bytes of a number, the most significant first. -/
def beBytes : (width n : Nat) → List Byte
  | 0, _ => []
  | width + 1, n => BitVec.ofNat 8 (n / 256 ^ width) :: beBytes width n

/-- The number big-endian bytes stand for. -/
def beNat (bytes : List Byte) : Nat :=
  bytes.foldl (fun n b => n * 256 + b.toNat) 0

/-- The number in a field of a payload, by offset and size. -/
def fieldAt (bytes : List Byte) (offset size : Nat) : Nat :=
  beNat ((bytes.drop offset).take size)

def byteAt (bytes : List Byte) (offset : Nat) : Byte :=
  BitVec.ofNat 8 (fieldAt bytes offset 1)

def wordAt (bytes : List Byte) (offset : Nat) : Word :=
  BitVec.ofNat 16 (fieldAt bytes offset 2)

/-- The sum of bytes as unsigned numbers. -/
def byteSum (bytes : List Byte) : Nat :=
  bytes.foldl (fun n b => n + b.toNat) 0

/-! ## Codes -/

/-- owner, origin, successor (R21). -/
def pathCode : Option Path → Nat
  | none => 0
  | some .a => 1
  | some .b => 2

def roleCode : Role → Nat
  | .owner => 0
  | .sharer => 1
  | .standby => 2
  | .releasing => 3
  | .fenced => 4

def ownStateCode : OwnState → Nat
  | .loading => 0
  | .unowned => 1
  | .owned => 2
  | .grace => 3
  | .draining => 4
  | .committing => 5
  | .frozen => 6

def healthCode : Health → Nat
  | .healthy => 0
  | .doubtful => 1
  | .lost => 2

def linkCode : Link → Nat
  | .down => 0
  | .up => 1

/-- Flag ids (R21). -/
def flagId : Flag → Nat
  | .driveReset => 1
  | .mediaError => 2
  | .dataLoss => 3
  | .driveFailed => 4
  | .blockBad => 5
  | .frozen => 6
  | .orphans => 7
  | .linkError => 8
  | .partnerLost => 9

/-- Status codes (R22). -/
def statusCode : Status → Nat
  | .ok => 0x00
  | .posted => 0x01
  | .badOp => 0x10
  | .badLength => 0x11
  | .outOfRange => 0x12
  | .tagInUse => 0x13
  | .queueFull => 0x14
  | .badTable => 0x15
  | .endOfTable => 0x16
  | .empty => 0x17
  | .staleEpoch => 0x20
  | .fenced => 0x21
  | .notOwner => 0x22
  | .notUnowned => 0x23
  | .contended => 0x24
  | .forbidden => 0x25
  | .notHealthy => 0x26
  | .frozen => 0x27
  | .busy => 0x28
  | .badPolicy => 0x29
  | .commitFailed => 0x2A
  | .overrun => 0x40
  | .badData => 0x41
  | .mediaError => 0x42
  | .driveStall => 0x43
  | .driveFailed => 0x44
  | .orphaned => 0x45

/-- The status a reply carries for an end status (R22, R126): a fenced outcome and LINK_CUT are sent as ORPHANED
(R190). -/
def EndStatus.status : EndStatus → Status
  | .ok => .ok
  | .overrun => .overrun
  | .badData => .badData
  | .mediaError => .mediaError
  | .driveStall => .driveStall
  | .driveFailed => .driveFailed
  | .linkCut => .orphaned
  | .fenced => .orphaned

def opCode : Op → Nat
  | .read => 1
  | .write => 2
  | .flush => 3

def phaseCode : Phase → Nat
  | .blocked => 0
  | .running => 1
  | .ending => 2

/-- Orphan outcomes (R191). -/
def outcomeCode : Outcome → Nat
  | .notStarted => 1
  | .torn => 2
  | .readCut => 3
  | .completeUnreported => 4
  | .postedDone => 5
  | .postedLost => 6
  | .linkCut => 7
  | .resetCut => 8

def resetCauseCode : ResetCause → Nat
  | .power => 0
  | .pin => 1
  | .soft => 2

def driveStateCode : DriveState → Nat
  | .absent => 0
  | .identifying => 1
  | .ready => 2
  | .resetting => 3
  | .failed => 4
  | .halted => 5

def driveCauseCode : DriveCause → Nat
  | .none => 0
  | .unsuited => 1
  | .changed => 2
  | .noReady => 3
  | .noIdentify => 4
  | .violation => 5

def drainStageCode : DrainStage → Nat
  | .cooperative => 1
  | .fenced => 2
  | .resetDone => 3

def drainCauseCode : DrainCause → Nat
  | .loss => 1
  | .forced => 2
  | .release => 3
  | .handover => 4

def purposeCode : Purpose → Nat
  | .claim => 1
  | .forced => 2
  | .override => 3
  | .release => 4
  | .handover => 5
  | .loss => 6
  | .policy => 7

def frozenCauseCode : FrozenCause → Nat
  | .blockBad => 1
  | .commitFailed => 2
  | .drive => 3

def historyCauseCode : HistoryCause → Nat
  | .start => 0
  | .claim => 1
  | .forced => 2
  | .override => 3
  | .release => 4
  | .handover => 5
  | .loss => 6

/-! ## The policy record (R23) -/

def encodePolicy (r : PolicyRecord) : List Byte :=
  beBytes 2 r.pulsePeriodMs.toNat ++ [r.pulseCredit, r.missWeight, r.linkWeight, r.stallWeight, r.doubtLo, r.doubtHi,
    r.lostAt] ++ beBytes 2 r.graceMs.toNat ++ beBytes 2 r.drainMs.toNat ++ beBytes 2 r.driveTimeoutMs.toNat ++
    [r.flags, r.quotaA, r.quotaB, r.holdMargin, r.maxEntries] ++ beBytes 6 r.commonStart.toNat ++
    beBytes 2 r.commonCount.toNat

def decodePolicy (bytes : List Byte) : PolicyRecord :=
  { pulsePeriodMs := wordAt bytes 0, pulseCredit := byteAt bytes 2, missWeight := byteAt bytes 3,
    linkWeight := byteAt bytes 4, stallWeight := byteAt bytes 5, doubtLo := byteAt bytes 6,
    doubtHi := byteAt bytes 7, lostAt := byteAt bytes 8, graceMs := wordAt bytes 9, drainMs := wordAt bytes 11,
    driveTimeoutMs := wordAt bytes 13, flags := byteAt bytes 15, quotaA := byteAt bytes 16,
    quotaB := byteAt bytes 17, holdMargin := byteAt bytes 18, maxEntries := byteAt bytes 19,
    commonStart := BitVec.ofNat 48 (fieldAt bytes 20 6), commonCount := wordAt bytes 26 }

/-! ## Frames from a server (R19) -/

/-- A valid frame from a server, by the route R3 gives it. -/
inductive InFrame where
  | pulse (epoch : Word) (sequence : Byte)
  | writeData (tag offset : Word) (data : List Byte)
  | hold
  | go
  | queued (frame : QueuedFrame)
  deriving DecidableEq, Repr

/-- The payload length of each kind a server sends (R19); `none` for every other kind. -/
def inboundLength (kind : Byte) : Option Nat :=
  if kind = 0x41#8 then some 14
  else if kind = 0x44#8 then some 4100
  else if kind = 0x50#8 then some 3
  else if kind = 0x61#8 then some 7
  else if kind = 0x62#8 then some 5
  else if kind = 0x63#8 then some 4
  else if kind = 0x64#8 then some 32
  else if kind = 0x65#8 then some 6
  else if kind = 0x66#8 then some 5
  else if kind = 0x67#8 then some 4
  else if kind = 0x68#8 then some 4
  else if kind = 0x70#8 then some 0
  else if kind = 0x71#8 then some 0
  else none

/-- The fields of a payload whose kind is inbound and whose length is right (R19). -/
def decodePayload (kind : Byte) (bytes : List Byte) : InFrame :=
  if kind = 0x41#8 then
    .queued (.command (wordAt bytes 0) (wordAt bytes 2) (byteAt bytes 4) (byteAt bytes 5)
      (BitVec.ofNat 48 (fieldAt bytes 6 6)) (wordAt bytes 12))
  else if kind = 0x44#8 then .writeData (wordAt bytes 0) (wordAt bytes 2) (bytes.drop 4)
  else if kind = 0x50#8 then .pulse (wordAt bytes 0) (byteAt bytes 2)
  else if kind = 0x61#8 then .queued (.claim (wordAt bytes 0) (wordAt bytes 2) (byteAt bytes 4) (wordAt bytes 5))
  else if kind = 0x62#8 then .queued (.release (wordAt bytes 0) (wordAt bytes 2) (byteAt bytes 4))
  else if kind = 0x63#8 then .queued (.rejoin (wordAt bytes 0) (wordAt bytes 2))
  else if kind = 0x64#8 then .queued (.policy (wordAt bytes 0) (wordAt bytes 2) (decodePolicy (bytes.drop 4)))
  else if kind = 0x65#8 then
    .queued (.inspect (wordAt bytes 0) (byteAt bytes 2) (byteAt bytes 3) (wordAt bytes 4))
  else if kind = 0x66#8 then .queued (.clear (wordAt bytes 0) (byteAt bytes 2) (wordAt bytes 3))
  else if kind = 0x67#8 then .queued (.deviceReset (wordAt bytes 0) (wordAt bytes 2))
  else if kind = 0x68#8 then .queued (.notifyMask (wordAt bytes 0) (wordAt bytes 2))
  else if kind = 0x70#8 then .hold
  else .go

/-- The second step of validation: the kind must be one a server sends, and the length its own (R3). -/
def decodeFrame (kind : Byte) (payload : List Byte) : Option InFrame :=
  if inboundLength kind = some payload.length then some (decodePayload kind payload) else none

/-! ## Frames to a server (R18, R20) -/

def outKind : OutFrame → Nat
  | .reply _ _ _ _ => 0xA1
  | .dataRequest _ _ => 0xA2
  | .readData _ _ _ => 0xA4
  | .record _ _ _ _ _ => 0xA5
  | .echo _ _ _ _ _ _ _ => 0xB0
  | .flagNotice _ => 0xB8
  | .ownershipNotice _ _ _ _ => 0xB8
  | .hold => 0x70
  | .go => 0x71

def outPayload : OutFrame → List Byte
  | .reply tag status done epoch =>
    beBytes 2 tag.toNat ++ beBytes 1 (statusCode status) ++ beBytes 2 done.toNat ++ beBytes 2 epoch.toNat
  | .dataRequest tag count => beBytes 2 tag.toNat ++ beBytes 2 count.toNat
  | .readData tag offset data => beBytes 2 tag.toNat ++ beBytes 2 offset.toNat ++ data
  | .record tag status table index fields =>
    beBytes 2 tag.toNat ++ beBytes 1 (statusCode status) ++ [table] ++ beBytes 2 index.toNat ++ fields
  | .echo sequence epoch owner role state health partner =>
    [sequence] ++ beBytes 2 epoch.toNat ++ beBytes 1 (pathCode owner) ++ beBytes 1 (roleCode role) ++
      beBytes 1 (ownStateCode state) ++ beBytes 1 (healthCode health) ++ beBytes 1 (healthCode partner)
  | .flagNotice flag => beBytes 1 1 ++ beBytes 1 (flagId flag)
  | .ownershipNotice epoch owner role count =>
    beBytes 1 2 ++ beBytes 2 epoch.toNat ++ beBytes 1 (pathCode owner) ++ beBytes 1 (roleCode role) ++
      beBytes 4 count.toNat
  | .hold => []
  | .go => []

/-- The characters of a frame with its envelope, as marker and data byte: the kind, the length, the payload, and the
check, which is the sum of all before it. The kind alone is marked, in either direction (R18). -/
def frameCharacters (kind : Byte) (payload : List Byte) : List (Bool × Byte) :=
  let rest := beBytes 2 payload.length ++ payload
  (true, kind) :: (rest ++ beBytes 2 (byteSum (kind :: rest))).map (fun b => (false, b))

/-- The characters of an outbound frame (R13, R18, R20). -/
def outCharacters (f : OutFrame) : List (Bool × Byte) :=
  frameCharacters (BitVec.ofNat 8 (outKind f)) (outPayload f)

/-! ## The ownership block (R24) -/

/-- Bytes 0 to 39 of the ownership block. -/
def blockHeader (c : Contents) : List Byte :=
  [0x56#8, 0x48#8, 0x57#8, 0x42#8, 0x01#8] ++ beBytes 1 (pathCode c.owner) ++ beBytes 2 c.epoch.toNat ++
    beBytes 4 c.count.toNat ++ encodePolicy c.policy

/-- Page 255 filled with the contents of a commit: the header, zeros, and the checksum in bytes 4094 and 4095 (R24,
R53). -/
def fillOwnershipPage (c : Contents) (m : Memory) : Memory :=
  let base := pageBase Config.ownershipPage
  let sum := byteSum (blockHeader c)
  let filled := fillPage m Config.ownershipPage (blockHeader c)
  writeByte (writeByte filled (base + 4094) (BitVec.ofNat 8 (sum / 256))) (base + 4095) (BitVec.ofNat 8 sum)

/-- What the load finds in page 255 (R61). -/
inductive Judgement where
  | blank
  | valid (ownerByte : Byte) (epoch : Word) (count : CommitCount) (record : PolicyRecord)
  | bad
  deriving DecidableEq, Repr

/-- The judgement of the block in page 255: blank, valid by signature, version and checksum alone, or bad (R24, R61). -/
def judgeBlock (m : Memory) : Judgement :=
  let base := pageBase Config.ownershipPage
  let cells := cellsIn m base Config.blockBytes
  let header := readBytes cells 40 base
  let sum := byteSum ((cellsIn cells base 4094).map (fun c => c.2))
  if cells = [] then .blank
  else if header.take 5 = [0x56#8, 0x48#8, 0x57#8, 0x42#8, 0x01#8] ∧
      sum % 65536 = beNat (readBytes cells 2 (base + 4094)) then
    .valid (byteAt header 5) (wordAt header 6) (BitVec.ofNat 32 (fieldAt header 8 4)) (decodePolicy (header.drop 12))
  else .bad

end Sys2Proof.Machine
end

