-- ==== Sys2Proof/Machine/Operands.lean ====
section
/-! DEFINITION. What the fields of a frame and of the policy in force mean: flag bits, clamping and validation of a
policy record (R52), the staging thresholds (R149), epoch succession (R43), ranges and the common classification (R100,
R101). -/

namespace Sys2Proof.Machine

/-! ## The policy record -/

/-- The staging page quota of a path. -/
def quotaOf (r : PolicyRecord) : Path → Nat
  | .a => r.quotaA.toNat
  | .b => r.quotaB.toNat

def autoTakeover (r : PolicyRecord) : Bool := r.flags.getLsbD 0
def allowForce (r : PolicyRecord) : Bool := r.flags.getLsbD 1
def shareReads (r : PolicyRecord) : Bool := r.flags.getLsbD 2
def allowPosted (r : PolicyRecord) : Bool := r.flags.getLsbD 3

/-- A value brought into a range (R52). -/
def clampTo (lo hi n : Nat) : Nat :=
  if n < lo then lo else if hi < n then hi else n

def clampByte (lo hi : Nat) (v : Byte) : Byte := BitVec.ofNat 8 (clampTo lo hi v.toNat)
def clampWord (lo hi : Nat) (v : Word) : Word := BitVec.ofNat 16 (clampTo lo hi v.toNat)

/-- The first step of R52: each field with a clamped range is brought into it, and flag bits 4 to 7 are cleared. -/
def clampPolicy (r : PolicyRecord) : PolicyRecord :=
  { r with
    pulsePeriodMs := clampWord 10 1000 r.pulsePeriodMs
    pulseCredit := clampByte 1 255 r.pulseCredit
    missWeight := clampByte 1 255 r.missWeight
    graceMs := clampWord 0 60000 r.graceMs
    drainMs := clampWord 100 60000 r.drainMs
    driveTimeoutMs := clampWord 1000 60000 r.driveTimeoutMs
    flags := r.flags &&& 0x0F#8
    quotaA := clampByte 16 239 r.quotaA
    quotaB := clampByte 16 239 r.quotaB
    holdMargin := clampByte 1 223 r.holdMargin
    maxEntries := clampByte 1 32 r.maxEntries }

/-- The order of the three health thresholds (R52). -/
def thresholdsOrdered (r : PolicyRecord) : Bool :=
  decide (r.doubtLo.toNat < r.doubtHi.toNat) && decide (r.doubtHi.toNat < r.lostAt.toNat)

/-- The second step of R52: whether a clamped record is valid under a reported capacity. -/
def validPolicy (capacity : Nat) (r : PolicyRecord) : Bool :=
  thresholdsOrdered r && decide (r.quotaA.toNat + r.quotaB.toNat ≤ 255) &&
    (r.commonCount == 0#16 || decide (r.commonStart.toNat + r.commonCount.toNat ≤ capacity))

/-- Clamp and validate a record: its clamped form, or nothing for BAD_POLICY (R52). -/
def acceptPolicy (capacity : Nat) (r : PolicyRecord) : Option PolicyRecord :=
  if validPolicy capacity (clampPolicy r) then some (clampPolicy r) else none

/-! ## Staging thresholds (R149) -/

def effectiveMargin (r : PolicyRecord) (p : Path) : Nat :=
  min r.holdMargin.toNat (quotaOf r p - 1)

def holdHi (r : PolicyRecord) (p : Path) : Nat :=
  quotaOf r p - effectiveMargin r p

def holdLo (r : PolicyRecord) (p : Path) : Nat :=
  holdHi r p / 2

/-! ## Epochs -/

/-- The next epoch: 1 follows 65535, and 0 is never produced (R43). -/
def nextEpoch (e : Word) : Word :=
  if e = 0xFFFF#16 then 1#16 else e + 1#16

/-! ## Commands -/

/-- The operation of a COMMAND's op field (R19); `none` outside 1 to 3. -/
def opOf (op : Byte) : Option Op :=
  if op = 1#8 then some .read else if op = 2#8 then some .write else if op = 3#8 then some .flush else none

/-- Whether a range of blocks ends at or below the reported capacity (R100). The sum is exact. -/
def inRange (capacity start count : Nat) : Bool :=
  decide (start + count ≤ capacity)

/-- Whether a READ or WRITE lies inside the common region (R101). -/
def isCommon (r : PolicyRecord) (start count : Nat) : Bool :=
  decide (0 < r.commonCount.toNat) && decide (r.commonStart.toNat ≤ start) &&
    decide (start + count ≤ r.commonStart.toNat + r.commonCount.toNat)

/-- Whether two ranges overlap (R107). -/
def overlaps (s1 n1 s2 n2 : Nat) : Bool :=
  decide (s1 < s2 + n2) && decide (s2 < s1 + n1)

/-- Bit 0 of a flags field: posted request, force or handover (R19). -/
def flagBit0 (flags : Byte) : Bool := flags.getLsbD 0

/-- Bit 1 of a CLAIM's flags field: override (R19). -/
def flagBit1 (flags : Byte) : Bool := flags.getLsbD 1

end Sys2Proof.Machine
end

