-- ==== Sys2Proof/Machine/Flags.lean ====
section
/-! DEFINITION. Fault flags, FLAG notices and the answers of the Fault and Notice Unit (R179, R180). -/

namespace Sys2Proof.Machine

/-- The bit of a flag in a flag set (R21). -/
def flagMask (f : Flag) : FlagSet :=
  1#9 <<< (flagId f - 1)

def hasFlag (set : FlagSet) (f : Flag) : Bool :=
  set.getLsbD (flagId f - 1)

/-- Offer a FLAG notice: where it has to wait, it is not added beside one of the same id that waits (R180). -/
def Pif.offerFlagNotice (flag : Flag) (f : Pif) : Pif :=
  if !f.hasRoom && f.waiting.any (fun w => w.producer == .fnuFlag flag) then f
  else Pif.offer (.fnuFlag flag) { frame := .flagNotice flag, tie := .plain } f

/-- Set a flag in one copy, with its FLAG notice where it was clear and the mask has its bit (R179). -/
def raiseIn (p : Path) (flag : Flag) (s : State) : State :=
  if hasFlag (s.fnu.flags.get p) flag then s
  else
    let set : State :=
      { s with fnu := { s.fnu with flags := s.fnu.flags.set p (s.fnu.flags.get p ||| flagMask flag) } }
    if hasFlag (s.fnu.masks.get p) flag then set.onPif p (Pif.offerFlagNotice flag) else set

/-- Set a flag in both copies (R179). -/
def raiseBoth (flag : Flag) (s : State) : State :=
  raiseIn .b flag (raiseIn .a flag s)

/-- The number of answers of the unit that wait for a path (R180). -/
def waitingAnswerCount (s : State) (p : Path) : Nat :=
  ((s.pif.get p).waiting.filter (fun w => w.producer == .fnuAnswer)).length

/-- Whether the unit decides an INSPECT, CLEAR or NOTIFY_MASK of a path: with 16 answers waiting it discards it
(R180). -/
def answersRoom (s : State) (p : Path) : Bool :=
  decide (waitingAnswerCount s p < Config.waitingAnswers)

/-- A REPLY of the unit, with done 0 and the current epoch (R181). -/
def answer (p : Path) (tag : Word) (status : Status) (s : State) : State :=
  s.offer p .fnuAnswer (.reply tag status 0#16 s.owc.epoch)

end Sys2Proof.Machine
end

