-- ==== Sys2Proof/Machine/Staging.lean ====
section
/-! DEFINITION. The Staging Buffer: pages and occupancy (R137 to R139), grants (R145, R146), release (R148), HOLD and GO
(R149 to R152). -/

namespace Sys2Proof.Machine

/-! ## Pages and occupancy -/

/-- The occupancy of a path: the pages allocated to it (R139). -/
def State.occupancy (s : State) (p : Path) : Nat :=
  (s.stb.pages.filter (fun r => r.path == p)).length

/-- The free pages, lowest number first (R137). -/
def State.freePages (s : State) : List Nat :=
  (List.range Config.pathPages).filter (fun n => !s.stb.pages.any (fun r => r.number == n))

/-- Insert a page record by rising number. -/
def insertPage (r : PageRecord) : List PageRecord → List PageRecord
  | [] => [r]
  | x :: rest => if r.number < x.number then r :: x :: rest else x :: insertPage r rest

/-- Allocate a page. -/
def State.allocate (r : PageRecord) (s : State) : State :=
  { s with stb := { s.stb with pages := insertPage r s.stb.pages } }

/-- Free the pages a test accepts (R148). -/
def State.freeWhere (test : PageRecord → Bool) (s : State) : State :=
  { s with stb := { s.stb with pages := s.stb.pages.filter (fun r => !test r) } }

/-- Whether a page record belongs to the entry in a slot, with an offset from `offset` on, `length` blocks long. -/
def PageRecord.within (slot offset length : Nat) (r : PageRecord) : Bool :=
  r.slot == some slot && decide (offset ≤ r.offset) && decide (r.offset < offset + length)

/-- Change the state of an entry's pages at a run of offsets. -/
def State.markPages (slot offset length : Nat) (st : PageState) (s : State) : State :=
  { s with
    stb := { s.stb with
      pages := s.stb.pages.map (fun r => if r.within slot offset length then { r with state := st } else r) } }

/-- Free an entry's pages at a run of offsets. -/
def State.freeRun (slot offset length : Nat) (s : State) : State :=
  s.freeWhere (fun r => r.within slot offset length)

/-- The page of an entry's block, if one is allocated. -/
def State.pageAt (s : State) (slot offset : Nat) : Option PageRecord :=
  s.stb.pages.find? (fun r => r.within slot offset 1)

/-- Whether an entry's block has been fetched and not yet delivered (R138). -/
def State.isFetched (s : State) (slot offset : Nat) : Bool :=
  s.stb.pages.any (fun r => r.within slot offset 1 && r.state == .fetched)

/-- The stall evidence of R30: whether the path holds a FETCHED page (R147). -/
def State.holdsFetched (s : State) (p : Path) : Bool :=
  s.stb.pages.any (fun r => r.path == p && r.state == .fetched)

/-- The numbers of an entry's pages at a run of offsets, in offset order. -/
def State.pagesOfRun (s : State) (slot offset : Nat) : Nat → List Nat
  | 0 => []
  | n + 1 =>
    match s.pageAt slot offset with
    | some r => r.number :: s.pagesOfRun slot (offset + 1) n
    | none => s.pagesOfRun slot (offset + 1) n

/-! ## HOLD and GO -/

/-- The HOLD condition (R150): link UP, part-hold clear, occupancy at or above hold_hi. -/
def testHold (p : Path) (s : State) : State :=
  if s.linkUp p && !(s.pif.get p).partHold && decide (holdHi s.owc.policy p ≤ s.occupancy p) then
    s.onPif p Pif.sendHold
  else s

/-- The GO condition (R151): link UP, part-hold set, occupancy at or below hold_lo. -/
def testGo (p : Path) (s : State) : State :=
  if s.linkUp p && (s.pif.get p).partHold && decide (s.occupancy p ≤ holdLo s.owc.policy p) then
    s.onPif p Pif.askGo
  else s

/-- The test after an event: GO where the path's occupancy is lower than before it (R148, R151). -/
def testGoAfter (before : State) (p : Path) (s : State) : State :=
  if s.occupancy p < before.occupancy p then testGo p s else s

/-- The test at a policy take-effect: HOLD while the flag is clear, GO while it is set (R152). -/
def testThresholds (p : Path) (s : State) : State :=
  if (s.pif.get p).partHold then testGo p s else testHold p s

/-! ## Read page grants -/

/-- The length of a new segment (R118, R119). -/
def Entry.newLength (e : Entry) : Nat :=
  min Config.segmentBlocks (e.count - e.frontier)

/-- Whether a read asks for pages (R145). -/
def Entry.asksGrant (e : Entry) : Bool :=
  e.op == .read && e.phase == .running && e.returned.isEmpty && decide (e.frontier < e.count) && e.readGrant.isNone

/-- Insert a request by rising age. -/
def insertRequest (g : GrantRequest) : List GrantRequest → List GrantRequest
  | [] => [g]
  | x :: rest => if g.age < x.age then g :: x :: rest else x :: insertRequest g rest

/-- Place the request of an entry, unless it has one in the list. -/
def placeRequest (e : Entry) (s : State) : State :=
  if e.asksGrant && !s.stb.grants.any (fun g => g.slot == e.slot) then
    { s with
      stb := { s.stb with
        grants := insertRequest { slot := e.slot, path := e.origin, age := e.age, length := e.newLength }
          s.stb.grants } }
  else s

/-- Place the requests of every read that asks for pages (R145). -/
def placeRequests (s : State) : State :=
  s.ift.foldl (fun t e => placeRequest e t) s

/-- Withdraw the request of the entry in a slot (R145). -/
def withdrawRequest (slot : Nat) (s : State) : State :=
  { s with stb := { s.stb with grants := s.stb.grants.filter (fun g => !(g.slot == slot)) } }

/-- Allocate the lowest free pages to consecutive offsets of a read, in state GRANTED. -/
def allocateRun (slot : Nat) (p : Path) : Nat → List Nat → State → State
  | _, [], s => s
  | offset, n :: rest, s =>
    allocateRun slot p (offset + 1) rest
      (s.allocate { number := n, path := p, slot := some slot, offset := offset, state := .granted })

/-- Make a grant: the pages allocated, the entry holding it, the request withdrawn, HOLD tested (R146). -/
def makeGrant (g : GrantRequest) (s : State) : State :=
  match s.entry? g.slot with
  | none => withdrawRequest g.slot s
  | some e =>
    testHold g.path
      (withdrawRequest g.slot
        ((allocateRun g.slot g.path e.frontier (s.freePages.take g.length) s).onEntry g.slot
          (fun x => { x with readGrant := some g.length })))

/-- Walk the grant list, oldest request first (R146). `full` marks the paths whose oldest waiting request exceeds its
quota; a shortage of free pages ends the walk. A request that fails both tests is taken as one over its quota, and the
walk goes on for the other path: DESIGN CHOICE, notes/assumptions/37.md. -/
def walkFrom : List GrantRequest → Both Bool → State → State
  | [], _, s => s
  | g :: rest, full, s =>
    if full.get g.path then walkFrom rest full s
    else if quotaOf s.owc.policy g.path < s.occupancy g.path + g.length then
      walkFrom rest (full.set g.path true) s
    else if s.freePages.length < g.length then s
    else walkFrom rest full (makeGrant g s)

/-- Place the requests due and walk the grant list (R145, R146). -/
def walkGrants (s : State) : State :=
  let t := placeRequests s
  walkFrom t.stb.grants { a := false, b := false } t

end Sys2Proof.Machine
end

