-- ==== Sys2Proof/Machine/Drive.lean ====
section
/-! DEFINITION. The Drive Port's slots: the reserved slot's request and issue (R164), issuable segments (R118 to R120),
the slot arbiter (R162, R121), the issue of an IDENTIFY (R158). -/

namespace Sys2Proof.Machine

/-- The duration a slot's timer is started with (R163). -/
def State.driveTimeout (s : State) : Nat :=
  s.owc.policy.driveTimeoutMs.toNat

def State.slotBusy (s : State) (slot : Nat) : Bool :=
  s.dpt.busy.any (fun b => b.slot == slot)

/-- What a drive slot holds. -/
def State.holderOf (s : State) (slot : Nat) : Option Holder :=
  (s.dpt.busy.find? (fun b => b.slot == slot)).map (fun b => b.holder)

/-- Free a drive slot; its timer stops with it (R161). -/
def State.freeSlot (slot : Nat) (s : State) : State :=
  { s with dpt := { s.dpt with busy := s.dpt.busy.filter (fun b => !(b.slot == slot)) } }

/-- Take a command into a slot, start the slot's timer and send the drive its descriptor (R155, R163). -/
def State.takeSlot (slot : Nat) (holder : Holder) (request : DriveRequest) (s : State) : State :=
  { s with
    dpt := { s.dpt with
      busy := s.dpt.busy ++ [{ slot := slot, holder := holder, timer := s.driveTimeout }]
      requests := s.dpt.requests ++ [request] } }

/-! ## The reserved slot -/

/-- Issue the waiting reserved-slot request when the drive is READY and the reserved slot, n − 1, is free (R164). -/
def issueReserved (s : State) : State :=
  match s.dpt.request with
  | none => s
  | some op =>
    if s.dpt.state = .ready ∧ s.slotBusy (s.dpt.slotCount - 1) = false then
      let slot := s.dpt.slotCount - 1
      let descriptor : DriveRequest :=
        match op with
        | .load => .read slot s.reportedCapacity 1 [Config.ownershipPage]
        | .commit => .write slot s.reportedCapacity 1 [Config.ownershipPage]
      let t := s.takeSlot slot (.blockOp op s.owc.attempt) descriptor
      { t with dpt := { t.dpt with request := none } }
    else s

/-- OWC's request for an ownership block operation: not kept while the drive is given up, and issued at once where it
can be (R164). -/
def requestBlockOp (op : BlockOp) (s : State) : State :=
  if s.dpt.state = .failed ∨ s.dpt.state = .halted ∨ s.dpt.state = .absent then s
  else issueReserved { s with dpt := { s.dpt with request := some op } }

/-! ## Issuable segments -/

/-- The issuable segment of a RUNNING entry: the returned range of lowest offset, or a new segment once a write has
staged all of it or a read holds its grant (R118, R119); a FLUSH that is not outstanding (R120). -/
def Entry.issuable (e : Entry) : Option Run :=
  if e.phase = .running then
    match e.op with
    | .flush => if e.outstanding.isEmpty then some { offset := 0, length := 0 } else none
    | .write =>
      match e.returned with
      | r :: _ => some r
      | [] =>
        if e.frontier < e.count ∧ e.newLength ≤ e.staged - e.frontier then
          some { offset := e.frontier, length := e.newLength }
        else none
    | .read =>
      match e.returned with
      | r :: _ => some r
      | [] =>
        match e.readGrant with
        | some l => some { offset := e.frontier, length := l }
        | none => none
  else none

/-- The entry after its issuable segment has been taken into a drive slot (R117, R121). -/
def Entry.issueInto (driveSlot : Nat) (run : Run) (e : Entry) : Entry :=
  let segment : Segment := { driveSlot := driveSlot, offset := run.offset, length := run.length }
  match e.op with
  | .flush => { e with outstanding := e.outstanding ++ [segment] }
  | .read | .write =>
    match e.returned with
    | _ :: rest =>
      { e with returned := rest, issued := e.issued + run.length, outstanding := e.outstanding ++ [segment] }
    | [] =>
      { e with issued := e.issued + run.length, frontier := e.frontier + run.length, readGrant := none,
               outstanding := e.outstanding ++ [segment] }

/-- The descriptor of a segment (R155). -/
def segmentDescriptor (driveSlot : Nat) (e : Entry) (run : Run) (s : State) : DriveRequest :=
  match e.op with
  | .flush => .flush driveSlot
  | .read => .read driveSlot (e.start + run.offset) run.length (s.pagesOfRun e.slot run.offset run.length)
  | .write => .write driveSlot (e.start + run.offset) run.length (s.pagesOfRun e.slot run.offset run.length)

/-- Take an entry's segment into a drive slot: its pages are AT_DRIVE (R147), the slot's timer runs (R163). -/
def issueSegment (driveSlot : Nat) (e : Entry) (run : Run) (s : State) : State :=
  ((s.takeSlot driveSlot (.segment e.slot run.offset run.length e.op) (segmentDescriptor driveSlot e run s)).markPages
    e.slot run.offset run.length .atDrive).onEntry e.slot (fun x => x.issueInto driveSlot run)

/-- The lowest-numbered free path slot (R162). -/
def State.freePathSlot (s : State) : Option Nat :=
  (List.range (s.dpt.slotCount - 1)).find? (fun k => !s.slotBusy k)

/-- The oldest entry with an issuable segment; the table stands in order of age (R162). -/
def State.oldestIssuable (s : State) : Option Entry :=
  s.ift.find? (fun e => e.issuable.isSome)

/-- One gift of the slot arbiter: the lowest free path slot to the oldest entry's issuable segment, while the drive is
READY (R162). A read then asks for its next grant (R119). -/
def arbiterGift (s : State) : Option State :=
  if s.dpt.state = .ready then
    match s.freePathSlot, s.oldestIssuable with
    | some k, some e =>
      match e.issuable with
      | some run => some (walkGrants (issueSegment k e run s))
      | none => none
    | _, _ => none
  else none

/-- The arbiter runs again at once after each gift (R162). Each gift takes a path slot, so that as many runs as there
are slots reach the end. -/
def arbiterRuns : Nat → State → State
  | 0, s => s
  | n + 1, s =>
    match arbiterGift s with
    | some t => arbiterRuns n t
    | none => s

/-- A run of the slot arbiter (R162). -/
def runArbiter (s : State) : State :=
  arbiterRuns s.dpt.slotCount s

/-! ## Identify -/

/-- An identify attempt begins: the drive is IDENTIFYING and an IDENTIFY is issued in slot 0, which is the only command
outstanding (R158). -/
def startIdentify (s : State) : State :=
  let t : State := { s with dpt := { s.dpt with state := .identifying, busy := [] } }
  t.takeSlot 0 .identify .identify

end Sys2Proof.Machine
end

