-- ==== Sys2Proof/Machine/Ownership.lean ====
section
/-! DEFINITION. The Ownership Controller's shared operations: roles (R42), notices (R58), history (R66), the orphan list
(R90), the beginning of a commit (R53), the drain's end and its closing commit (R80, R87, R88). -/

namespace Sys2Proof.Machine

/-! ## Roles -/

/-- The role of a path that is neither OWNER, RELEASING nor FENCED (R42). -/
def nonOwnerRole (r : PolicyRecord) : Role :=
  if shareReads r then .sharer else .standby

/-- The role R42's list gives a path. A releaser is the drained path of a drain in its cooperative stage: it is
RELEASING until it is fenced or the drain ends. -/
def roleFor (o : Owc) (p : Path) : Role :=
  if o.roles.get p = .fenced then .fenced
  else if (o.state = .owned ∨ o.state = .grace) ∧ o.owner = some p then .owner
  else if o.state = .draining ∧ o.drainStage = some .cooperative ∧ o.drainedPath = some p then .releasing
  else nonOwnerRole o.policy

/-- The roles set afresh (R42). -/
def refreshRoles (s : State) : State :=
  { s with owc := { s.owc with roles := { a := roleFor s.owc .a, b := roleFor s.owc .b } } }

/-- Set the role of one path. -/
def setRole (p : Path) (r : Role) (s : State) : State :=
  { s with owc := { s.owc with roles := s.owc.roles.set p r } }

/-! ## Notices and replies -/

/-- The OWNERSHIP notice of a path; discarded at the offer when its link is DOWN (R58, R6). -/
def sendNotice (p : Path) (s : State) : State :=
  s.offer p .owc (.ownershipNotice s.owc.epoch s.owc.owner (s.role p) s.owc.commitCount)

/-- The OWNERSHIP notices of one event (R58). -/
def sendNotices (s : State) : State :=
  sendNotice .b (sendNotice .a s)

/-- Produce a waiting reply: done 0, and the epoch current when it is built (R45). -/
def produceReply (status : Status) (r : OwedReply) (s : State) : State :=
  s.offer r.path .owc (.reply r.tag status 0#16 s.owc.epoch)

/-- Owe a reply to an ownership request until the commit of a purpose decides it (R45). -/
def oweReply (p : Path) (tag : Word) (purpose : Purpose) (s : State) : State :=
  { s with
    owc := { s.owc with owedReplies := s.owc.owedReplies ++ [{ path := p, tag := tag, purpose := purpose }] } }

/-! ## History and the orphan list -/

/-- Add a history record, newest first, dropping the oldest beyond 8 (R66). -/
def addHistory (r : HistoryRecord) (s : State) : State :=
  { s with owc := { s.owc with history := (r :: s.owc.history).take Config.historyDepth } }

/-- A counter that stops at 255 (R90). -/
def bump (n : Nat) : Nat :=
  min (n + 1) Config.counterMax

/-- The orphan list, dropped counter and orphans-added counter after a record is added (R90). -/
def Owc.withOrphan (r : OrphanRecord) (o : Owc) : Owc :=
  { o with
    orphans := (if Config.orphanDepth ≤ o.orphans.length then o.orphans.drop 1 else o.orphans) ++ [r]
    dropped := if Config.orphanDepth ≤ o.orphans.length then bump o.dropped else o.dropped
    orphansAdded := o.orphansAdded.map bump }

/-- Add an orphan record and set ORPHANS in both copies (R90). -/
def addOrphan (r : OrphanRecord) (s : State) : State :=
  raiseBoth .orphans { s with owc := s.owc.withOrphan r }

/-! ## Commits -/

/-- Whether a commit is in flight (R53). -/
def State.commitInFlight (s : State) : Bool :=
  s.owc.contents.isSome

/-- The contents of a commit that names a successor or none under the next epoch (R46, R88). -/
def successionContents (o : Owc) : Contents :=
  { owner := o.successor.join, epoch := nextEpoch o.epoch, count := o.commitCount + 1#32, policy := o.policy }

/-- The beginning of a commit: attempt 1, page 255 filled, the write asked of DPT (R53). -/
def beginCommit (purpose : Purpose) (c : Contents) (s : State) : State :=
  requestBlockOp .commit
    { s with
      owc := { s.owc with purpose := some purpose, contents := some c, attempt := 1, waitingTransition := none }
      mem := fillOwnershipPage c s.mem }

/-- A transition that needs a commit: its commit begins, or it waits for the one in flight (R53). While that one is in
flight the record keeps its purpose (R40). -/
def beginTransition (purpose : Purpose) (s : State) : State :=
  if s.commitInFlight then { s with owc := { s.owc with waitingTransition := some purpose } }
  else beginCommit purpose (successionContents s.owc) s

/-! ## The drain's end -/

/-- The commit purpose of a drain cause (R88). -/
def drainPurpose : DrainCause → Purpose
  | .loss => .loss
  | .forced => .forced
  | .release => .release
  | .handover => .handover

/-- Whether a path may be chosen as successor at drain end (R87). -/
def State.eligible (s : State) (p : Path) : Bool :=
  (s.hmon.get p).health == .healthy && s.role p != .fenced

/-- The successor chosen at drain end (R87). -/
def chooseSuccessor (cause : DrainCause) (drained : Path) (s : State) : Option Path :=
  match cause with
  | .release => none
  | .loss => if s.eligible drained.other then some drained.other else none
  | .handover | .forced =>
    match s.owc.successor.join with
    | some p => if s.eligible p then some p else none
    | none => none

/-- Drain end: the timer stopped, the successor chosen, the state COMMITTING, the closing commit begun or waiting (R80,
R87, R88). -/
def endDrain (cause : DrainCause) (drained : Path) (s : State) : State :=
  beginTransition (drainPurpose cause)
    (refreshRoles
      { s with
        owc := { s.owc with
          state := .committing
          drainTimer := none
          successor := some (chooseSuccessor cause drained s) } })

/-- The check for drain end: no entry of the drained path remains (R80). -/
def checkDrainEnd (s : State) : State :=
  match s.owc.drainCause, s.owc.drainedPath with
  | some cause, some drained =>
    if s.owc.state = .draining ∧ s.entryCount drained = 0 then endDrain cause drained s else s
  | _, _ => s

end Sys2Proof.Machine
end

