-- ==== Sys2Proof/Machine/InFlight.lean ====
section
/-! DEFINITION. The In-Flight Table: ends (R126), reports (R128), removal (R129), read-data delivery (R131), completions
(R122 to R125), aborts (R124), and what follows an event that touches the table (R121, R146, R148, R162). -/

namespace Sys2Proof.Machine

/-! ## What an entry has done -/

/-- The blocks a command has done: committed for a write, delivered for a read, 0 for a FLUSH (R128). -/
def Entry.doneBlocks (e : Entry) : Nat :=
  match e.op with
  | .write => e.committed
  | .read => e.delivered
  | .flush => 0

/-- The done field of an orphan record: for a FLUSH, 1 if it completed GOOD (R89). -/
def Entry.orphanDone (e : Entry) : Nat :=
  match e.op with
  | .flush => if e.flushDone then 1 else 0
  | _ => e.doneBlocks

/-- Whether the command has completed in full (R128). -/
def Entry.complete (e : Entry) : Bool :=
  match e.op with
  | .write => e.committed == e.count
  | .read => e.delivered == e.count
  | .flush => e.flushDone

/-- The orphan record of an entry (R89). -/
def Entry.orphan (outcome : Outcome) (e : Entry) : OrphanRecord :=
  { origin := e.origin, tag := e.tag, op := e.op, start := e.start, count := e.count, done := e.orphanDone,
    epoch := e.epoch, outcome := outcome }

/-- The outcome a fenced entry is removed with: COMPLETE_UNREPORTED where its command completed in full, and otherwise
the outcome fencing gave it (R76 to R78). A read of a fenced path is never complete (R77). -/
def Entry.finalOutcome (given : Outcome) (e : Entry) : Outcome :=
  match e.op with
  | .read => given
  | _ => if e.complete then .completeUnreported else given

/-! ## Delivery -/

/-- Whether a read is delivering (R131). -/
def Entry.delivering (role : Role) (e : Entry) : Bool :=
  e.op == .read &&
    (e.phase == .running ||
      (e.phase == .ending && e.fencedOutcome.isNone && !e.cut && role != .fenced &&
        (e.endStatus == some .mediaError || e.endStatus == some .driveStall || e.endStatus == some .driveFailed)))

/-- Whether the entry has a deliverable block: it is delivering and its block at offset d is fetched (R131). -/
def State.deliverable (s : State) (e : Entry) : Bool :=
  e.delivering (s.role e.origin) && s.isFetched e.slot e.delivered

/-- Offer the deliverable block of the path's oldest delivering read, when the path holds no READ_DATA (R131). -/
def offerReadData (p : Path) (s : State) : State :=
  if (s.pif.get p).holdsReadData then s
  else
    match s.ift.find? (fun e => e.origin == p && s.deliverable e) with
    | none => s
    | some e =>
      match s.pageAt e.slot e.delivered with
      | none => s
      | some r =>
        s.onPif p (Pif.offer .ift
          { frame := .readData e.tag (BitVec.ofNat 16 e.delivered) (readPage s.mem r.number)
            tie := .block e.slot e.age r.number })

/-! ## What follows an event that touches the table or the pages -/

/-- After an event: GO is tested on each path whose occupancy fell (R148), requests are placed and the grant list
walked (R145, R146), the slot arbiter runs (R162), and each path's next read block is offered (R131). R162 lets a free slot be
given before or after an entry gains its segment at the same event; the grants come first here: DESIGN CHOICE,
notes/assumptions/43.md. A GO or HOLD of the event is placed before the READ_DATA is offered: DESIGN CHOICE,
notes/assumptions/47.md. -/
def follow (before s : State) : State :=
  offerReadData .b (offerReadData .a (runArbiter (walkGrants (testGoAfter before .b (testGoAfter before .a s)))))

/-! ## Ends -/

/-- Decide an end, whatever end the entry holds: it enters ENDING, its blocked-by set, returned ranges and read grant
are emptied with their pages freed, its request is withdrawn, and a write's r is set to i (R126). -/
def endEntry (slot : Nat) (st : EndStatus) (s : State) : State :=
  withdrawRequest slot
    ((s.freeWhere (fun r => r.slot == some slot && (r.state == .staged || r.state == .granted))).onEntry slot
      (fun e =>
        { e with
          phase := .ending, endStatus := some st, blockedBy := [], returned := [], readGrant := none
          staged := if e.op = .write then e.issued else e.staged }))

/-- Decide an end for an entry that holds none: the first end decided holds (R126). -/
def decideEnd (st : EndStatus) (slot : Nat) (s : State) : State :=
  match s.entry? slot with
  | none => s
  | some e => if e.endStatus.isSome then s else endEntry slot st s

/-- Free the fetched blocks of a read (R126 to R133). -/
def discardFetched (slot : Nat) (s : State) : State :=
  s.freeWhere (fun r => r.slot == some slot && r.state == .fetched)

/-! ## Reports and removal -/

/-- Take a slot out of a blocked-by set; a BLOCKED entry whose set becomes empty goes to RUNNING (R129). -/
def Entry.unblock (slot : Nat) (e : Entry) : Entry :=
  let rest := e.blockedBy.filter (fun k => !(k == slot))
  { e with blockedBy := rest, phase := if e.phase = .blocked ∧ rest = [] then .running else e.phase }

/-- The removal of an entry: its pages are freed, its slot is taken out of every blocked-by set and freed (R129). -/
def dropEntry (slot : Nat) (s : State) : State :=
  let t := withdrawRequest slot (s.freeWhere (fun r => r.slot == some slot))
  { t with ift := (t.ift.filter (fun e => !(e.slot == slot))).map (Entry.unblock slot) }

/-- Offer an entry's final reply: the entry is removed when it enters or is discarded, and stays while it waits
(R128). -/
def finalReply (e : Entry) (status : Status) (s : State) : State :=
  let frame : OutFrame := .reply e.tag status (BitVec.ofNat 16 e.doneBlocks) s.owc.epoch
  let offered := s.offer e.origin (.iftFinal e.slot) frame
  if s.linkUp e.origin && !(s.pif.get e.origin).hasRoom then
    offered.onEntry e.slot (fun x => { x with reported := true })
  else dropEntry e.slot offered

/-- An orphan record in place of a reply; POSTED_LOST also sets DATA_LOSS in both copies (R128). -/
def reportOrphan (e : Entry) (outcome : Outcome) (s : State) : State :=
  addOrphan (e.orphan outcome) (if outcome = .postedLost then raiseBoth .dataLoss s else s)

/-- The report of an entry, by the first row of R128 that fits it. The orphan record of a fenced entry is added here also
where its REPLY ORPHANED waits for room and the entry stays: R128 hands the record over at the report, R89 and R90 add it at
the removal: DESIGN CHOICE, notes/assumptions/54.md. -/
def makeReport (e : Entry) (s : State) : State :=
  match e.fencedOutcome with
  | some given =>
    finalReply e .orphaned
      ((reportOrphan e (e.finalOutcome given) s).onEntry e.slot
        (fun x => { x with fencedOutcome := some (e.finalOutcome given) }))
  | none =>
    if e.acked then
      if s.role e.origin = .fenced then
        dropEntry e.slot (reportOrphan e (if e.complete then .postedDone else .postedLost) s)
      else if e.complete then dropEntry e.slot s
      else dropEntry e.slot (reportOrphan e .postedLost s)
    else if e.cut then
      dropEntry e.slot (reportOrphan e (if e.complete then .completeUnreported else .linkCut) s)
    else
      match e.endStatus with
      | some st => finalReply e st.status s
      | none => s

/-- Whether an entry's report is due: it is in ENDING with nothing outstanding and nothing more to deliver, and its
report has not been made (R126, R131). -/
def State.reportDue (s : State) (e : Entry) : Bool :=
  e.phase == .ending && !e.reported && e.outstanding.isEmpty && !s.deliverable e

/-- Make the report of the entry in a slot, if it is due. A read's delivery is then over, and its fetched blocks at
higher offsets are discarded (R131). -/
def reportSlot (slot : Nat) (s : State) : State :=
  match s.entry? slot with
  | none => s
  | some e => if s.reportDue e then makeReport e (discardFetched slot s) else s

/-- Make every report that is due, oldest entry first (R128). -/
def reportAll (s : State) : State :=
  forSlots reportSlot (s.slotsWhere (fun _ => true)) s

/-- The end of an event that may have brought reports due: the reports, the check for drain end, and what follows. The rules
give no order between a report that comes due and the READ_DATA offered next at one event (R131), or between a report and the
GO test after the event (R148); the reports come first: DESIGN CHOICE, notes/assumptions/42.md and notes/assumptions/44.md. -/
def conclude (before s : State) : State :=
  follow before (checkDrainEnd (reportAll s))

/-! ## Waiting frames -/

/-- The frame that began to wait first enters a transmit queue with room (R12). A final reply that enters removes its
entry (R128). -/
def enterWaiting (p : Path) (s : State) : State :=
  let t := s.onPif p Pif.enterWaiting
  match (s.pif.get p).entering with
  | some (.iftFinal slot) => dropEntry slot t
  | _ => t

/-! ## Completions of segments -/

/-- Count a zero-progress event: the reissue count rises below 3, and the fourth ends the entry DRIVE_STALL (R124). -/
def countZeroProgress (slot : Nat) (s : State) : State :=
  match s.entry? slot with
  | none => s
  | some e =>
    if e.reissue < Config.reissueMax then s.onEntry slot (fun x => { x with reissue := x.reissue + 1 })
    else decideEnd .driveStall slot s

/-- Insert a returned range in offset order (R115). -/
def insertRun (r : Run) : List Run → List Run
  | [] => [r]
  | x :: rest => if r.offset < x.offset then r :: x :: rest else x :: insertRun r rest

/-- Take a segment off an entry's outstanding list. -/
def dropOutstanding (slot driveSlot : Nat) (s : State) : State :=
  s.onEntry slot
    (fun e => { e with outstanding := e.outstanding.filter (fun g => !(g.driveSlot == driveSlot)) })

/-- Put fetched blocks into the pages of consecutive offsets. -/
def placeBlocks (slot : Nat) : Nat → List (List Byte) → State → State
  | _, [], s => s
  | offset, b :: rest, s =>
    match s.pageAt slot offset with
    | some r => placeBlocks slot (offset + 1) rest { s with mem := fillPage s.mem r.number b }
    | none => placeBlocks slot (offset + 1) rest s

/-- The first `done` blocks the drive placed; a block it did not give is all unfilled bytes. -/
def firstBlocks : Nat → List (List Byte) → List (List Byte)
  | 0, _ => []
  | n + 1, [] => [] :: firstBlocks n []
  | n + 1, b :: rest => b :: firstBlocks n rest

/-- Count the first `done` blocks of a segment: a write's are committed and their pages freed; a read's are fetched into
their pages, or discarded where the read no longer delivers (R117, R122, R77, R133). -/
def countDone (e : Entry) (offset done : Nat) (blocks : List (List Byte)) (s : State) : State :=
  match e.op with
  | .flush => s
  | .write =>
    (s.freeRun e.slot offset done).onEntry e.slot (fun x => { x with committed := x.committed + done })
  | .read =>
    let t := s.onEntry e.slot (fun x => { x with fetched := x.fetched + done })
    if e.delivering (s.role e.origin) then
      (placeBlocks e.slot offset (firstBlocks done blocks) t).markPages e.slot offset done .fetched
    else t.freeRun e.slot offset done

/-- The undone part of a segment of a RUNNING entry becomes a returned range with its pages; that of an entry in ENDING
is not returned and its pages are freed (R123, R124). -/
def returnUndone (e : Entry) (offset length : Nat) (s : State) : State :=
  if length = 0 then s
  else
    let t := s.onEntry e.slot (fun x => { x with issued := x.issued - length })
    if e.phase = .running then
      (t.markPages e.slot offset length (if e.op = .write then .staged else .granted)).onEntry e.slot
        (fun x => { x with returned := insertRun { offset := offset, length := length } x.returned })
    else t.freeRun e.slot offset length

/-- The classes of a path slot's completion (R166, R168). -/
inductive CompletionClass where
  | good
  | partialDone
  | media
  deriving DecidableEq, Repr

/-- A write that has committed every block, or a flush that completed GOOD, enters ENDING with end status OK (R116,
R122). -/
def finishIfDone (slot : Nat) (s : State) : State :=
  match s.entry? slot with
  | none => s
  | some e => if e.phase = .running ∧ e.op ≠ .read ∧ e.complete then endEntry slot .ok s else s

/-- A completion of a READ or WRITE segment of length `length` (R122, R123, R125). -/
def completeBlocks (e : Entry) (offset length : Nat) (cls : CompletionClass) (done : Nat) (blocks : List (List Byte))
    (s : State) : State :=
  match cls with
  | .good => finishIfDone e.slot (countDone e offset length blocks s)
  | .partialDone =>
    let t := returnUndone e (offset + done) (length - done) (countDone e offset done blocks s)
    if done = 0 then countZeroProgress e.slot t else t
  | .media =>
    let t := decideEnd .mediaError e.slot s
    match t.entry? e.slot with
    | none => t
    | some x => returnUndone x (offset + done) (length - done) (countDone x offset done blocks t)

/-- A completion of a FLUSH (R168): GOOD ends it OK, PARTIAL returns it with a count, MEDIA ends it MEDIA_ERROR. -/
def completeFlush (e : Entry) (cls : CompletionClass) (s : State) : State :=
  match cls with
  | .good => finishIfDone e.slot (s.onEntry e.slot (fun x => { x with flushDone := true }))
  | .partialDone => countZeroProgress e.slot s
  | .media => decideEnd .mediaError e.slot s

/-- A completion reported to the table for the segment an entry holds in a drive slot (section 6.3). -/
def takeCompletion (slot driveSlot offset length : Nat) (cls : CompletionClass) (done : Nat)
    (blocks : List (List Byte)) (s : State) : State :=
  let t := dropOutstanding slot driveSlot s
  match t.entry? slot with
  | none => t
  | some e =>
    match e.op with
    | .flush => completeFlush e cls t
    | _ => completeBlocks e offset length cls done blocks t

/-! ## Aborts and the drive's failure -/

/-- The abort of each of an entry's outstanding segments (R124). -/
def abortSegments (slot : Nat) : List Segment → State → State
  | [], s => s
  | g :: rest, s =>
    let t := dropOutstanding slot g.driveSlot s
    match t.entry? slot with
    | none => abortSegments slot rest t
    | some e => abortSegments slot rest (returnUndone e g.offset g.length t)

/-- A drive reset taken by an entry: its segments are aborted, and the reset counts once if it held any (R124). -/
def abortEntry (slot : Nat) (s : State) : State :=
  match s.entry? slot with
  | none => s
  | some e =>
    if e.outstanding = [] then s else countZeroProgress slot (abortSegments slot e.outstanding s)

/-- The end of each of an entry's segments by the drive's failure: i falls by the length and the pages are freed (R117,
R148, R174). -/
def failSegments (slot : Nat) : List Segment → State → State
  | [], s => s
  | g :: rest, s =>
    failSegments slot rest
      (((dropOutstanding slot g.driveSlot s).onEntry slot (fun x => { x with issued := x.issued - g.length })).freeRun
        slot g.offset g.length)

/-- The drive's failure taken by an entry: its segments end, and DRIVE_FAILED is decided for it (R126, R174). -/
def failEntry (slot : Nat) (s : State) : State :=
  match s.entry? slot with
  | none => s
  | some e => decideEnd .driveFailed slot (failSegments slot e.outstanding s)

end Sys2Proof.Machine
end

