-- ==== Sys2Proof/Machine/Takeover.lean ====
section
/-! DEFINITION. Grace (R69, R71), the fencing step (R75 to R78), the beginning of a drain (R80), loss of the owner (R71,
R73). -/

namespace Sys2Proof.Machine

/-! ## The fencing step -/

/-- The answer to a frame emptied from the receive queue of a path being fenced: FENCED to a COMMAND, nothing to any
other (R75). -/
def answerFenced (p : Path) (s : State) : QueuedFrame → State
  | .command tag _ _ _ _ _ => s.offer p .owc (.reply tag .fenced 0#16 s.owc.epoch)
  | _ => s

/-- Withdraw the READ_DATA frames that have not begun; the one being sent is sent whole, and its end only frees its page
(R77). One that waits for room, which R77 and R132 do not name, is withdrawn too: DESIGN CHOICE,
notes/assumptions/36.md. -/
def Pif.withdrawReadData (f : Pif) : Pif :=
  { f with
    txq := f.txq.filter (fun x => !x.frame.isReadData)
    waiting := f.waiting.filter (fun w => !w.item.frame.isReadData)
    sending := f.sending.map (fun x =>
      match x.item.tie with
      | .block _ _ page => { x with item := { x.item with tie := .heldPage page } }
      | _ => x) }

/-- The page of a READ_DATA of the path that is being sent, if any. -/
def Pif.sendingPage (f : Pif) : Option Nat :=
  match f.sending with
  | some x =>
    match x.item.tie with
    | .block _ _ page => some page
    | _ => none
  | none => none

/-- Keep a page for the end of its READ_DATA's transmission alone (R77). -/
def detachPage (page : Nat) (s : State) : State :=
  { s with
    stb := { s.stb with
      pages := s.stb.pages.map (fun r => if r.number = page then { r with slot := none } else r) } }

/-- Withdraw a path's READ_DATA at fencing (R77). -/
def withdrawPathReadData (p : Path) (s : State) : State :=
  let t :=
    match (s.pif.get p).sendingPage with
    | some page => detachPage page s
    | none => s
  t.onPif p Pif.withdrawReadData

/-- The final reply of an entry removed by fencing stays with its waiting producer (R78). -/
def Pif.keepReply (slot : Nat) (f : Pif) : Pif :=
  { f with waiting := f.waiting.map (fun w => if w.producer = .iftFinal slot then { w with producer := .ift } else w) }

/-- The outcome fencing gives an entry that ends by it (R76 to R78). An issued FLUSH, whose outcome R78 gives at its drive
completion, holds NOT_STARTED until then: DESIGN CHOICE, notes/assumptions/46.md. -/
def Entry.fencingOutcome (e : Entry) : Outcome :=
  match e.op with
  | .flush => .notStarted
  | .write => if e.outstanding.isEmpty && e.issued == 0 then .notStarted else .torn
  | .read => if e.outstanding.isEmpty && e.issued == 0 then .notStarted else .readCut

/-- An entry treated by the fencing step: one whose final reply waits is removed with the reply kept; an acknowledged
write continues; every other ends with its outcome, a read's fetched blocks being discarded (R76 to R78). -/
def fenceEntry (slot : Nat) (s : State) : State :=
  match s.entry? slot with
  | none => s
  | some e =>
    if e.reported then dropEntry slot (s.onPif e.origin (Pif.keepReply slot))
    else if e.op = .write ∧ e.acked = true then s
    else
      let ended := (endEntry slot .fenced s).onEntry slot (fun x => { x with fencedOutcome := some e.fencingOutcome })
      if e.op = .read then discardFetched slot ended else ended

/-- Empty a path's receive queue. -/
def Pif.emptyReceive (f : Pif) : Pif :=
  { f with rxq := [] }

/-- The fencing step on a path: its role, its receive queue, its entries, and the reports they make due (R75). The
position that a withdrawn READ_DATA frees goes to the frame that began to wait first, before any frame the step goes on to
offer (R12). -/
def fence (p : Path) (s : State) : State :=
  let frames := (s.pif.get p).rxq
  let emptied := (setRole p .fenced s).onPif p Pif.emptyReceive
  let answered := frames.foldl (answerFenced p) emptied
  let withdrawn := enterWaiting p (withdrawPathReadData p answered)
  reportAll (forSlots fenceEntry (withdrawn.slotsWhere (fun e => e.origin == p)) withdrawn)

/-! ## Drains -/

/-- What the beginning of a drain records (R80). -/
def Owc.beginDrain (stage : DrainStage) (cause : DrainCause) (drained : Path) (successor : Option Path) (o : Owc) : Owc :=
  { o with
    state := .draining, owner := none, drainStage := some stage, drainCause := some cause
    drainedPath := some drained, successor := some successor, orphansAdded := some 0, graceTimer := none }

/-- Start or restart the drain timer with the drain_ms in force (R80, R82). -/
def startDrainTimer (s : State) : State :=
  { s with owc := { s.owc with drainTimer := some s.owc.policy.drainMs.toNat } }

/-- A drain that begins in stage 2: the record, the fencing step on the owner, the timer, the check for drain end (R71,
R72). -/
def beginFencedDrain (cause : DrainCause) (owner : Path) (s : State) : State :=
  let recorded : State := { s with owc := s.owc.beginDrain .fenced cause owner (some owner.other) }
  conclude s (refreshRoles (startDrainTimer (fence owner recorded)))

/-- A drain that begins in the cooperative stage: the record, the timer, the roles, the check for drain end (R49,
R80). -/
def beginReleaseDrain (cause : DrainCause) (releaser : Path) (successor : Option Path) (s : State) : State :=
  let recorded : State := { s with owc := s.owc.beginDrain .cooperative cause releaser successor }
  conclude s (refreshRoles (startDrainTimer recorded))

/-! ## The owner's health -/

/-- A report that a path is LOST. For the owner in OWNED with auto_takeover = 1 it enters GRACE (R69), or with
grace_ms = 0 begins the drain at once (R73). -/
def ownerLost (p : Path) (s : State) : State :=
  if s.owc.state = .owned ∧ s.owc.owner = some p ∧ autoTakeover s.owc.policy = true then
    if s.owc.policy.graceMs = 0#16 then beginFencedDrain .loss p s
    else
      refreshRoles
        { s with owc := { s.owc with state := .grace, graceTimer := some s.owc.policy.graceMs.toNat } }
  else s

/-- A report that a path is HEALTHY. For the owner in GRACE it ends GRACE (R71). -/
def ownerHealthy (p : Path) (s : State) : State :=
  if s.owc.state = .grace ∧ s.owc.owner = some p then
    refreshRoles { s with owc := { s.owc with state := .owned, graceTimer := none } }
  else s

end Sys2Proof.Machine
end

