-- ==== Sys2Proof/Machine/Health.lean ====
section
/-! DEFINITION. The Health Monitor: score arithmetic and evaluation (R25, R26), reports (R36), pulses (R29), windows
(R30), link errors (R33, R5), the ECHO (R9). -/

namespace Sys2Proof.Machine

/-! ## Evaluation and reports -/

/-- The evaluation of a path's health from its health before, its score and the thresholds in force (R26). -/
def evaluate (r : PolicyRecord) (before : Health) (score : Nat) : Health :=
  match before with
  | .healthy =>
    if r.lostAt.toNat ≤ score then .lost else if r.doubtHi.toNat ≤ score then .doubtful else .healthy
  | .doubtful =>
    if r.lostAt.toNat ≤ score then .lost else if score ≤ r.doubtLo.toNat then .healthy else .doubtful
  | .lost => if score ≤ r.doubtLo.toNat then .healthy else .lost

/-- The reports of a change of health: to OWC, and for an entry into LOST to FNU, which sets PARTNER_LOST in the
partner's copy (R36). -/
def reportHealth (p : Path) (old new : Health) (s : State) : State :=
  let told :=
    match new with
    | .lost => ownerLost p s
    | .healthy => ownerHealthy p s
    | .doubtful => s
  if new = .lost ∧ old ≠ .lost then raiseIn p.other .partnerLost told else told

/-- Evaluate a path's health, before any report of it (R26). -/
def judgeHealth (p : Path) (s : State) : State :=
  s.onHmon p (fun h => { h with health := evaluate s.owc.policy h.health h.score })

/-- Report a path's health where an evaluation has changed it from `old` (R36). -/
def reportChange (p : Path) (old : Health) (s : State) : State :=
  if (s.hmon.get p).health = old then s else reportHealth p old (s.hmon.get p).health s

/-- Evaluate a path's health and report a change (R26, R36). -/
def reevaluate (p : Path) (s : State) : State :=
  reportChange p (s.hmon.get p).health (judgeHealth p s)

/-- Evaluate both paths' health, and then report each change (R37). Path A's change is reported before Path B's: DESIGN
CHOICE, notes/assumptions/33.md. -/
def reevaluateBoth (s : State) : State :=
  reportChange .b (s.hmon.get .b).health (reportChange .a (s.hmon.get .a).health (judgeHealth .b (judgeHealth .a s)))

/-- The score after an addition, saturating at 255 (R25). -/
def raiseScore (score amount : Nat) : Nat :=
  min (score + amount) Config.scoreMax

/-- Give a path a new score as one event; a change is followed by one evaluation (R25). -/
def applyScore (p : Path) (score : Nat) (s : State) : State :=
  if score = (s.hmon.get p).score then s
  else reevaluate p (s.onHmon p (fun h => { h with score := score }))

/-! ## Link errors -/

/-- A link error: link_weight is added to the path's score (R33), and LINK_ERROR is set in its own copy (R5). R5 gives the
two no order; HMON's report and all that follows from it come first: DESIGN CHOICE, notes/assumptions/41.md. -/
def linkError (p : Path) (s : State) : State :=
  raiseIn p .linkError (applyScore p (raiseScore (s.hmon.get p).score s.owc.policy.linkWeight.toNat) s)

/-! ## Pulses and windows -/

/-- HMON takes a valid PULSE: one per window is credited (R29). -/
def takePulse (p : Path) (s : State) : State :=
  let h := s.hmon.get p
  if h.pulseCounted then s
  else
    applyScore p (h.score - s.owc.policy.pulseCredit.toNat) (s.onHmon p (fun x => { x with pulseCounted := true }))

/-- The ECHO that answers a PULSE, with the values current when it is built (R9). -/
def echoFor (p : Path) (sequence : Byte) (s : State) : OutFrame :=
  .echo sequence s.owc.epoch s.owc.owner (s.role p) s.owc.state (s.hmon.get p).health (s.hmon.get p.other).health

/-- The score at the end of a window: the miss, then the stall charge, as parts of one change (R30). -/
def windowScore (p : Path) (s : State) : Nat :=
  let h := s.hmon.get p
  let missed := if h.pulseCounted then h.score else raiseScore h.score s.owc.policy.missWeight.toNat
  if h.heldThroughout && s.holdsFetched p then raiseScore missed s.owc.policy.stallWeight.toNat else missed

/-- The next window begins: the flag clear, the timer restarted with the period in force, the held-throughout indicator
set if the server holds (R28, R30). -/
def nextWindow (p : Path) (s : State) : State :=
  s.onHmon p (fun h =>
    { h with
      pulseCounted := false
      window := some s.owc.policy.pulsePeriodMs.toNat
      heldThroughout := (s.pif.get p).serverHold })

end Sys2Proof.Machine
end

