-- ==== Sys2Proof/Machine/Commit.lean ====
section
/-! DEFINITION. A policy's take-effect (R65), the success of a commit (R54), failed attempts (R55, R56, R60), FROZEN
(R63), LOADING and the load (R59 to R62). -/

namespace Sys2Proof.Machine

/-! ## Take-effect -/

/-- A policy is put into force: the roles are set afresh, HMON evaluates both paths and then reports their changes, STB
tests its thresholds, and the grant list is walked (R65, R37, R152). HMON's part, with all that its reports bring about, comes
before STB's, and Path A's change is reported before Path B's: DESIGN CHOICE, notes/assumptions/33.md. -/
def takeEffect (r : PolicyRecord) (s : State) : State :=
  let inForce := refreshRoles { s with owc := { s.owc with policy := r } }
  let tested := testThresholds .b (testThresholds .a (reevaluateBoth inForce))
  follow tested tested

/-! ## FROZEN -/

/-- The record at an entry into FROZEN (R63, R86). -/
def Owc.freeze (cause : FrozenCause) (o : Owc) : Owc :=
  { o with
    state := .frozen, owner := none, drainStage := none, drainCause := none, successor := none, purpose := none
    frozenCause := some cause, pendingPolicy := none, contents := none, attempt := 0, owedReplies := []
    waitingTransition := none, graceTimer := none, drainTimer := none, drainedPath := none, orphansAdded := none }

/-- The status of a waiting reply at an entry into FROZEN: COMMIT_FAILED for the commit in flight, FROZEN for every
other (R63). A commit that has begun and whose first write still waits for READY counts as in flight: DESIGN CHOICE,
notes/assumptions/34.md. -/
def frozenStatus (o : Owc) (r : OwedReply) : Status :=
  if o.contents.isSome ∧ o.purpose = some r.purpose then .commitFailed else .frozen

/-- Settle the waiting replies of a record that is entering FROZEN (R63). -/
def settleReplies (o : Owc) : List OwedReply → State → State
  | [], s => s
  | r :: rest, s => settleReplies o rest (produceReply (frozenStatus o r) r s)

/-- An entry into FROZEN: the record, the roles, FROZEN in both copies, the notices, the waiting replies. In FROZEN
already, the cause DRIVE replaces another and nothing else happens (R63). -/
def enterFrozen (cause : FrozenCause) (s : State) : State :=
  if s.owc.state = .frozen then { s with owc := { s.owc with frozenCause := some cause } }
  else
    settleReplies s.owc s.owc.owedReplies
      (sendNotices (raiseBoth .frozen (refreshRoles { s with owc := s.owc.freeze cause })))

/-! ## LOADING -/

/-- The record at an entry into LOADING (R59). -/
def Owc.startLoading (o : Owc) : Owc :=
  { o with
    state := .loading, owner := none, drainStage := none, drainCause := none, successor := none, purpose := none
    frozenCause := none, pendingPolicy := none, contents := none, attempt := 0, owedReplies := []
    waitingTransition := none, graceTimer := none, drainTimer := none, drainedPath := none, orphansAdded := none }

/-- An entry into LOADING (R59). -/
def enterLoading (s : State) : State :=
  refreshRoles { s with owc := s.owc.startLoading }

/-- The beginning of the load: attempt 1, the read asked of DPT (R59). -/
def beginLoad (s : State) : State :=
  requestBlockOp .load { s with owc := { s.owc with attempt := 1 } }

/-- DPT's report that the drive is READY: in LOADING it begins the load, from FROZEN with cause DRIVE it enters LOADING
first, and otherwise it lets a waiting operation be issued (R159, R59, R64). -/
def driveReady (s : State) : State :=
  if s.owc.state = .loading ∧ s.owc.attempt = 0 then beginLoad s
  else if s.owc.state = .frozen ∧ s.owc.frozenCause = some .drive then beginLoad (enterLoading s)
  else issueReserved s

/-! ## The load's completion -/

/-- The START record of a load (R62). -/
def startRecord (s : State) : HistoryRecord :=
  { epoch := s.owc.epoch, newOwner := s.owc.owner, previousOwner := none, cause := .start, orphans := 0 }

/-- The completion of a load that ends in FROZEN: the steps of R62 and of R63 together, with one notice to each path
(R61, R62). -/
def loadBad (s : State) : State :=
  let effect := takeEffect s.owc.policy s
  let frozen := refreshRoles { effect with owc := effect.owc.freeze .blockBad }
  sendNotices (raiseBoth .frozen (raiseBoth .blockBad (addHistory (startRecord frozen) frozen)))

/-- The owner a valid block names: A or B by byte 5, and none where that path is FENCED (R61). -/
def loadedOwner (ownerByte : Byte) (s : State) : Option Path :=
  let named : Option Path := if ownerByte = 1#8 then some .a else if ownerByte = 2#8 then some .b else none
  match named with
  | some p => if s.role p = .fenced then none else some p
  | none => none

/-- The record after a load that names an owner or none (R61, R62). -/
def Owc.loaded (owner : Option Path) (epoch : Word) (count : CommitCount) (o : Owc) : Owc :=
  { o with
    state := if owner.isSome then .owned else .unowned
    owner := owner, epoch := epoch, commitCount := count, attempt := 0 }

/-- The report of R69 that a commit or a load naming a LOST owner makes at that moment. -/
def reportIfOwnerLost (s : State) : State :=
  match s.owc.owner with
  | some p => if (s.hmon.get p).health = .lost then ownerLost p s else s
  | none => s

/-- The completion of a load that names an owner or none: the policy put into force, the record, the roles, the START
record, the notices, and the report on a LOST owner (R61, R62). -/
def loadGood (owner : Option Path) (epoch : Word) (count : CommitCount) (r : PolicyRecord) (s : State) : State :=
  let effect := takeEffect r s
  let recorded := refreshRoles { effect with owc := effect.owc.loaded owner epoch count }
  reportIfOwnerLost (sendNotices (addHistory (startRecord recorded) recorded))

/-- The policy a valid block gives: its record clamped, or the default where the clamped record is not valid (R61). -/
def loadedPolicy (capacity : Nat) (record : PolicyRecord) : PolicyRecord :=
  match acceptPolicy capacity record with
  | some r => r
  | none => defaultPolicy

/-- OWC judges the block in page 255 (R61). -/
def completeLoad (s : State) : State :=
  match judgeBlock s.mem with
  | .blank => loadGood none 0#16 0#32 defaultPolicy s
  | .valid ownerByte epoch count record =>
    loadGood (loadedOwner ownerByte s) epoch count (loadedPolicy s.reportedCapacity record) s
  | .bad => loadBad s

/-! ## Attempts -/

/-- A failed attempt of the load or of a commit: the operation is asked again, and the third failure ends it (R55, R56,
R60). -/
def attemptFailed (op : BlockOp) (s : State) : State :=
  if s.owc.attempt < Config.attemptMax then
    requestBlockOp op { s with owc := { s.owc with attempt := s.owc.attempt + 1 } }
  else
    match op with
    | .load => loadBad s
    | .commit => enterFrozen .commitFailed s

/-! ## The success of a commit -/

/-- The record after a commit's success (R54, steps 1 and 2). -/
def Owc.succeed (purpose : Purpose) (c : Contents) (o : Owc) : Owc :=
  let written : Owc :=
    { o with
      epoch := c.epoch, commitCount := c.count, contents := none, attempt := 0, purpose := o.waitingTransition }
  if purpose = .policy then written
  else
    { written with
      state := if c.owner.isSome then .owned else .unowned
      owner := c.owner, drainStage := none, drainCause := none, successor := none, frozenCause := none
      drainedPath := none, orphansAdded := none, drainTimer := none }

/-- The history cause of a purpose; a POLICY commit adds no record (R66). -/
def historyCause : Purpose → Option HistoryCause
  | .claim => some .claim
  | .forced => some .forced
  | .override => some .override
  | .release => some .release
  | .handover => some .handover
  | .loss => some .loss
  | .policy => none

/-- The history record of a commit, from the record `before` it succeeded: the drained path and the orphans-added
counter for the drain purposes, NONE and 0 otherwise (R66, R88). -/
def commitRecord (before : Owc) (cause : HistoryCause) (c : Contents) : HistoryRecord :=
  { epoch := c.epoch, newOwner := c.owner, previousOwner := before.drainedPath, cause := cause
    orphans := before.orphansAdded.getD 0 }

/-- The status of the reply to a commit's own request (R54). -/
def successStatus (c : Contents) (r : OwedReply) : Status :=
  match r.purpose with
  | .forced => if c.owner = some r.path then .ok else .notHealthy
  | _ => .ok

/-- Produce the waiting reply of the commit's own request, if one is owed (R54, step 7). -/
def replyFor (purpose : Purpose) (c : Contents) (s : State) : State :=
  match s.owc.owedReplies.find? (fun r => r.purpose == purpose) with
  | none => s
  | some r =>
    produceReply (successStatus c r) r
      { s with owc := { s.owc with owedReplies := s.owc.owedReplies.filter (fun x => !(x.purpose == purpose)) } }

/-- The waiting transition begins its commit (R54, step 8). -/
def beginWaiting (s : State) : State :=
  match s.owc.waitingTransition with
  | some purpose => if s.commitInFlight then s else beginCommit purpose (successionContents s.owc) s
  | none => s

/-- Step 4 of R54: a POLICY commit puts the pending policy into force. -/
def policyStep (purpose : Purpose) (s : State) : State :=
  if purpose = .policy then
    match s.owc.pendingPolicy with
    | some r => takeEffect r { s with owc := { s.owc with pendingPolicy := none } }
    | none => s
  else s

/-- Step 5 of R54: a commit of another purpose adds a history record. -/
def historyStep (before : Owc) (purpose : Purpose) (c : Contents) (s : State) : State :=
  match historyCause purpose with
  | some cause => addHistory (commitRecord before cause c) s
  | none => s

/-- The success of a commit, in the order of R54; a commit that names a new owner who is LOST then makes the report of
R69. At a POLICY success OWC's whole answer to the health that the new thresholds give (GRACE, or with grace_ms 0 the fencing,
its replies and the begin of the closing commit) is taken inside step 4, before the notices, the reply and the waiting
transition of steps 6 to 8; R54 and R37 do not place it: DESIGN CHOICE, notes/assumptions/53.md. -/
def commitSuccess (purpose : Purpose) (c : Contents) (s : State) : State :=
  let recorded := refreshRoles { s with owc := s.owc.succeed purpose c }
  let done := beginWaiting (replyFor purpose c (sendNotices (historyStep s.owc purpose c (policyStep purpose recorded))))
  if purpose = .policy then done else reportIfOwnerLost done

/-- DPT reports that the ownership block operation in flight succeeded (R167). -/
def operationSucceeded (op : BlockOp) (s : State) : State :=
  match op with
  | .load => if s.owc.state = .loading then completeLoad s else s
  | .commit =>
    match s.owc.purpose, s.owc.contents with
    | some purpose, some c => commitSuccess purpose c s
    | _, _ => s

/-- DPT reports that an attempt of the ownership block operation in flight failed (R55, R60, R170). An operation OWC has
abandoned counts no failed attempt (R68, R177). -/
def operationFailed (op : BlockOp) (s : State) : State :=
  match op with
  | .load => if s.owc.state = .loading ∧ 0 < s.owc.attempt then attemptFailed .load s else s
  | .commit => if s.commitInFlight then attemptFailed .commit s else s

end Sys2Proof.Machine
end

