-- ==== Sys2Proof/Machine/DriveFaults.lean ====
section
/-! DEFINITION. The Drive Port's own course: the drive reset (R170, R171), giving up the drive (R174), identify (R158,
R159), the taking of completion records (R165 to R168, R173), timers and the DRV_PRESENT line (R169, R172, R175). -/

namespace Sys2Proof.Machine

/-! ## The drive reset -/

/-- The ownership block operation a drive slot holds, if any. -/
def State.operationAtDrive (s : State) : Option BlockOp :=
  s.dpt.busy.findSome? (fun b =>
    match b.holder with
    | .blockOp op _ => some op
    | _ => none)

/-- The Drive Port at the beginning of a reset: the request sent, every slot freed with its timer, the reset timer
started (R170). -/
def Dpt.startReset (d : Dpt) : Dpt :=
  { d with
    state := .resetting, busy := [], resetTimer := some Config.resetTimeoutMs, requests := d.requests ++ [.reset] }

/-- A drive reset begins: the slots are aborted, the path slots' segments first and in order of age, DRIVE_RESET is set
(R170). The reports, the GO test and the grants that the aborted path slots bring about come before OWC takes its failed
attempt and before DRIVE_RESET: DESIGN CHOICE, notes/assumptions/48.md. -/
def beginReset (s : State) : State :=
  let started : State := { s with dpt := s.dpt.startReset }
  let aborted := conclude s (forSlots abortEntry (started.slotsWhere (fun _ => true)) started)
  raiseBoth .driveReset
    (match s.operationAtDrive with
     | some op => operationFailed op aborted
     | none => aborted)

/-- OWC's request for a drive reset: it begins one while the drive is READY, and otherwise none (R171). -/
def requestReset (s : State) : State :=
  if s.dpt.state = .ready then beginReset s else s

/-! ## Giving up the drive -/

/-- The Drive Port at an entry into FAILED, HALTED or ABSENT: every timer stopped, every slot freed, the reserved-slot
request discarded (R174). -/
def Dpt.giveUp (state : DriveState) (cause : DriveCause) (d : Dpt) : Dpt :=
  { d with state := state, cause := cause, busy := [], request := none, resetTimer := none }

/-- An entry into FAILED, HALTED or ABSENT: OWC is told first, then every segment and entry is ended, and DRIVE_FAILED is
set (R174). The reports and the GO test that the ended entries bring about come before DRIVE_FAILED: DESIGN CHOICE,
notes/assumptions/48.md. -/
def giveUp (state : DriveState) (cause : DriveCause) (s : State) : State :=
  let told := enterFrozen .drive { s with dpt := s.dpt.giveUp state cause }
  raiseBoth .driveFailed (conclude s (forSlots failEntry (told.slotsWhere (fun _ => true)) told))

/-! ## Identify -/

/-- A depth above 32 is taken as 32 (R156). -/
def takenDepth (depth : Nat) : Nat :=
  min depth Config.maxDepth

/-- The suitability of identify results (R159). -/
def Identity.suitable (i : Identity) : Bool :=
  i.blockSize == Config.blockBytes && decide (Config.minCapacity ≤ i.capacity) && decide (Config.minDepth ≤ i.depth)

/-- The sameness of identify results with the identity held, asked for while the reference mark is set (R159). -/
def Dpt.sameDrive (d : Dpt) (i : Identity) : Bool :=
  !d.referenceMark ||
    (match d.identity with
     | some held => held.capacity == i.capacity && held.blockSize == i.blockSize
     | none => true)

/-- The Drive Port at an entry into READY (R159). -/
def Dpt.enterReady (i : Identity) (d : Dpt) : Dpt :=
  { d with
    state := .ready, cause := .none, identity := some i, referenceMark := true
    slotCount := min Config.maxDriveSlots i.depth, busy := [], identifyFailures := 0 }

/-- An entry into READY: the identity, the slots, the report to OWC, the run of the slot arbiter (R159). -/
def enterReady (i : Identity) (s : State) : State :=
  follow s (driveReady { s with dpt := s.dpt.enterReady i })

/-- The judgement of identify results (R159). -/
def judgeIdentify (i : Identity) (s : State) : State :=
  if i.suitable = false then giveUp .failed .unsuited s
  else if s.dpt.sameDrive i = false then giveUp .failed .changed s
  else enterReady i s

/-- Count a failed identify attempt (R158). -/
def countIdentifyFailure (s : State) : State :=
  { s with dpt := { s.dpt with identifyFailures := s.dpt.identifyFailures + 1 } }

/-- A failed identify attempt: the third gives the drive up, and an earlier one is followed by what `again` begins
(R158). -/
def identifyFailed (again : State → State) (s : State) : State :=
  let counted := countIdentifyFailure s
  if counted.dpt.identifyFailures < Config.attemptMax then again counted else giveUp .failed .noIdentify counted

/-- A record for slot 0 while IDENTIFYING with a status other than GOOD (R158). -/
def identifyRejected (status : DriveStatus) (s : State) : State :=
  match status with
  | .good => s
  | .partialDone => identifyFailed startIdentify s
  | .media => identifyFailed startIdentify s
  | .other => giveUp .halted .violation s

/-- The expiry of slot 0's timer while IDENTIFYING (R158). -/
def identifyExpired (s : State) : State :=
  if s.dpt.state = .identifying ∧ s.slotBusy 0 = true then identifyFailed beginReset s else s

/-! ## Completion records -/

/-- The length a record's done is checked against (R156). -/
def Holder.length : Holder → Nat
  | .segment _ _ length .read => length
  | .segment _ _ length .write => length
  | .segment _ _ _ .flush => 0
  | .blockOp _ _ => 1
  | .identify => 0

/-- The class of a well-formed record (R166, R168). -/
def classOf (op : Op) (status : DriveStatus) (done length : Nat) : CompletionClass :=
  match op, status with
  | .flush, .good => .good
  | .flush, .partialDone => .partialDone
  | _, .media => .media
  | _, _ => if done = length then .good else .partialDone

/-- Set MEDIA_ERROR in both copies at a MEDIA completion (R166 to R168). -/
def raiseMedia (status : DriveStatus) (s : State) : State :=
  if status = .media then raiseBoth .mediaError s else s

/-- An accepted record for a path slot (R166, R168). MEDIA_ERROR is raised before IFT takes the completion: DESIGN CHOICE,
notes/assumptions/51.md. -/
def acceptSegment (slot entry offset length : Nat) (op : Op) (status : DriveStatus) (done : Nat)
    (blocks : List (List Byte)) (s : State) : State :=
  conclude s
    (takeCompletion entry slot offset length (classOf op status done length) done blocks
      (raiseMedia status (s.freeSlot slot)))

/-- Whether an ownership block operation's record is a success (R167). -/
def operationOk (status : DriveStatus) (done : Nat) : Bool :=
  (status == .good || status == .partialDone) && done == 1

/-- An accepted record for the reserved slot: a load's block stands in page 255 from that moment (R167). MEDIA_ERROR is
raised before OWC takes the failed attempt: DESIGN CHOICE, notes/assumptions/39.md. -/
def acceptOperation (slot : Nat) (op : BlockOp) (status : DriveStatus) (done : Nat) (block : List Byte) (s : State) :
    State :=
  let freed := raiseMedia status (s.freeSlot slot)
  if operationOk status done then
    operationSucceeded op
      (match op with
       | .load => { freed with mem := fillPage freed.mem Config.ownershipPage block }
       | .commit => freed)
  else operationFailed op freed

/-- A record taken in READY: accepted where it is well-formed, and a violation otherwise (R165, R173). -/
def takeReadyRecord (slot : Nat) (status : DriveStatus) (done : Nat) (blocks : List (List Byte)) (s : State) : State :=
  match s.holderOf slot with
  | none => giveUp .halted .violation s
  | some h =>
    if slot < s.dpt.slotCount ∧ status ≠ .other ∧ done ≤ h.length then
      match h with
      | .segment entry offset length op => acceptSegment slot entry offset length op status done blocks s
      | .blockOp op _ => acceptOperation slot op status done (blocks.headD []) s
      | .identify => giveUp .halted .violation s
    else giveUp .halted .violation s

/-- A completion record taken, by the drive state (R165). A GOOD record for slot 0 while IDENTIFYING carries identify
results and is taken with them. -/
def takeRecord (slot : Nat) (status : DriveStatus) (done : Nat) (blocks : List (List Byte)) (s : State) : State :=
  match s.dpt.state with
  | .ready => takeReadyRecord slot status done blocks s
  | .identifying => if slot = 0 then identifyRejected status s else s
  | .resetting => s
  | .failed => s
  | .halted => s
  | .absent => s

/-- A record for slot 0 with identify results (R158, R159). -/
def takeIdentifyRecord (status : DriveStatus) (done : Nat) (i : Identity) (s : State) : State :=
  if s.dpt.state = .identifying ∧ status = .good then judgeIdentify i (s.freeSlot 0)
  else takeRecord 0 status done [] s

/-! ## Timers, the ready indication and the line -/

/-- The expiry of a drive slot's timer (R169). -/
def slotExpired (slot : Nat) (s : State) : State :=
  match s.dpt.state with
  | .ready => if s.slotBusy slot then beginReset s else s
  | .identifying => if slot = 0 then identifyExpired s else s
  | .resetting => s
  | .failed => s
  | .halted => s
  | .absent => s

/-- The drive's ready indication (R172). -/
def takeReadyIndication (s : State) : State :=
  if s.dpt.state = .resetting then startIdentify { s with dpt := { s.dpt with resetTimer := none } } else s

/-- The expiry of the reset timer (R172). -/
def resetExpired (s : State) : State :=
  if s.dpt.state = .resetting ∧ s.dpt.resetTimer.isSome = true then giveUp .failed .noReady s else s

/-- The fall of DRV_PRESENT (R175). -/
def presentFalls (s : State) : State :=
  let low : State := { s with dpt := { s.dpt with present := false } }
  if s.dpt.state = .absent then low
  else giveUp .absent .none { low with dpt := { low.dpt with referenceMark := false } }

/-- The rise of DRV_PRESENT (R175). -/
def presentRises (s : State) : State :=
  let high : State := { s with dpt := { s.dpt with present := true } }
  if s.dpt.state = .absent then
    startIdentify { high with dpt := { high.dpt with cause := .none, identifyFailures := 0 } }
  else high

end Sys2Proof.Machine
end

