-- ==== Sys2Proof/Machine/Link.lean ====
section
/-! DEFINITION. The inbound side of a path link: the frame assembler (R1, R2, R4), validation and routing (R3), pulses
and echoes (R8, R9), HOLD and GO from the server (R15, R32), arrivals at the receive queue (R10), write data (R140 to
R143), and the end of a transmission (R13, R14, R131). -/

namespace Sys2Proof.Machine

/-! ## Write data -/

/-- The write entry of a path with a tag (R140). -/
def State.writeEntry? (s : State) (p : Path) (tag : Word) : Option Entry :=
  s.ift.find? (fun e => e.origin == p && e.op == .write && e.tag == tag)

/-- Whether a WRITE_DATA frame is given a page: the path below its quota, and a page free (R139). -/
def State.pageAllowed (s : State) (p : Path) : Bool :=
  decide (s.occupancy p < quotaOf s.owc.policy p) && !s.freePages.isEmpty

/-- The acknowledgement of a posted write whose last block is staged (R143). -/
def acknowledge (e : Entry) (s : State) : State :=
  (s.onEntry e.slot (fun x => { x with acked := true })).offer e.origin .stb
    (.reply e.tag .posted (BitVec.ofNat 16 e.count) s.owc.epoch)

/-- A block is staged in the lowest free page (R142). -/
def stageBlock (e : Entry) (data : List Byte) (s : State) : State :=
  let page := s.freePages.headD 0
  let placed : State :=
    { s.allocate { number := page, path := e.origin, slot := some e.slot, offset := e.staged, state := .staged } with
      mem := fillPage s.mem page data }
  let counted := (testHold e.origin placed).onEntry e.slot (fun x => { x with staged := x.staged + 1 })
  if e.posted = true ∧ e.staged + 1 = e.count then acknowledge e counted else counted

/-- A frame that reaches R141, for an unacknowledged write entry in BLOCKED or RUNNING. -/
def takeBlock (e : Entry) (offset : Nat) (data : List Byte) (s : State) : State :=
  if offset ≠ e.staged ∨ e.count ≤ offset then decideEnd .badData e.slot s
  else if s.pageAllowed e.origin then stageBlock e data s
  else decideEnd .overrun e.slot s

/-- A valid WRITE_DATA frame is decided by the first row of R140 that fits. -/
def takeWriteData (p : Path) (tag offset : Word) (data : List Byte) (s : State) : State :=
  if s.role p = .fenced then s
  else
    match s.writeEntry? p tag with
    | none => linkError p s
    | some e =>
      if e.acked = true ∨ e.phase = .ending ∨ e.cut = true then s
      else conclude s (takeBlock e offset.toNat data s)

/-! ## HOLD, GO, pulses and arrivals -/

/-- A HOLD from the server sets the server-hold flag (R15). -/
def takeHold (p : Path) (s : State) : State :=
  s.onPif p (fun f => { f with serverHold := true })

/-- A GO from the server clears the server-hold flag; a change clears the held-throughout indicator, and lets a queued
READ_DATA go (R15, R32). -/
def takeGo (p : Path) (s : State) : State :=
  if (s.pif.get p).serverHold = true then
    (s.onPif p (fun f => { f with serverHold := false }.chooseNext)).onHmon p
      (fun h => { h with heldThroughout := false })
  else s

/-- A valid PULSE is taken by HMON, and the ECHO built after it is placed in the echo position (R8, R9, R29). Where the pulse
ends GRACE, OWC has answered HMON's report before the ECHO is built, which then shows OWNED: DESIGN CHOICE,
notes/assumptions/45.md. -/
def answerPulse (p : Path) (sequence : Byte) (s : State) : State :=
  let taken := takePulse p s
  taken.onPif p (Pif.placeEcho (echoFor p sequence taken))

/-- The tag of a command or control frame. -/
def frameTag : QueuedFrame → Word
  | .command tag _ _ _ _ _ => tag
  | .claim tag _ _ _ => tag
  | .release tag _ _ => tag
  | .rejoin tag _ => tag
  | .policy tag _ _ => tag
  | .inspect tag _ _ _ => tag
  | .clear tag _ _ => tag
  | .deviceReset tag _ => tag
  | .notifyMask tag _ => tag

/-- A command or control frame joins the receive queue, or is discarded at a full one, with QUEUE_FULL where the
transmit queue has room (R10). -/
def arrive (p : Path) (frame : QueuedFrame) (s : State) : State :=
  let f := s.pif.get p
  if f.rxq.length < Config.receiveDepth then s.onPif p (fun x => { x with rxq := x.rxq ++ [frame] })
  else if f.hasRoom then
    s.onPif p (Pif.enqueue { frame := .reply (frameTag frame) .queueFull 0#16 s.owc.epoch, tie := .plain })
  else s

/-- A valid frame is routed by its kind (R3). -/
def routeFrame (p : Path) (frame : InFrame) (s : State) : State :=
  match frame with
  | .pulse _ sequence => answerPulse p sequence s
  | .writeData tag offset data => takeWriteData p tag offset data s
  | .hold => takeHold p s
  | .go => takeGo p s
  | .queued q => arrive p q s

/-- STB takes, on a DOWN link, a WRITE_DATA that was complete before carrier loss (R33). No other frame is taken after the
loss that was complete before it, and none completes on a DOWN link (R6). -/
def takeLateFrame (p : Path) (frame : InFrame) (s : State) : State :=
  match frame with
  | .writeData tag offset data => takeWriteData p tag offset data s
  | .pulse _ _ => s
  | .hold => s
  | .go => s
  | .queued _ => s

/-- A valid frame is complete: the assembler returns to IDLE with the gap timer stopped, and the frame is routed (R3). On
a DOWN link only a WRITE_DATA that was complete before carrier loss is still to be taken (R33, R6). -/
def frameCompletes (p : Path) (frame : InFrame) (s : State) : State :=
  if s.linkUp p then routeFrame p frame (s.onPif p Pif.clearAssembler) else takeLateFrame p frame s

/-! ## The assembler -/

/-- Set the assembler in the course of a frame; the gap timer is started or restarted (R1, R4). -/
def Pif.assemble (a : Assembler) (f : Pif) : Pif :=
  { f with assembler := a, gapTimer := some Config.gapCharacters }

/-- A marked character begins a new frame (R1). -/
def Pif.beginFrame (kind : Byte) (f : Pif) : Pif :=
  f.assemble (.length kind none (kind.setWidth 16))

/-- The frame in assembly is discarded as a link error (R5). -/
def discardFrame (p : Path) (s : State) : State :=
  linkError p (s.onPif p Pif.clearAssembler)

/-- A complete frame is validated: its check first, then its kind and length (R3). -/
def completeFrame (p : Path) (kind : Byte) (length : Nat) (bytes : List Byte) (sum : Word) (s : State) : State :=
  if beNat (bytes.drop length) = sum.toNat then
    match decodeFrame kind (bytes.take length) with
    | some frame => routeFrame p frame (s.onPif p Pif.clearAssembler)
    | none => discardFrame p s
  else discardFrame p s

/-- The second length byte (R2). -/
def takeLength (p : Path) (kind high low : Byte) (sum : Word) (s : State) : State :=
  let length := high.toNat * 256 + low.toNat
  if Config.maxPayload < length then discardFrame p s
  else s.onPif p (Pif.assemble (.body kind length [] (sum + low.setWidth 16)))

/-- An unmarked character in BODY: a payload byte, or a check byte that is not added to the sum (R1). -/
def takeBody (p : Path) (kind : Byte) (length : Nat) (bytes : List Byte) (sum : Word) (byte : Byte) (s : State) :
    State :=
  if bytes.length < length then
    s.onPif p (Pif.assemble (.body kind length (bytes ++ [byte]) (sum + byte.setWidth 16)))
  else if bytes.length + 1 < length + 2 then s.onPif p (Pif.assemble (.body kind length (bytes ++ [byte]) sum))
  else completeFrame p kind length (bytes ++ [byte]) sum s

/-- A marked character: a frame in assembly is truncated, and a new frame begins (R1). -/
def takeMarked (p : Path) (byte : Byte) (s : State) : State :=
  match (s.pif.get p).assembler with
  | .idle => s.onPif p (Pif.beginFrame byte)
  | .length _ _ _ => (discardFrame p s).onPif p (Pif.beginFrame byte)
  | .body _ _ _ _ => (discardFrame p s).onPif p (Pif.beginFrame byte)

/-- An unmarked character (R1). -/
def takeUnmarked (p : Path) (byte : Byte) (s : State) : State :=
  match (s.pif.get p).assembler with
  | .idle => s
  | .length kind none sum => s.onPif p (Pif.assemble (.length kind (some byte) (sum + byte.setWidth 16)))
  | .length kind (some high) sum => takeLength p kind high byte sum s
  | .body kind length bytes sum => takeBody p kind length bytes sum byte s

/-- A character that arrives on a path; none arrives while the link is DOWN (R1, R6). -/
def takeCharacter (p : Path) (marked : Bool) (byte : Byte) (s : State) : State :=
  if s.linkUp p then (if marked then takeMarked p byte s else takeUnmarked p byte s) else s

/-- Whether an unmarked character is the second length byte of a length above 4100 (R2). -/
def Assembler.overLength (low : Byte) : Assembler → Bool
  | .length _ (some high) _ => decide (Config.maxPayload < high.toNat * 256 + low.toNat)
  | _ => false

/-- Whether an unmarked character completes a frame whose check differs from the running sum (R3). -/
def Assembler.checkFails (low : Byte) : Assembler → Bool
  | .body _ n bytes sum =>
    bytes.length == n + 1 && beNat ((bytes ++ [low]).drop n) != sum.toNat
  | _ => false

/-- Whether an unmarked character completes a frame whose check is right and whose kind or length is not one a server
sends (R3). -/
def Assembler.unknownKind (low : Byte) : Assembler → Bool
  | .body kind n bytes sum =>
    bytes.length == n + 1 && beNat ((bytes ++ [low]).drop n) == sum.toNat &&
      (decodeFrame kind ((bytes ++ [low]).take n)).isNone
  | _ => false

/-- A character that arrives and brings about an event that a test finds due; where it is not due, nothing happens. -/
def takeCharacterIf (due : Assembler → Bool) (p : Path) (marked : Bool) (byte : Byte) (s : State) : State :=
  if due (s.pif.get p).assembler then takeCharacter p marked byte s else s

/-- The expiry of the gap timer, which runs only while a frame is in assembly (R4). -/
def gapExpired (p : Path) (s : State) : State :=
  if (s.pif.get p).gapTimer.isSome = true ∧ (s.pif.get p).assembler ≠ .idle then discardFrame p s else s

/-! ## The end of a transmission -/

/-- The last character of the frame in transmission has been sent: it leaves its position (R13). -/
def Pif.finishSending (x : Sending) (f : Pif) : Pif :=
  { f with sending := none, sent := f.sent ++ [x.item.frame] }

/-- A READ_DATA reported transmitted to IFT: d rises, the page is freed, and the last block ends the read OK (R131,
R122). -/
def countDelivered (slot age page : Nat) (s : State) : State :=
  match s.entry? slot with
  | none => s
  | some e =>
    if e.age = age then
      let t := (s.freeWhere (fun r => r.number == page)).onEntry slot (fun x => { x with delivered := x.delivered + 1 })
      if e.phase = .running ∧ e.delivered + 1 = e.count then endEntry slot .ok t else t
    else s

/-- What the end of a transmission reports (R14, R77). -/
def reportTransmitted (tie : Tie) (s : State) : State :=
  match tie with
  | .plain => s
  | .block slot age page => countDelivered slot age page s
  | .heldPage page => s.freeWhere (fun r => r.number == page && r.slot.isNone)

/-- The last character of an outbound frame is sent: its position is free, the frame that waited longest enters, the
interface chooses the next frame, and a READ_DATA is reported (R12 to R14). No rule orders the choice and the report; the
choice comes first, so that a GO which the freed page brings about follows the frame chosen: DESIGN CHOICE,
notes/assumptions/40.md. -/
def frameSent (p : Path) (s : State) : State :=
  match (s.pif.get p).sending with
  | none => s
  | some x =>
    let entered := enterWaiting p (s.onPif p (Pif.finishSending x))
    conclude s (reportTransmitted x.item.tie (entered.onPif p Pif.chooseNext))

end Sys2Proof.Machine
end

