-- ==== Sys2Proof/Machine/Resets.lean ====
section
/-! DEFINITION. Power-on and pin reset (R17, R38, R67, R93, R136, R154, R157, R194), the soft reset (R193), carrier loss
and carrier return (R6, R7, R34, R35, R133). -/

namespace Sys2Proof.Machine

/-! ## Power-on and pin reset -/

/-- A path interface at power-on or pin reset (R17); the model's record of the outbound line goes on. -/
def Pif.powerUp (f : Pif) : Pif :=
  { Pif.reset with sent := f.sent }

/-- The Drive Port at power-on or pin reset, before it acts on DRV_PRESENT (R157); the model's record of the drive link
goes on. -/
def Dpt.powerUp (present : Bool) (d : Dpt) : Dpt :=
  { Dpt.reset with state := .absent, busy := [], present := present, requests := d.requests }

/-- Every block at its reset values, before DPT acts on DRV_PRESENT. -/
def clearAll (cause : ResetCause) (present : Bool) (s : State) : State :=
  { pif := { a := s.pif.a.powerUp, b := s.pif.b.powerUp }, hmon := { a := Hmon.reset, b := Hmon.reset },
    owc := Owc.reset, adm := { pointer := .b, sequence := 0 }, ift := [], stb := { pages := [], grants := [] },
    mem := [], dpt := s.dpt.powerUp present, fnu := { Fnu.reset with resetCause := cause }, pending := s.pending }

/-- Power-on or pin reset: with the drive present an IDENTIFY is issued at once, and with it absent ABSENT is reported to
OWC and DRIVE_FAILED set (R157). -/
def powerUp (cause : ResetCause) (present : Bool) (s : State) : State :=
  let cleared := clearAll cause present s
  if present then startIdentify cleared else raiseBoth .driveFailed (enterFrozen .drive cleared)

/-! ## The soft reset -/

/-- The frame in transmission at a soft reset: one taken from the transmit queue is sent whole, and its end reports
nothing (R17). -/
def Sending.detach (x : Sending) : Sending :=
  match x.source with
  | .queue => { source := .detached, item := { x.item with tie := .plain } }
  | _ => x

/-- A path interface at soft reset, before the GO it may send: link, assembler, echo and flow positions are kept
(R17). -/
def Pif.softClear (f : Pif) : Pif :=
  { f with
    rxq := [], txq := [], waiting := [], serverHold := false, partHold := false
    sending := f.sending.map Sending.detach }

/-- A path interface at soft reset: a GO is placed where the part-hold flag was set, and is sent (R17, R193). -/
def Pif.softReset (f : Pif) : Pif :=
  if f.partHold = true ∧ f.link = .up then f.softClear.placeFlow .go else f.softClear

/-- The held-throughout indicator of a path at soft reset: the clearing of a set server-hold flag clears it (R32,
R39). -/
def clearHeld (p : Path) (s : State) : State :=
  if (s.pif.get p).serverHold then s.onHmon p (fun h => { h with heldThroughout := false }) else s

/-- The links and their health at soft reset (R17, R39). -/
def softResetLinks (s : State) : State :=
  (((clearHeld .b (clearHeld .a s)).onPif .a Pif.softReset).onPif .b Pif.softReset)

/-- The RESET_CUT records of the table's entries, oldest first (R135). -/
def cutAll : List Entry → State → State
  | [], s => s
  | e :: rest, s => cutAll rest (addOrphan (e.orphan .resetCut) s)

/-- The acknowledged writes of a table that are not fully committed (R135). -/
def lostCount (entries : List Entry) : Nat :=
  (entries.filter (fun e => e.op == .write && e.acked && decide (e.committed < e.count))).length

/-- The Drive Port's fields at a soft reset: the reserved-slot request emptied, the failure counter at 0, and the cause
NONE where a reset begins (R177). -/
def Dpt.softClear (d : Dpt) : Dpt :=
  { d with
    request := none, identifyFailures := 0
    cause := if d.state = .resetting ∨ d.state = .absent then d.cause else .none }

/-- What a soft reset does at the Drive Port, by its state (R177). -/
def softResetDrive (s : State) : State :=
  let cleared : State := { s with dpt := s.dpt.softClear }
  match s.dpt.state with
  | .absent => enterFrozen .drive cleared
  | .resetting => cleared
  | .ready => beginReset cleared
  | .identifying => beginReset cleared
  | .failed => beginReset cleared
  | .halted => beginReset cleared

/-- The table, the staging buffer and ADM at a soft reset (R135, R154, R93). -/
def softResetWork (s : State) : State :=
  { cutAll s.ift { s with stb := { pages := [], grants := [] } } with ift := [], adm := { pointer := .b, sequence := 0 } }

/-- FNU's own fields at a soft reset (R193). -/
def Fnu.softReset (lost : Nat) (f : Fnu) : Fnu :=
  { f with resetCause := .soft, postedLost := lost, deciding := none }

/-- The soft reset (R193): the links, the entries and their records, OWC in LOADING, the drive, and DATA_LOSS where an
acknowledged write was lost. -/
def softReset (s : State) : State :=
  let lost := lostCount s.ift
  let driven := softResetDrive (enterLoading (softResetWork (softResetLinks s)))
  let recorded : State := { driven with fnu := driven.fnu.softReset lost }
  if 0 < lost then raiseBoth .dataLoss recorded else recorded

/-! ## Carrier -/

/-- A path interface at carrier loss: everything on the link is dropped and both hold flags are cleared (R6). -/
def Pif.carrierLost (f : Pif) : Pif :=
  { Pif.reset with sent := f.sent }

/-- HMON's fields at carrier loss (R34). -/
def Hmon.carrierLost : Hmon :=
  { score := Config.scoreMax, health := .lost, window := none, pulseCounted := false, heldThroughout := false }

/-- HMON at carrier loss: an entry into LOST is reported (R34, R36). -/
def healthLost (p : Path) (s : State) : State :=
  let old := (s.hmon.get p).health
  let set := s.onHmon p (fun _ => Hmon.carrierLost)
  if old = .lost then set else reportHealth p old .lost set

/-- An entry at carrier loss on its origin (R133): one whose final reply waited is removed; every other of an unfenced
path is marked, and ends LINK_CUT where it is a read or a write not fully staged. -/
def cutEntry (slot : Nat) (s : State) : State :=
  match s.entry? slot with
  | none => s
  | some e =>
    if e.reported then dropEntry slot s
    else if s.role e.origin = .fenced then s
    else
      let marked := s.onEntry slot (fun x => { x with cut := true })
      match e.op with
      | .read => discardFetched slot (decideEnd .linkCut slot marked)
      | .write => if e.acked = false ∧ e.staged < e.count then decideEnd .linkCut slot marked else marked
      | .flush => marked

/-- IFT and STB at carrier loss: the path's entries, oldest first, and the page of a READ_DATA that was being sent when
its read was fenced (R133, R77). -/
def cutEntries (p : Path) (s : State) : State :=
  (forSlots cutEntry (s.slotsWhere (fun e => e.origin == p)) s).freeWhere
    (fun r => r.path == p && r.slot.isNone)

/-- Carrier loss (R6): the interface, then HMON, then IFT and STB. R6 does not order HMON's report and IFT's: DESIGN CHOICE,
notes/assumptions/50.md. -/
def carrierLost (p : Path) (s : State) : State :=
  if s.linkUp p then conclude s (cutEntries p (healthLost p (s.onPif p Pif.carrierLost))) else s

/-- HMON's fields at carrier return, before the evaluation (R35). -/
def Hmon.carrierBack (period : Nat) : Hmon :=
  { score := Config.returnScore, health := .lost, window := some period, pulseCounted := false, heldThroughout := false }

/-- Carrier return (R7, R35). Where doubt_lo is 192 or more the path becomes HEALTHY at once and the change is reported
(R35), which for the owner in GRACE ends GRACE (R71), while R70 has it stay LOST and GRACE continue: that R35 holds is a
DESIGN CHOICE, notes/assumptions/52.md. -/
def carrierBack (p : Path) (s : State) : State :=
  if s.linkUp p then s
  else
    reevaluate p
      ((s.onPif p (fun f => { Pif.reset with link := .up, sent := f.sent })).onHmon p
        (fun _ => Hmon.carrierBack s.owc.policy.pulsePeriodMs.toNat))

end Sys2Proof.Machine
end

