-- ==== Sys2Proof/Machine/Admission.lean ====
section
/-! DEFINITION. The Admission Unit: the checks on a COMMAND (R98 to R103), takeable heads and the arbiter (R95, R96), and
acceptance (R104 to R108). -/

namespace Sys2Proof.Machine

/-! ## Checks -/

/-- The fields of a COMMAND frame (R19). -/
structure CommandFields where
  tag : Word
  epoch : Word
  op : Byte
  flags : Byte
  start : Lba
  count : Word
  deriving DecidableEq, Repr

/-- Whether a tag is that of an entry of the path (R99). -/
def State.tagInUse (s : State) (p : Path) (tag : Word) : Bool :=
  s.ift.any (fun e => e.origin == p && e.tag == tag)

/-- Whether a READ that is not common is permitted to a role (R98 check 9, R102). -/
def readPermitted (r : PolicyRecord) : Role → Bool
  | .owner => true
  | .sharer => true
  | .standby => false
  | .releasing => shareReads r
  | .fenced => false

/-- Checks 5 to 9 of R98 for an operation: `none` where all pass. -/
def checkPermission (s : State) (p : Path) (epoch : Word) (op : Op) (common : Bool) : Option Status :=
  if s.role p = .fenced then some .fenced
  else if epoch ≠ s.owc.epoch then some .staleEpoch
  else
    match op with
    | .flush => none
    | .write =>
      if s.owc.state = .frozen ∧ common = false then some .notOwner
      else if common = true ∨ s.role p = .owner then none
      else some .notOwner
    | .read => if common = true ∨ readPermitted s.owc.policy (s.role p) = true then none else some .notOwner

/-- The checks of R98 in order: the first that fails decides the status, and `none` stands for a command that passes. -/
def checkCommand (s : State) (p : Path) (c : CommandFields) : Option Status :=
  match opOf c.op with
  | none => some .badOp
  | some op =>
    if s.tagInUse p c.tag then some .tagInUse
    else
      let ranged := op != .flush
      if ranged && !(decide (1 ≤ c.count.toNat) && decide (c.count.toNat ≤ Config.maxCommandBlocks)) then
        some .badLength
      else if ranged && !inRange s.reportedCapacity c.start.toNat c.count.toNat then some .outOfRange
      else checkPermission s p c.epoch op (ranged && isCommon s.owc.policy c.start.toNat c.count.toNat)

/-! ## Takeable heads and the arbiter -/

/-- The lowest-numbered free slot of the table (R104). -/
def State.freeEntrySlot (s : State) : Option Nat :=
  (List.range Config.entrySlots).find? (fun k => !s.ift.any (fun e => e.slot == k))

/-- The capacity conditions of R95: a free slot, the path below max_entries, and an age to give (R93). -/
def State.hasCapacity (s : State) (p : Path) : Bool :=
  s.freeEntrySlot.isSome && decide (s.entryCount p < s.owc.policy.maxEntries.toNat) &&
    (decide (s.adm.sequence < Config.sequenceMax) || s.ift.isEmpty)

/-- Whether ADM holds a waiting frame for a path (R97). -/
def State.admWaits (s : State) (p : Path) : Bool :=
  (s.pif.get p).waiting.any (fun w => w.producer == .adm)

/-- Whether a frame at the head of a path's queue is takeable (R95). -/
def headTakeable (s : State) (p : Path) (head : QueuedFrame) : Bool :=
  s.owc.state != .loading && !(s.owc.state == .grace && s.owc.owner == some p) && !s.admWaits p &&
    s.fnu.deciding.isNone &&
    (match head with
     | .command tag epoch op flags start count =>
       (checkCommand s p { tag := tag, epoch := epoch, op := op, flags := flags, start := start,
                           count := count }).isSome || s.hasCapacity p
     | _ => true)

/-- Whether a path has a takeable head. -/
def State.takeable (s : State) (p : Path) : Bool :=
  match (s.pif.get p).rxq with
  | [] => false
  | head :: _ => headTakeable s p head

/-- The path whose head ADM takes (R96). -/
def State.chosenPath (s : State) : Option Path :=
  if s.takeable .a && s.takeable .b then some s.adm.pointer.other
  else if s.takeable .a then some .a
  else if s.takeable .b then some .b
  else none

/-- Take the head of a path: it leaves the queue, and the pointer names the path (R11, R96). -/
def removeHead (p : Path) (s : State) : State :=
  s.onPif p (fun f => { f with rxq := f.rxq.drop 1 }) |> fun t => { t with adm := { t.adm with pointer := p } }

/-- ADM takes the head of a path when the arbiter chooses it and the head is of the kind that `decide` decides; in every
other case nothing is taken. -/
def takeHead (p : Path) (decision : QueuedFrame → Option (State → State)) (s : State) : State :=
  if s.chosenPath = some p then
    match (s.pif.get p).rxq with
    | [] => s
    | head :: _ =>
      match decision head with
      | some act => act (removeHead p s)
      | none => s
  else s

/-! ## Acceptance -/

/-- A REPLY that ADM produces: a refusal, or the immediate answer to an ownership request (R97, R98, R45). -/
def admAnswer (p : Path) (tag : Word) (status : Status) (s : State) : State :=
  s.offer p .adm (.reply tag status 0#16 s.owc.epoch)

/-- The blocked-by set of a READ or WRITE: the slots of the entries whose ranges overlap its own, where one of the two
writes (R107). -/
def rangeBlockers (s : State) (op : Op) (start count : Nat) : List Nat :=
  s.slotsWhere (fun y =>
    y.op != .flush && overlaps start count y.start y.count && (op == .write || y.op == .write))

/-- The blocked-by set of a FLUSH: the slots of the path's writes (R108). -/
def flushBlockers (s : State) (p : Path) : List Nat :=
  s.slotsWhere (fun y => y.origin == p && y.op == .write)

/-- The age of the next accepted command: the counter, which restarts at its maximum when the table is empty (R93). -/
def State.nextAge (s : State) : Nat :=
  if s.adm.sequence < Config.sequenceMax then s.adm.sequence else 0

/-- The entry of an accepted command (R104, R115), started by the drive state (R105). -/
def newEntry (s : State) (p : Path) (c : CommandFields) (op : Op) (slot : Nat) : Entry :=
  let ranged := op != .flush
  let start := if ranged then c.start.toNat else 0
  let count := if ranged then c.count.toNat else 0
  let gone := s.dpt.state = .failed ∨ s.dpt.state = .halted ∨ s.dpt.state = .absent
  let blockers :=
    if gone then [] else if ranged then rangeBlockers s op start count else flushBlockers s p
  { slot := slot, origin := p, tag := c.tag, op := op, start := start, count := count, epoch := s.owc.epoch
    common := ranged && isCommon s.owc.policy start count
    posted := op == .write && flagBit0 c.flags && allowPosted s.owc.policy
    acked := false, age := s.nextAge
    phase := if gone then .ending else if blockers = [] then .running else .blocked
    staged := 0, issued := 0, committed := 0, fetched := 0, delivered := 0, frontier := 0, returned := []
    readGrant := none, reissue := 0, blockedBy := blockers, outstanding := []
    endStatus := if gone then some .driveFailed else none
    fencedOutcome := none, cut := false, flushDone := false, reported := false }

/-- The entry joins the table, and the counter goes on (R93, R104). -/
def addEntry (e : Entry) (s : State) : State :=
  { s with ift := s.ift ++ [e], adm := { s.adm with sequence := e.age + 1 } }

/-- Acceptance: the entry, the DATA_REQUEST of a write that starts (R106), the report at once of an entry that meets a
drive given up (R105), the grant request of a read (R145), and the walk of the grant list that it brings (R146). Nothing is
issued for the entry at this event (R113): what it asks of the slot arbiter comes with SEGMENT_ISSUE and the events after this
one, notes/assumptions/4.md. -/
def acceptCommand (p : Path) (c : CommandFields) (op : Op) (slot : Nat) (s : State) : State :=
  let e := newEntry s p c op slot
  let added := addEntry e s
  let asked :=
    if op = .write ∧ e.phase ≠ .ending then
      added.offer p .adm (.dataRequest c.tag (BitVec.ofNat 16 e.count))
    else added
  walkGrants (checkDrainEnd (reportSlot slot asked))

/-- ADM decides a COMMAND it has taken: refused with the status of the first check that fails, and accepted where all
pass (R98, R104). -/
def decideCommand (p : Path) (c : CommandFields) (s : State) : State :=
  match checkCommand s p c with
  | some status => admAnswer p c.tag status s
  | none =>
    match opOf c.op, s.freeEntrySlot with
    | some op, some slot => acceptCommand p c op slot s
    | _, _ => s

/-- The decision of a head that is a COMMAND whose op and flags fields a test accepts. -/
def commandWhere (p : Path) (test : Byte → Byte → Bool) : QueuedFrame → Option (State → State)
  | .command tag epoch op flags start count =>
    if test op flags then
      some (decideCommand p { tag := tag, epoch := epoch, op := op, flags := flags, start := start, count := count })
    else none
  | _ => none

end Sys2Proof.Machine
end

