-- ==== Sys2Proof/Machine/Requests.lean ====
section
/-! DEFINITION. The decisions of OWC on ownership requests: CLAIM (R46 to R48, R72), RELEASE (R49), REJOIN (R50), POLICY
(R51). Each is made at the moment ADM takes the head (R45). -/

namespace Sys2Proof.Machine

/-! ## CLAIM -/

/-- The fields of a CLAIM frame (R19). -/
structure ClaimFields where
  tag : Word
  epoch : Word
  flags : Byte
  overrideEpoch : Word
  deriving DecidableEq, Repr

/-- What a CLAIM comes to. -/
inductive ClaimDecision where
  | answered (status : Status)
  | accepted
  | forced (owner : Path)
  | overridden (epoch : Word)
  deriving DecidableEq, Repr

/-- A claim in OWNED or GRACE (R47). A record that names no owner there, which no run reaches, is answered as owned by
the partner. -/
def judgeClaimOwned (s : State) (p : Path) (flags : Byte) : ClaimDecision :=
  if s.owc.owner = some p then .answered .ok
  else if flagBit0 flags = false then .answered .notUnowned
  else if allowForce s.owc.policy = false then .answered .forbidden
  else .forced p.other

/-- A claim in FROZEN (R48, R44). -/
def judgeClaimFrozen (s : State) (c : ClaimFields) : ClaimDecision :=
  if flagBit1 c.flags = false then .answered .frozen
  else if s.dpt.state ≠ .ready then .answered .frozen
  else if c.overrideEpoch = 0#16 ∨ c.overrideEpoch = s.owc.epoch then .answered .staleEpoch
  else .overridden c.overrideEpoch

/-- A claim by the state, after the first three checks of R45. No request meets OWC in LOADING, where ADM takes
nothing; the arm answers as in COMMITTING. -/
def judgeClaimState (s : State) (p : Path) (c : ClaimFields) : ClaimDecision :=
  match s.owc.state with
  | .unowned => .accepted
  | .owned => judgeClaimOwned s p c.flags
  | .grace => judgeClaimOwned s p c.flags
  | .draining => .answered .contended
  | .committing => .answered .contended
  | .frozen => judgeClaimFrozen s c
  | .loading => .answered .contended

/-- The decision on a CLAIM: the checks of R45 in order. -/
def judgeClaim (s : State) (p : Path) (c : ClaimFields) : ClaimDecision :=
  if c.epoch ≠ s.owc.epoch then .answered .staleEpoch
  else if s.role p = .fenced then .answered .fenced
  else if (s.hmon.get p).health ≠ .healthy then .answered .notHealthy
  else judgeClaimState s p c

/-- The record at an accepted claim: COMMITTING, with the sender as successor (R46, R48). -/
def Owc.claimBy (p : Path) (o : Owc) : Owc :=
  { o with state := .committing, owner := none, successor := some (some p), frozenCause := none }

/-- A claim accepted in UNOWNED (R46). -/
def acceptClaim (p : Path) (tag : Word) (s : State) : State :=
  beginTransition .claim (oweReply p tag .claim (refreshRoles { s with owc := s.owc.claimBy p }))

/-- The contents of an override commit (R48). -/
def overrideContents (p : Path) (epoch : Word) (o : Owc) : Contents :=
  { owner := some p, epoch := epoch, count := o.commitCount + 1#32, policy := o.policy }

/-- An override claim accepted in FROZEN (R48). -/
def acceptOverride (p : Path) (tag epoch : Word) (s : State) : State :=
  beginCommit .override (overrideContents p epoch s.owc)
    (oweReply p tag .override (refreshRoles { s with owc := s.owc.claimBy p }))

/-- A forced claim accepted in OWNED or GRACE: its reply waits for the closing commit, and the owner is fenced (R47,
R72). -/
def acceptForced (p : Path) (tag : Word) (owner : Path) (s : State) : State :=
  beginFencedDrain .forced owner (oweReply p tag .forced s)

/-- OWC decides a CLAIM. -/
def decideClaim (p : Path) (c : ClaimFields) (s : State) : State :=
  match judgeClaim s p c with
  | .answered status => admAnswer p c.tag status s
  | .accepted => acceptClaim p c.tag s
  | .forced owner => acceptForced p c.tag owner s
  | .overridden epoch => acceptOverride p c.tag epoch s

/-- The decision of a head that is a CLAIM whose flags field a test accepts. -/
def claimWhere (p : Path) (test : Byte → Bool) : QueuedFrame → Option (State → State)
  | .claim tag epoch flags overrideEpoch =>
    if test flags then
      some (decideClaim p { tag := tag, epoch := epoch, flags := flags, overrideEpoch := overrideEpoch })
    else none
  | _ => none

/-! ## RELEASE -/

/-- The status a RELEASE is refused with; `none` for an accepted one (R49). -/
def judgeRelease (s : State) (p : Path) (epoch : Word) : Option Status :=
  if epoch ≠ s.owc.epoch then some .staleEpoch
  else if s.role p = .fenced then some .fenced
  else if s.owc.state = .owned ∧ s.owc.owner = some p then none
  else some .notOwner

/-- Whether an accepted RELEASE hands over: the handover flag set, the partner HEALTHY and not FENCED (R49). -/
def handsOver (s : State) (p : Path) (flags : Byte) : Bool :=
  flagBit0 flags && s.eligible p.other

/-- A RELEASE accepted from the owner in OWNED (R49). -/
def acceptRelease (p : Path) (tag : Word) (flags : Byte) (s : State) : State :=
  if handsOver s p flags then beginReleaseDrain .handover p (some p.other) (oweReply p tag .handover s)
  else beginReleaseDrain .release p none (oweReply p tag .release s)

/-- OWC decides a RELEASE. -/
def decideRelease (p : Path) (tag epoch : Word) (flags : Byte) (s : State) : State :=
  match judgeRelease s p epoch with
  | some status => admAnswer p tag status s
  | none => acceptRelease p tag flags s

/-- The decision of a head that is a RELEASE whose handover flag is as given. -/
def releaseWhere (p : Path) (handover : Bool) : QueuedFrame → Option (State → State)
  | .release tag epoch flags => if flagBit0 flags = handover then some (decideRelease p tag epoch flags) else none
  | _ => none

/-! ## REJOIN -/

/-- What a REJOIN comes to: a status, and whether the path is readmitted (R50). -/
def judgeRejoin (s : State) (p : Path) (epoch : Word) : Status × Bool :=
  if epoch ≠ s.owc.epoch then (.staleEpoch, false)
  else if s.role p ≠ .fenced then (.ok, false)
  else if (s.hmon.get p).health ≠ .healthy then (.notHealthy, false)
  else if s.owc.state = .draining then (.contended, false)
  else (.ok, true)

/-- An accepted REJOIN: the path is SHARER or STANDBY by share_reads (R50, R42). -/
def readmit (p : Path) (s : State) : State :=
  refreshRoles (setRole p (nonOwnerRole s.owc.policy) s)

/-- OWC decides a REJOIN. -/
def decideRejoin (p : Path) (tag epoch : Word) (s : State) : State :=
  admAnswer p tag (judgeRejoin s p epoch).1 (if (judgeRejoin s p epoch).2 then readmit p s else s)

/-- The decision of a head that is a REJOIN. -/
def rejoinHead (p : Path) : QueuedFrame → Option (State → State)
  | .rejoin tag epoch => some (decideRejoin p tag epoch)
  | _ => none

/-! ## POLICY -/

/-- Checks 1 to 5 of R51: `none` where all pass. -/
def judgePolicy (s : State) (p : Path) (epoch : Word) : Option Status :=
  if epoch ≠ s.owc.epoch then some .staleEpoch
  else if s.role p = .fenced then some .fenced
  else if s.owc.owner ≠ some p ∧ (s.hmon.get p).health ≠ .healthy then some .notHealthy
  else if ¬((s.owc.state = .owned ∧ s.owc.owner = some p) ∨ s.owc.state = .unowned) then some .notOwner
  else if s.commitInFlight = true ∨ s.owc.waitingTransition.isSome = true then some .busy
  else none

/-- The contents of a POLICY commit (R51). -/
def policyContents (r : PolicyRecord) (o : Owc) : Contents :=
  { owner := o.owner, epoch := o.epoch, count := o.commitCount + 1#32, policy := r }

/-- A POLICY accepted with its clamped record (R51). -/
def acceptPolicyRequest (p : Path) (tag : Word) (r : PolicyRecord) (s : State) : State :=
  beginCommit .policy (policyContents r s.owc)
    (oweReply p tag .policy { s with owc := { s.owc with pendingPolicy := some r } })

/-- OWC decides a POLICY: the checks of R51, the last being the validation of R52. -/
def decidePolicy (p : Path) (tag epoch : Word) (record : PolicyRecord) (s : State) : State :=
  match judgePolicy s p epoch with
  | some status => admAnswer p tag status s
  | none =>
    match acceptPolicy s.reportedCapacity record with
    | none => admAnswer p tag .badPolicy s
    | some r => acceptPolicyRequest p tag r s

/-- The decision of a head that is a POLICY. -/
def policyHead (p : Path) : QueuedFrame → Option (State → State)
  | .policy tag epoch record => some (decidePolicy p tag epoch record)
  | _ => none

end Sys2Proof.Machine
end

