-- ==== Sys2Proof/Machine/Inspection.lean ====
section
/-! DEFINITION. The Fault and Notice Unit's decisions: INSPECT and its tables (R184 to R191), CLEAR (R181, R182, R92),
NOTIFY_MASK (R183), DEVICE_RESET (R192). -/

namespace Sys2Proof.Machine

/-! ## Records -/

/-- A field of one byte; an absent one is sent as FFh (R185). -/
def optByte : Option Nat → List Byte
  | some n => beBytes 1 n
  | none => [0xFF#8]

/-- A byte of four flags, the first as bit 0. -/
def flagByte (b0 b1 b2 b3 : Bool) : List Byte :=
  beBytes 1 ((if b0 then 1 else 0) + (if b1 then 2 else 0) + (if b2 then 4 else 0) + (if b3 then 8 else 0))

/-- A field with one bit for each number in a list, bit k for number k. -/
def bitSet (width : Nat) (l : List Nat) : Nat :=
  ((List.range width).map (fun k => if l.contains k then 2 ^ k else 0)).sum

/-- The IDENTITY record, 22 bytes (R186). -/
def identityRecord (s : State) : List Byte :=
  let capacity := match s.dpt.identity with | some i => i.capacity | none => 0
  beBytes 2 0x4F4C ++ beBytes 2 0x0220 ++ beBytes 1 0x01 ++ beBytes 1 (resetCauseCode s.fnu.resetCause) ++
    beBytes 1 (driveStateCode s.dpt.state) ++ beBytes 1 (driveCauseCode s.dpt.cause) ++ beBytes 1 s.dpt.slotCount ++
    beBytes 6 capacity ++ beBytes 6 s.reportedCapacity ++ beBytes 1 s.fnu.postedLost

/-- The PATHS record of a path, 10 bytes (R187). -/
def pathRecord (s : State) (p : Path) : List Byte :=
  let f := s.pif.get p
  let h := s.hmon.get p
  beBytes 1 (linkCode f.link) ++ beBytes 1 h.score ++ beBytes 1 (healthCode h.health) ++
    beBytes 1 (roleCode (s.role p)) ++ beBytes 1 (s.occupancy p) ++ beBytes 1 (quotaOf s.owc.policy p) ++
    flagByte f.serverHold f.partHold false false ++ beBytes 1 (s.entryCount p) ++ beBytes 1 f.rxq.length ++
    beBytes 1 f.transmitCount

/-- The OWNERSHIP record, 15 bytes; each optional field is absent outside the states R40 gives it (R188). -/
def ownershipRecord (s : State) : List Byte :=
  let o := s.owc
  let draining := o.state = .draining
  beBytes 1 (ownStateCode o.state) ++ beBytes 1 (pathCode o.owner) ++ beBytes 2 o.epoch.toNat ++
    beBytes 4 o.commitCount.toNat ++ optByte (if draining then o.drainStage.map drainStageCode else none) ++
    optByte (if draining then o.drainCause.map drainCauseCode else none) ++
    optByte (if draining ∨ o.state = .committing then o.successor.map pathCode else none) ++
    optByte (o.drainedPath.map (fun p => pathCode (some p))) ++ optByte (o.purpose.map purposeCode) ++
    optByte (if o.state = .frozen then o.frozenCause.map frozenCauseCode else none) ++ beBytes 1 o.attempt

/-- The FAULTS record of a path, 4 bytes (R189). -/
def faultsRecord (s : State) (p : Path) : List Byte :=
  beBytes 2 (s.fnu.flags.get p).toNat ++ beBytes 2 (s.fnu.masks.get p).toNat

/-- The three counters of an entry: r, i and c of a write, i, f and d of a read, 0 for a FLUSH (R190). -/
def Entry.counters (e : Entry) : Nat × Nat × Nat :=
  match e.op with
  | .write => (e.staged, e.issued, e.committed)
  | .read => (e.issued, e.fetched, e.delivered)
  | .flush => (0, 0, 0)

/-- The INFLIGHT record of an entry, 39 bytes (R190). The frontier of a FLUSH is sent as 0: DESIGN CHOICE,
notes/assumptions/49.md. -/
def inflightRecord (e : Entry) : List Byte :=
  let (first, second, third) := e.counters
  beBytes 1 (pathCode (some e.origin)) ++ beBytes 2 e.tag.toNat ++ beBytes 1 (opCode e.op) ++
    flagByte e.common e.posted e.acked e.cut ++ beBytes 6 e.start ++ beBytes 2 e.count ++ beBytes 2 e.epoch.toNat ++
    beBytes 6 e.age ++ beBytes 1 (phaseCode e.phase) ++ beBytes 2 first ++ beBytes 2 second ++ beBytes 2 third ++
    beBytes 2 e.frontier ++ beBytes 1 e.returned.length ++ beBytes 1 e.reissue ++ beBytes 4 (bitSet 32 e.blockedBy) ++
    beBytes 1 (bitSet 8 (e.outstanding.map (fun g => g.driveSlot))) ++
    optByte (if e.phase = .ending then e.endStatus.map (fun st => statusCode st.status) else none) ++
    optByte (e.fencedOutcome.map outcomeCode)

/-- The header record of the ORPHANS table, 17 bytes (R191). -/
def orphanHeader (s : State) : List Byte :=
  beBytes 1 s.owc.orphans.length ++ beBytes 1 s.owc.dropped ++ List.replicate 15 0#8

/-- An orphan record, 17 bytes (R191). -/
def orphanBytes (r : OrphanRecord) : List Byte :=
  beBytes 1 (pathCode (some r.origin)) ++ beBytes 2 r.tag.toNat ++ beBytes 1 (opCode r.op) ++ beBytes 6 r.start ++
    beBytes 2 r.count ++ beBytes 2 r.done ++ beBytes 2 r.epoch.toNat ++ beBytes 1 (outcomeCode r.outcome)

/-- A history record, 6 bytes (R191). -/
def historyBytes (r : HistoryRecord) : List Byte :=
  beBytes 2 r.epoch.toNat ++ beBytes 1 (pathCode r.newOwner) ++ beBytes 1 (pathCode r.previousOwner) ++
    beBytes 1 (historyCauseCode r.cause) ++ beBytes 1 r.orphans

/-! ## Reading a position -/

/-- What a position of a table holds (R184). -/
inductive Position where
  | record (fields : List Byte)
  | empty
  | beyond
  deriving DecidableEq, Repr

/-- One record at index 0 alone. -/
def single (fields : List Byte) (index : Nat) : Position :=
  if index = 0 then .record fields else .beyond

/-- The record at an index of a list, by its encoding. -/
def listed {α : Type} (encode : α → List Byte) (l : List α) (index : Nat) : Position :=
  match l[index]? with
  | some x => .record (encode x)
  | none => .beyond

/-- The position of a cursor in the state current at the read (R184, R185). -/
def readPosition (s : State) (p : Path) (c : Cursor) : Position :=
  match c.table with
  | 0 => single (identityRecord s) c.index
  | 1 => listed (pathRecord s) [.a, .b] c.index
  | 2 => single (ownershipRecord s) c.index
  | 3 => single (encodePolicy s.owc.policy) c.index
  | 4 =>
    if c.index < Config.entrySlots then
      match s.entry? c.index with
      | some e => .record (inflightRecord e)
      | none => .empty
    else .beyond
  | 5 => if c.index = 0 then .record (orphanHeader s) else listed orphanBytes s.owc.orphans (c.index - 1)
  | 6 => listed historyBytes s.owc.history c.index
  | 7 => single (faultsRecord s p) c.index
  | _ => .beyond

/-- A RECORD that FNU produces (R180, R184). -/
def recordAnswer (p : Path) (tag : Word) (status : Status) (table : Nat) (index : Nat) (fields : List Byte) (s : State) :
    State :=
  s.offer p .fnuAnswer (.record tag status (BitVec.ofNat 8 table) (BitVec.ofNat 16 index) fields)

/-- Set the cursor of a path. -/
def setCursor (p : Path) (c : Cursor) (s : State) : State :=
  { s with fnu := { s.fnu with cursors := s.fnu.cursors.set p c } }

/-- The RECORD for a cursor's position, and the cursor afterwards (R184). -/
def answerPosition (p : Path) (tag : Word) (c : Cursor) (s : State) : State :=
  match readPosition s p c with
  | .record fields => recordAnswer p tag .ok c.table c.index fields (setCursor p { c with index := c.index + 1 } s)
  | .empty => recordAnswer p tag .empty c.table c.index [] (setCursor p { c with index := c.index + 1 } s)
  | .beyond => recordAnswer p tag .endOfTable c.table c.index [] (setCursor p c s)

/-! ## INSPECT -/

/-- INSPECT with mode SET (R184). -/
def inspectAt (p : Path) (tag : Word) (table : Byte) (index : Word) (s : State) : State :=
  if table.toNat ≤ 7 then answerPosition p tag { table := table.toNat, index := index.toNat } s
  else recordAnswer p tag .badTable table.toNat index.toNat [] s

/-- INSPECT with mode NEXT (R184). -/
def inspectOn (p : Path) (tag : Word) (s : State) : State :=
  answerPosition p tag (s.fnu.cursors.get p) s

/-- A decision that is not made, and has no effect, while 16 answers wait for the path (R180). -/
def withRoom (p : Path) (act : State → State) (s : State) : State :=
  if answersRoom s p then act s else s

/-- The decision of a head that is an INSPECT with mode SET. -/
def inspectSetHead (p : Path) : QueuedFrame → Option (State → State)
  | .inspect tag mode table index => if mode = 0#8 then some (withRoom p (inspectAt p tag table index)) else none
  | _ => none

/-- The decision of a head that is an INSPECT with mode NEXT. -/
def inspectNextHead (p : Path) : QueuedFrame → Option (State → State)
  | .inspect tag mode _ _ => if mode = 1#8 then some (withRoom p (inspectOn p tag)) else none
  | _ => none

/-- The decision of a head that is an INSPECT with any other mode: BAD_OP (R184). -/
def inspectBadHead (p : Path) : QueuedFrame → Option (State → State)
  | .inspect tag mode table index =>
    if mode = 0#8 ∨ mode = 1#8 then none
    else some (withRoom p (recordAnswer p tag .badOp table.toNat index.toNat []))
  | _ => none

/-! ## CLEAR and NOTIFY_MASK -/

/-- CLEAR of fault flags in the sender's own copy (R181). -/
def clearFlags (p : Path) (tag mask : Word) (s : State) : State :=
  answer p tag .ok
    { s with
      fnu := { s.fnu with flags := s.fnu.flags.set p (s.fnu.flags.get p &&& ~~~(mask.setWidth 9)) } }

/-- Whether OWC accepts a CLEAR of the orphan list (R92). -/
def clearPermitted (s : State) (p : Path) : Bool :=
  (s.owc.state == .owned && s.owc.owner == some p) || (s.owc.state == .unowned && s.role p != .fenced)

/-- CLEAR of the orphan list (R92, R182). -/
def clearOrphans (p : Path) (tag : Word) (s : State) : State :=
  if clearPermitted s p then answer p tag .ok { s with owc := { s.owc with orphans := [], dropped := 0 } }
  else answer p tag .notOwner s

/-- The decision of a head that is a CLEAR with target 0. -/
def clearFlagsHead (p : Path) : QueuedFrame → Option (State → State)
  | .clear tag target mask => if target = 0#8 then some (withRoom p (clearFlags p tag mask)) else none
  | _ => none

/-- The decision of a head that is a CLEAR with target 1. -/
def clearOrphansHead (p : Path) : QueuedFrame → Option (State → State)
  | .clear tag target _ => if target = 1#8 then some (withRoom p (clearOrphans p tag)) else none
  | _ => none

/-- The decision of a head that is a CLEAR with any other target: BAD_TABLE (R182). -/
def clearBadHead (p : Path) : QueuedFrame → Option (State → State)
  | .clear tag target _ => if target = 0#8 ∨ target = 1#8 then none else some (withRoom p (answer p tag .badTable))
  | _ => none

/-- NOTIFY_MASK replaces the sender's notice mask (R183). -/
def setNoticeMask (p : Path) (tag mask : Word) (s : State) : State :=
  answer p tag .ok { s with fnu := { s.fnu with masks := s.fnu.masks.set p (mask.setWidth 9) } }

/-- The decision of a head that is a NOTIFY_MASK. -/
def notifyMaskHead (p : Path) : QueuedFrame → Option (State → State)
  | .notifyMask tag mask => some (withRoom p (setNoticeMask p tag mask))
  | _ => none

/-! ## DEVICE_RESET -/

/-- The status a DEVICE_RESET is refused with; `none` for an accepted one (R192). -/
def judgeDeviceReset (s : State) (p : Path) (epoch : Word) : Option Status :=
  if epoch ≠ s.owc.epoch then some .staleEpoch
  else if s.owc.state = .owned ∧ s.owc.owner = some p then none
  else if (s.hmon.get p).health = .healthy ∧ s.role p ≠ .fenced ∧ (s.owc.state = .unowned ∨ s.owc.state = .frozen) then
    none
  else some .notOwner

/-- Record or discard the DEVICE_RESET in decision (R192). -/
def setDeciding (d : Option (Path × Word)) (s : State) : State :=
  { s with fnu := { s.fnu with deciding := d } }

/-- FNU decides a DEVICE_RESET: an accepted one is the soft reset and is not answered, a refused one is answered unless
16 answers wait (R192, R180). -/
def decideDeviceReset (p : Path) (tag epoch : Word) (s : State) : State :=
  let recorded := setDeciding (some (p, tag)) s
  setDeciding none
    (match judgeDeviceReset recorded p epoch with
     | some status => withRoom p (answer p tag status) recorded
     | none => softReset recorded)

/-- The decision of a head that is a DEVICE_RESET. -/
def deviceResetHead (p : Path) : QueuedFrame → Option (State → State)
  | .deviceReset tag epoch => some (decideDeviceReset p tag epoch)
  | _ => none

end Sys2Proof.Machine
end

