-- ==== Sys2Proof/Machine/DriveEvents.lean ====
section
/-! DEFINITION. Meanings of what comes from the drive, of the Drive Port's timers, and of the DRV_PRESENT line. -/

namespace Sys2Proof.Machine

/-- A record for the reserved slot, n − 1; while no slots are laid out there is none (R161, R167). -/
def takeReservedRecord (status : DriveStatus) (done : Nat) (block : List Byte) (s : State) : State :=
  if s.dpt.slotCount = 0 then s else takeRecord (s.dpt.slotCount - 1) status done [block] s

/-- PATH_SLOT_COMPLETION: a completion record that names a slot (R165 to R168, R173). -/
def execPathSlotCompletion (slot : Nat) (status : DriveStatus) (done : Word) (blocks : List (List Byte)) (s : State) :
    Host.Outcome State Fault Refusal :=
  .next (takeRecord slot status done.toNat blocks s)

/-- RESERVED_SLOT_COMPLETION: a completion record for the reserved slot (R167, R54 to R56, R60 to R62). -/
def execReservedSlotCompletion (status : DriveStatus) (done : Word) (block : List Byte) (s : State) :
    Host.Outcome State Fault Refusal :=
  .next (takeReservedRecord status done.toNat block s)

/-- IDENTIFY_COMPLETION: a completion record for slot 0 with identify results (R158, R159). -/
def execIdentifyCompletion (status : DriveStatus) (done : Word) (capacity : Lba) (blockSize depth : Nat) (s : State) :
    Host.Outcome State Fault Refusal :=
  .next (takeIdentifyRecord status done.toNat
    { capacity := capacity.toNat, blockSize := blockSize, depth := takenDepth depth } s)

/-- IDENTIFY_TIMEOUT: slot 0's timer expires while IDENTIFYING (R158). -/
def execIdentifyTimeout (s : State) : Host.Outcome State Fault Refusal :=
  .next (identifyExpired s)

/-- SLOT_TIMEOUT: the timer of a busy drive slot expires (R169, R170). -/
def execSlotTimeout (slot : Nat) (s : State) : Host.Outcome State Fault Refusal :=
  .next (slotExpired slot s)

/-- READY_INDICATION: the drive is ready after a reset (R172). -/
def execReadyIndication (s : State) : Host.Outcome State Fault Refusal :=
  .next (takeReadyIndication s)

/-- RESET_TIMEOUT: the reset timer expires (R172, R174). -/
def execResetTimeout (s : State) : Host.Outcome State Fault Refusal :=
  .next (resetExpired s)

/-- DRV_PRESENT_FALL: the drive is removed (R175, R174). -/
def execDrvPresentFall (s : State) : Host.Outcome State Fault Refusal :=
  .next (presentFalls s)

/-- DRV_PRESENT_RISE: a drive is inserted (R175, R158). -/
def execDrvPresentRise (s : State) : Host.Outcome State Fault Refusal :=
  .next (presentRises s)

end Sys2Proof.Machine
end

