-- ==== Sys2Proof/Machine/HeadCommands.lean ====
section
/-! DEFINITION. Meanings of the steps in which ADM takes the head of a receive queue (R94 to R96, R109). -/

namespace Sys2Proof.Machine

/-- COMMAND_READ (R98 to R105). -/
def execCommandRead (p : Path) (s : State) : Host.Outcome State Fault Refusal :=
  .next (takeHead p (commandWhere p (fun op _ => opOf op == some .read)) s)

/-- COMMAND_WRITE, with the posted request clear (R98 to R107). -/
def execCommandWrite (p : Path) (s : State) : Host.Outcome State Fault Refusal :=
  .next (takeHead p (commandWhere p (fun op flags => opOf op == some .write && !flagBit0 flags)) s)

/-- COMMAND_WRITE_POSTED, with the posted request set (R98 to R107, R103). -/
def execCommandWritePosted (p : Path) (s : State) : Host.Outcome State Fault Refusal :=
  .next (takeHead p (commandWhere p (fun op flags => opOf op == some .write && flagBit0 flags)) s)

/-- COMMAND_FLUSH (R98 to R108). -/
def execCommandFlush (p : Path) (s : State) : Host.Outcome State Fault Refusal :=
  .next (takeHead p (commandWhere p (fun op _ => opOf op == some .flush)) s)

/-- COMMAND_BAD_OP: a COMMAND with an op outside 1 to 3 (R98, R99). -/
def execCommandBadOp (p : Path) (s : State) : Host.Outcome State Fault Refusal :=
  .next (takeHead p (commandWhere p (fun op _ => (opOf op).isNone)) s)

/-- CLAIM with force and override clear (R46 to R48). -/
def execClaim (p : Path) (s : State) : Host.Outcome State Fault Refusal :=
  .next (takeHead p (claimWhere p (fun flags => !flagBit0 flags && !flagBit1 flags)) s)

/-- FORCED_CLAIM: a CLAIM with the force flag set (R46 to R48, R72). -/
def execForcedClaim (p : Path) (s : State) : Host.Outcome State Fault Refusal :=
  .next (takeHead p (claimWhere p (fun flags => flagBit0 flags)) s)

/-- OVERRIDE_CLAIM: a CLAIM with the override flag set (R44, R46 to R48). -/
def execOverrideClaim (p : Path) (s : State) : Host.Outcome State Fault Refusal :=
  .next (takeHead p (claimWhere p (fun flags => flagBit1 flags)) s)

/-- RELEASE with the handover flag clear (R49). -/
def execRelease (p : Path) (s : State) : Host.Outcome State Fault Refusal :=
  .next (takeHead p (releaseWhere p false) s)

/-- RELEASE_HANDOVER: a RELEASE with the handover flag set (R49). -/
def execReleaseHandover (p : Path) (s : State) : Host.Outcome State Fault Refusal :=
  .next (takeHead p (releaseWhere p true) s)

/-- REJOIN (R50). -/
def execRejoin (p : Path) (s : State) : Host.Outcome State Fault Refusal :=
  .next (takeHead p (rejoinHead p) s)

/-- POLICY (R51, R52). -/
def execPolicy (p : Path) (s : State) : Host.Outcome State Fault Refusal :=
  .next (takeHead p (policyHead p) s)

/-- INSPECT_SET (R184 to R191). -/
def execInspectSet (p : Path) (s : State) : Host.Outcome State Fault Refusal :=
  .next (takeHead p (inspectSetHead p) s)

/-- INSPECT_NEXT (R184 to R191). -/
def execInspectNext (p : Path) (s : State) : Host.Outcome State Fault Refusal :=
  .next (takeHead p (inspectNextHead p) s)

/-- INSPECT_BAD_MODE (R184). -/
def execInspectBadMode (p : Path) (s : State) : Host.Outcome State Fault Refusal :=
  .next (takeHead p (inspectBadHead p) s)

/-- CLEAR_FAULT_FLAGS (R181). -/
def execClearFaultFlags (p : Path) (s : State) : Host.Outcome State Fault Refusal :=
  .next (takeHead p (clearFlagsHead p) s)

/-- CLEAR_ORPHAN_LIST (R92, R182). -/
def execClearOrphanList (p : Path) (s : State) : Host.Outcome State Fault Refusal :=
  .next (takeHead p (clearOrphansHead p) s)

/-- CLEAR_BAD_TARGET (R182). -/
def execClearBadTarget (p : Path) (s : State) : Host.Outcome State Fault Refusal :=
  .next (takeHead p (clearBadHead p) s)

/-- NOTIFY_MASK (R183). -/
def execNotifyMask (p : Path) (s : State) : Host.Outcome State Fault Refusal :=
  .next (takeHead p (notifyMaskHead p) s)

/-- DEVICE_RESET (R192, R193). -/
def execDeviceReset (p : Path) (s : State) : Host.Outcome State Fault Refusal :=
  .next (takeHead p (deviceResetHead p) s)

end Sys2Proof.Machine
end

