-- ==== Sys2Proof/Machine/InternalSteps.lean ====
section
/-! DEFINITION. Meanings of the part's own steps. The event that makes such a step due also takes it, because the rules
place it at that event (notes/assumptions/4.md); the command takes the step where it is due, and otherwise changes
nothing. -/

namespace Sys2Proof.Machine

/-- The removal of an entry whose report is due: its report, the removal, the check for drain end, and what follows
(R128, R129). -/
def removeDue (slot : Nat) (s : State) : State :=
  follow s (checkDrainEnd (reportSlot slot s))

/-- The beginning of the load, due in LOADING with the drive READY and no attempt begun (R59). -/
def beginDueLoad (s : State) : State :=
  if s.owc.state = .loading ∧ s.owc.attempt = 0 ∧ s.dpt.state = .ready then beginLoad s else s

/-- WAITING_FRAME_ENTRY: the frame that waited longest enters a transmit queue with room (R12, R128). -/
def execWaitingFrameEntry (p : Path) (s : State) : Host.Outcome State Fault Refusal :=
  .next (conclude s (enterWaiting p s))

/-- READ_DATA_OFFER: the deliverable block of the path's oldest delivering read is offered (R131). -/
def execReadDataOffer (p : Path) (s : State) : Host.Outcome State Fault Refusal :=
  .next (offerReadData p s)

/-- READ_GRANT: the requests due are placed and the grant list is walked; what it grants may take a drive slot (R145,
R146, R162). -/
def execReadGrant (s : State) : Host.Outcome State Fault Refusal :=
  .next (runArbiter (walkGrants s))

/-- SEGMENT_ISSUE: a run of the slot arbiter (R121, R162, R163). -/
def execSegmentIssue (s : State) : Host.Outcome State Fault Refusal :=
  .next (runArbiter s)

/-- RESERVED_OPERATION_ISSUE: the reserved-slot request is issued (R164). -/
def execReservedOperationIssue (s : State) : Host.Outcome State Fault Refusal :=
  .next (issueReserved s)

/-- ENTRY_REMOVAL: an entry whose report is due is reported and removed (R128, R129). -/
def execEntryRemoval (slot : Nat) (s : State) : Host.Outcome State Fault Refusal :=
  .next (removeDue slot s)

/-- DRAIN_END: a drain whose path holds no entry ends (R80, R87, R88). -/
def execDrainEnd (s : State) : Host.Outcome State Fault Refusal :=
  .next (checkDrainEnd s)

/-- WAITING_TRANSITION: the waiting transition begins its commit (R53, R54). -/
def execWaitingTransition (s : State) : Host.Outcome State Fault Refusal :=
  .next (beginWaiting s)

/-- LOAD_BEGIN: the load begins (R59). -/
def execLoadBegin (s : State) : Host.Outcome State Fault Refusal :=
  .next (beginDueLoad s)

end Sys2Proof.Machine
end

