-- ==== Sys2Proof/Machine/LinkEvents.lean ====
section
/-! DEFINITION. Meanings of the events of a path link: carrier, characters, frames and transmissions. -/

namespace Sys2Proof.Machine

/-- CARRIER_LOSS (R6, R34, R133). A link that is DOWN has no carrier to lose, and stays as it is. -/
def execCarrierLoss (p : Path) (s : State) : Host.Outcome State Fault Refusal :=
  .next (carrierLost p s)

/-- CARRIER_RETURN (R7, R35). A link that is UP has its carrier, and stays as it is. -/
def execCarrierReturn (p : Path) (s : State) : Host.Outcome State Fault Refusal :=
  .next (carrierBack p s)

/-- LINK_CHARACTER: any character that arrives on a path (R1 to R4). -/
def execLinkCharacter (p : Path) (marked : Bool) (byte : Byte) (s : State) : Host.Outcome State Fault Refusal :=
  .next (takeCharacter p marked byte s)

/-- TRUNCATION: a marked character arrives while a frame is in assembly, which is discarded, and begins a new one (R1,
R5). -/
def execTruncation (p : Path) (kind : Byte) (s : State) : Host.Outcome State Fault Refusal :=
  .next (takeCharacterIf (fun a => a != .idle) p true kind s)

/-- OVER_LENGTH: the second length byte arrives and gives a length above 4100, which ends the frame as a link error (R2,
R5). -/
def execOverLength (p : Path) (lengthLow : Byte) (s : State) : Host.Outcome State Fault Refusal :=
  .next (takeCharacterIf (Assembler.overLength lengthLow) p false lengthLow s)

/-- CHECK_FAILURE: the second check byte arrives and the check differs from the running sum (R3, R5). -/
def execCheckFailure (p : Path) (checkLow : Byte) (s : State) : Host.Outcome State Fault Refusal :=
  .next (takeCharacterIf (Assembler.checkFails checkLow) p false checkLow s)

/-- UNKNOWN_KIND: the second check byte arrives, the check is right, and the kind or its length is not one a server sends
(R3, R5). -/
def execUnknownKind (p : Path) (checkLow : Byte) (s : State) : Host.Outcome State Fault Refusal :=
  .next (takeCharacterIf (Assembler.unknownKind checkLow) p false checkLow s)

/-- GAP_TIMEOUT: the gap timer of a frame in assembly expires (R4, R5). -/
def execGapTimeout (p : Path) (s : State) : Host.Outcome State Fault Refusal :=
  .next (gapExpired p s)

/-- PULSE: a valid PULSE is complete (R8, R9, R29). -/
def execPulse (p : Path) (epoch : Word) (sequence : Byte) (s : State) : Host.Outcome State Fault Refusal :=
  .next (frameCompletes p (.pulse epoch sequence) s)

/-- HOLD: a valid HOLD from the server is complete (R15). -/
def execHold (p : Path) (s : State) : Host.Outcome State Fault Refusal :=
  .next (frameCompletes p .hold s)

/-- GO: a valid GO from the server is complete (R15, R32). -/
def execGo (p : Path) (s : State) : Host.Outcome State Fault Refusal :=
  .next (frameCompletes p .go s)

/-- WRITE_DATA: a valid WRITE_DATA is complete, or, on a DOWN link, was complete before carrier loss and reaches STB after
it (R140 to R143, R33). -/
def execWriteData (p : Path) (tag offset : Word) (data : List Byte) (s : State) : Host.Outcome State Fault Refusal :=
  .next (frameCompletes p (.writeData tag offset data) s)

/-- RECEIVE_QUEUE_ARRIVAL: a valid command or control frame is complete (R10). -/
def execReceiveQueueArrival (p : Path) (frame : QueuedFrame) (s : State) : Host.Outcome State Fault Refusal :=
  .next (frameCompletes p (.queued frame) s)

/-- FRAME_TRANSMITTED: the last character of the frame in transmission is sent (R12 to R14, R131). -/
def execFrameTransmitted (p : Path) (s : State) : Host.Outcome State Fault Refusal :=
  .next (frameSent p s)

end Sys2Proof.Machine
end

