-- ==== Sys2Proof/Machine/ResetEvents.lean ====
section
/-! DEFINITION. Meanings of power-on and of the reset pin. -/

namespace Sys2Proof.Machine

/-- POWER_ON_RESET, with the level DRV_PRESENT has (R17, R38, R67, R93, R136, R154, R157, R194). -/
def execPowerOnReset (drivePresent : Bool) (s : State) : Host.Outcome State Fault Refusal :=
  .next (powerUp .power drivePresent s)

/-- PIN_RESET: as power-on, with reset cause PIN and DRV_PRESENT as it stands (R17, R194). -/
def execPinReset (s : State) : Host.Outcome State Fault Refusal :=
  .next (powerUp .pin s.dpt.present s)

end Sys2Proof.Machine
end

