-- ==== Sys2Proof/Machine/Timers.lean ====
section
/-! DEFINITION. Meanings of the timers of HMON and OWC: pulse windows (R28 to R30), grace (R71), the drain stages (R82,
R83, R85). An expiry of a timer that is stopped is not taken. -/

namespace Sys2Proof.Machine

/-! ## Pulse windows and grace -/

/-- The expiry of a path's pulse window (R30). -/
def windowExpires (p : Path) (s : State) : State :=
  if (s.hmon.get p).window.isSome then nextWindow p (applyScore p (windowScore p s) s) else s

/-- The expiry of the grace timer (R71). -/
def graceExpires (s : State) : State :=
  match s.owc.graceTimer, s.owc.owner with
  | some _, some owner => if s.owc.state = .grace then beginFencedDrain .loss owner s else s
  | _, _ => s

/-! ## Drain stages -/

/-- The drained path of a drain in a stage whose timer runs. -/
def State.drainDue (s : State) (stage : DrainStage) : Option Path :=
  if s.owc.state = .draining ∧ s.owc.drainStage = some stage ∧ s.owc.drainTimer.isSome = true then s.owc.drainedPath
  else none

/-- Set the drain stage and restart the drain timer with the drain_ms in force (R82, R83). -/
def enterStage (stage : DrainStage) (s : State) : State :=
  startDrainTimer { s with owc := { s.owc with drainStage := some stage } }

/-- The expiry of the drain timer in stage 1: the releaser is fenced, stage 2, the timer restarted, the check for drain
end (R82). -/
def stage1Expires (s : State) : State :=
  match s.drainDue .cooperative with
  | some releaser => conclude s (refreshRoles (enterStage .fenced (fence releaser s)))
  | none => s

/-- The expiry of the drain timer in stage 2: a drive reset is asked, and a drain it has not ended enters stage 3 with
the timer restarted and the check for drain end (R83). -/
def stage2Expires (s : State) : State :=
  match s.drainDue .fenced with
  | some _ =>
    let asked := requestReset s
    if asked.owc.state = .draining then conclude asked (enterStage .resetDone asked) else asked
  | none => s

/-- Whether an entry of a path has a segment outstanding. -/
def State.pathOutstanding (s : State) (p : Path) : Bool :=
  s.ift.any (fun e => e.origin == p && !e.outstanding.isEmpty)

/-- The expiry of the drain timer in stage 3: an end with DRIVE_STALL is decided for each remaining entry that holds
none, and a drive reset is asked where one still has a segment outstanding. The timer is not restarted (R85). The removals
and the run of the slot arbiter they bring come before the reset: DESIGN CHOICE, notes/assumptions/35.md. -/
def stage3Expires (s : State) : State :=
  match s.drainDue .resetDone with
  | some drained =>
    let stopped : State := { s with owc := { s.owc with drainTimer := none } }
    let ended :=
      conclude s (forSlots (decideEnd .driveStall) (stopped.slotsWhere (fun e => e.origin == drained)) stopped)
    if ended.pathOutstanding drained then requestReset ended else ended
  | none => s

/-! ## Meanings -/

/-- PULSE_WINDOW_EXPIRY (R28, R30). -/
def execPulseWindowExpiry (p : Path) (s : State) : Host.Outcome State Fault Refusal :=
  .next (windowExpires p s)

/-- GRACE_EXPIRY (R71). -/
def execGraceExpiry (s : State) : Host.Outcome State Fault Refusal :=
  .next (graceExpires s)

/-- DRAIN_STAGE1_EXPIRY (R82). -/
def execDrainStage1Expiry (s : State) : Host.Outcome State Fault Refusal :=
  .next (stage1Expires s)

/-- DRAIN_STAGE2_EXPIRY (R83, R84). -/
def execDrainStage2Expiry (s : State) : Host.Outcome State Fault Refusal :=
  .next (stage2Expires s)

/-- DRAIN_STAGE3_EXPIRY (R85). -/
def execDrainStage3Expiry (s : State) : Host.Outcome State Fault Refusal :=
  .next (stage3Expires s)

end Sys2Proof.Machine
end

