-- ==== Sys2Proof/Machine/Dispatch.lean ====
section
/-! DEFINITION. The meaning of each command, by its constructor. -/

namespace Sys2Proof.Machine

/-- The effect of a command on everything but the queue. -/
def exec (i : Instr) (s : State) : Host.Outcome State Fault Refusal :=
  match i with
  | .powerOnReset drivePresent => Sys2Proof.Machine.execPowerOnReset drivePresent s
  | .pinReset => Sys2Proof.Machine.execPinReset s
  | .carrierLoss p => Sys2Proof.Machine.execCarrierLoss p s
  | .carrierReturn p => Sys2Proof.Machine.execCarrierReturn p s
  | .truncation p kind => Sys2Proof.Machine.execTruncation p kind s
  | .overLength p lengthLow => Sys2Proof.Machine.execOverLength p lengthLow s
  | .gapTimeout p => Sys2Proof.Machine.execGapTimeout p s
  | .checkFailure p checkLow => Sys2Proof.Machine.execCheckFailure p checkLow s
  | .unknownKind p checkLow => Sys2Proof.Machine.execUnknownKind p checkLow s
  | .pulse p epoch sequence => Sys2Proof.Machine.execPulse p epoch sequence s
  | .hold p => Sys2Proof.Machine.execHold p s
  | .go p => Sys2Proof.Machine.execGo p s
  | .writeData p tag offset data => Sys2Proof.Machine.execWriteData p tag offset data s
  | .receiveQueueArrival p frame => Sys2Proof.Machine.execReceiveQueueArrival p frame s
  | .commandRead p => Sys2Proof.Machine.execCommandRead p s
  | .commandWrite p => Sys2Proof.Machine.execCommandWrite p s
  | .commandWritePosted p => Sys2Proof.Machine.execCommandWritePosted p s
  | .commandFlush p => Sys2Proof.Machine.execCommandFlush p s
  | .commandBadOp p => Sys2Proof.Machine.execCommandBadOp p s
  | .claim p => Sys2Proof.Machine.execClaim p s
  | .forcedClaim p => Sys2Proof.Machine.execForcedClaim p s
  | .overrideClaim p => Sys2Proof.Machine.execOverrideClaim p s
  | .release p => Sys2Proof.Machine.execRelease p s
  | .releaseHandover p => Sys2Proof.Machine.execReleaseHandover p s
  | .rejoin p => Sys2Proof.Machine.execRejoin p s
  | .policy p => Sys2Proof.Machine.execPolicy p s
  | .inspectSet p => Sys2Proof.Machine.execInspectSet p s
  | .inspectNext p => Sys2Proof.Machine.execInspectNext p s
  | .clearFaultFlags p => Sys2Proof.Machine.execClearFaultFlags p s
  | .clearOrphanList p => Sys2Proof.Machine.execClearOrphanList p s
  | .notifyMask p => Sys2Proof.Machine.execNotifyMask p s
  | .deviceReset p => Sys2Proof.Machine.execDeviceReset p s
  | .waitingFrameEntry p => Sys2Proof.Machine.execWaitingFrameEntry p s
  | .frameTransmitted p => Sys2Proof.Machine.execFrameTransmitted p s
  | .readDataOffer p => Sys2Proof.Machine.execReadDataOffer p s
  | .pulseWindowExpiry p => Sys2Proof.Machine.execPulseWindowExpiry p s
  | .graceExpiry => Sys2Proof.Machine.execGraceExpiry s
  | .drainStage1Expiry => Sys2Proof.Machine.execDrainStage1Expiry s
  | .drainStage2Expiry => Sys2Proof.Machine.execDrainStage2Expiry s
  | .drainStage3Expiry => Sys2Proof.Machine.execDrainStage3Expiry s
  | .drainEnd => Sys2Proof.Machine.execDrainEnd s
  | .waitingTransition => Sys2Proof.Machine.execWaitingTransition s
  | .loadBegin => Sys2Proof.Machine.execLoadBegin s
  | .reservedOperationIssue => Sys2Proof.Machine.execReservedOperationIssue s
  | .segmentIssue => Sys2Proof.Machine.execSegmentIssue s
  | .readGrant => Sys2Proof.Machine.execReadGrant s
  | .pathSlotCompletion slot status done blocks => Sys2Proof.Machine.execPathSlotCompletion slot status done blocks s
  | .entryRemoval slot => Sys2Proof.Machine.execEntryRemoval slot s
  | .reservedSlotCompletion status done block => Sys2Proof.Machine.execReservedSlotCompletion status done block s
  | .identifyCompletion status done capacity blockSize depth => Sys2Proof.Machine.execIdentifyCompletion status done capacity blockSize depth s
  | .identifyTimeout => Sys2Proof.Machine.execIdentifyTimeout s
  | .slotTimeout slot => Sys2Proof.Machine.execSlotTimeout slot s
  | .readyIndication => Sys2Proof.Machine.execReadyIndication s
  | .resetTimeout => Sys2Proof.Machine.execResetTimeout s
  | .drvPresentFall => Sys2Proof.Machine.execDrvPresentFall s
  | .drvPresentRise => Sys2Proof.Machine.execDrvPresentRise s
  | .linkCharacter p marked byte => Sys2Proof.Machine.execLinkCharacter p marked byte s
  | .inspectBadMode p => Sys2Proof.Machine.execInspectBadMode p s
  | .clearBadTarget p => Sys2Proof.Machine.execClearBadTarget p s

end Sys2Proof.Machine
end

