-- ==== Sys2Proof/Safety.lean ====
section
/-! DEFINITION. The relations that hold of the part at every moment, as properties of a state, and the words the
statements use for what a step brings about. -/

namespace Sys2Proof.Machine

/-! ## Health (R27) -/

/-- The thresholds of the policy in force, and of a policy being committed, are in order (R52). -/
def PolicyOrdered (s : State) : Prop :=
  thresholdsOrdered s.owc.policy = true ∧
    ∀ r, s.owc.pendingPolicy = some r → thresholdsOrdered r = true

/-- The relations of R27 for one path, with the range a DOUBTFUL path's score lies in (R26). -/
def HealthSound (r : PolicyRecord) (link : Link) (h : Hmon) : Prop :=
  h.score ≤ Config.scoreMax ∧
    (h.health = .healthy → h.score < r.doubtHi.toNat) ∧
    (h.health = .doubtful → r.doubtLo.toNat < h.score ∧ h.score < r.lostAt.toNat) ∧
    (h.health = .lost → r.doubtLo.toNat < h.score) ∧
    (link = .down → h.health = .lost ∧ h.score = Config.scoreMax)

/-- The relations of R27 for both paths, under ordered thresholds. -/
def HealthInv (s : State) : Prop :=
  PolicyOrdered s ∧ ∀ p, HealthSound s.owc.policy (s.pif.get p).link (s.hmon.get p)

/-! ## Ownership (R40 to R42, R53) -/

/-- A commit in flight of a purpose other than POLICY has its record in COMMITTING and names no FENCED path, and only a
POLICY commit has a transition waiting for it. -/
def CommitSound (s : State) : Prop :=
  (∀ c purpose, s.owc.contents = some c → s.owc.purpose = some purpose → purpose ≠ .policy →
      s.owc.state = .committing ∧ (∀ p, c.owner = some p → s.role p ≠ .fenced) ∧ s.owc.waitingTransition = none) ∧
    (∀ purpose, s.owc.waitingTransition = some purpose → s.owc.state = .committing ∧ purpose ≠ .policy) ∧
    (s.owc.state = .committing → ∀ p, s.owc.successor = some (some p) → s.role p ≠ .fenced)

/-- The record names an owner exactly in OWNED and GRACE (R41), never a FENCED path, and each path has the role that the
list of R42 gives it. -/
def OwnershipInv (s : State) : Prop :=
  (s.owc.owner.isSome = true ↔ s.owc.state = .owned ∨ s.owc.state = .grace) ∧
    (∀ p, s.owc.owner = some p → s.role p ≠ .fenced) ∧
    (∀ p, s.role p = roleFor s.owc p) ∧
    CommitSound s

/-! ## Pages (R137) -/

/-- The allocated pages are numbered 0 to 254, each at most once, and a page of an entry belongs to an entry that stands
in the table. -/
def PagesInv (s : State) : Prop :=
  s.stb.pages.Pairwise (fun x y => x.number < y.number) ∧
    ∀ r ∈ s.stb.pages, r.number < Config.pathPages ∧ ∀ slot, r.slot = some slot → (s.entry? slot).isSome = true

/-! ## Queues of a path interface (R10, R12, R97, R180) -/

/-- The number of frames of a producer that wait for room. -/
def Pif.waitingOf (producer : Producer) (f : Pif) : Nat :=
  (f.waiting.filter (fun w => w.producer == producer)).length

/-- The receive queue holds at most 16 frames and the transmit queue at most 32; at most one frame of ADM, one FLAG
notice of each id and 16 answers of FNU wait. -/
def PifBounded (f : Pif) : Prop :=
  f.rxq.length ≤ Config.receiveDepth ∧ f.transmitCount ≤ Config.transmitDepth ∧ f.waitingOf .adm ≤ 1 ∧
    (∀ flag, f.waitingOf (.fnuFlag flag) ≤ 1) ∧ f.waitingOf .fnuAnswer ≤ Config.waitingAnswers

def QueuesInv (s : State) : Prop :=
  ∀ p, PifBounded (s.pif.get p)

/-! ## Records of OWC and DPT (R66, R90, R55, R158) -/

/-- The history holds at most 8 records and the orphan list at most 32; the counters stay in their ranges. -/
def RecordsInv (s : State) : Prop :=
  s.owc.history.length ≤ Config.historyDepth ∧ s.owc.orphans.length ≤ Config.orphanDepth ∧
    s.owc.dropped ≤ Config.counterMax ∧ (∀ n, s.owc.orphansAdded = some n → n ≤ Config.counterMax) ∧
    s.owc.attempt ≤ Config.attemptMax ∧ s.dpt.identifyFailures ≤ Config.attemptMax ∧
    (s.dpt.state = .identifying ∨ s.dpt.state = .resetting ∨ s.dpt.state = .ready →
      s.dpt.identifyFailures < Config.attemptMax)

/-! ## Drive slots (R161) -/

/-- A slot of a drive in READY holds a segment where it is a path slot, and an ownership block operation where it is the
reserved slot. -/
def SlotSound (n : Nat) (b : BusySlot) : Prop :=
  match b.holder with
  | .segment _ _ _ _ => b.slot + 1 < n
  | .blockOp _ _ => b.slot + 1 = n
  | .identify => False

/-- In READY 2 to 8 slots are laid out, each holding at most one command of its kind; in IDENTIFYING the IDENTIFY in slot
0 is the only command; in every other state none is outstanding. The reset timer runs in RESETTING alone. -/
def DriveInv (s : State) : Prop :=
  (s.dpt.state = .ready →
      2 ≤ s.dpt.slotCount ∧ s.dpt.slotCount ≤ Config.maxDriveSlots ∧
        s.dpt.busy.Pairwise (fun x y => x.slot ≠ y.slot) ∧ ∀ b ∈ s.dpt.busy, SlotSound s.dpt.slotCount b) ∧
    (s.dpt.state = .identifying → ∃ timer, s.dpt.busy = [{ slot := 0, holder := .identify, timer := timer }]) ∧
    (s.dpt.state ≠ .ready → s.dpt.state ≠ .identifying → s.dpt.busy = []) ∧
    (s.dpt.resetTimer.isSome = true ↔ s.dpt.state = .resetting)

/-! ## The In-Flight Table (R93, R104) -/

/-- The entries stand in order of age, with distinct slots 0 to 31, below the admission counter. -/
def TableInv (s : State) : Prop :=
  s.ift.Pairwise (fun x y => x.age < y.age) ∧ s.ift.Pairwise (fun x y => x.slot ≠ y.slot) ∧
    (∀ e ∈ s.ift, e.slot < Config.entrySlots ∧ e.age < s.adm.sequence) ∧ s.adm.sequence ≤ Config.sequenceMax + 1

/-- Every report that is due has been made (R128, R129): the model makes it at the event that brings it due,
notes/assumptions/4.md. -/
def ReportsMade (s : State) : Prop :=
  ∀ e ∈ s.ift, s.reportDue e = false

/-- The relation that every step keeps with the reports made: the table in order, every entry in ENDING holding an end
status (R126), and no report due that has not been made. -/
def ReportsInv (s : State) : Prop :=
  TableInv s ∧ (∀ e ∈ s.ift, e.phase = .ending → e.endStatus.isSome = true) ∧ ReportsMade s

/-! ## What the statements say of a step -/

/-- The frame stands in a path's transmit queue, is being sent, or waits for room. -/
def Carries (f : Pif) (frame : OutFrame) : Prop :=
  (∃ x ∈ f.txq, x.frame = frame) ∨ (∃ x, f.sending = some x ∧ x.item.frame = frame) ∨
    ∃ w ∈ f.waiting, w.item.frame = frame

/-- The flow frame waits in the flow position of a path, or is being sent from it (R16). -/
def FlowPlaced (f : Pif) (frame : OutFrame) : Prop :=
  f.flowWaiting = some frame ∨ f.sending = some { source := .flow, item := { frame := frame, tie := .plain } }

/-- `first` and `rest` are what stands before and behind `x` in the transmit queue, and `x` is the oldest frame that may be
sent: every frame before it is a READ_DATA held back under server-hold, and `x` is none (R13). -/
def OldestSendable (f : Pif) (first : List TxItem) (x : TxItem) (rest : List TxItem) : Prop :=
  f.txq = first ++ x :: rest ∧ (∀ y ∈ first, f.serverHold = true ∧ y.frame.isReadData = true) ∧
    ¬(f.serverHold = true ∧ x.frame.isReadData = true)

/-- A flag is set in both fault copies. -/
def FlagInBoth (flag : Flag) (s : State) : Prop :=
  ∀ p, hasFlag (s.fnu.flags.get p) flag = true

/-- The parts of the ownership record that only a completed ownership block operation or a power-on or pin reset
changes. -/
def SameBlock (s t : State) : Prop :=
  t.owc.epoch = s.owc.epoch ∧ t.owc.commitCount = s.owc.commitCount ∧ t.owc.policy = s.owc.policy

/-- ADM's arbiter chooses the path, and the frame stands at the head of its receive queue (R95, R96). -/
def TakesHead (s : State) (p : Path) (frame : QueuedFrame) : Prop :=
  s.chosenPath = some p ∧ (s.pif.get p).rxq.head? = some frame

/-- The command that takes a COMMAND head with these op and flags fields. -/
def commandRow (p : Path) (op flags : Byte) : Instr :=
  match opOf op with
  | none => .commandBadOp p
  | some .read => .commandRead p
  | some .flush => .commandFlush p
  | some .write => if flagBit0 flags then .commandWritePosted p else .commandWrite p

/-- Whether a command takes a CLAIM head with this flags field: CLAIM with force and override clear, FORCED_CLAIM with
force set, OVERRIDE_CLAIM with override set. -/
def ClaimRow (p : Path) (flags : Byte) (i : Instr) : Prop :=
  (i = .claim p ∧ flagBit0 flags = false ∧ flagBit1 flags = false) ∨ (i = .forcedClaim p ∧ flagBit0 flags = true) ∨
    (i = .overrideClaim p ∧ flagBit1 flags = true)

/-- The command that takes a RELEASE head with this flags field. -/
def releaseRow (p : Path) (flags : Byte) : Instr :=
  if flagBit0 flags then .releaseHandover p else .release p

/-- The command that takes an INSPECT head with this mode. -/
def inspectRow (p : Path) (mode : Byte) : Instr :=
  if mode = 0#8 then .inspectSet p else if mode = 1#8 then .inspectNext p else .inspectBadMode p

/-- The command that takes a CLEAR head with this target. -/
def clearRow (p : Path) (target : Byte) : Instr :=
  if target = 0#8 then .clearFaultFlags p else if target = 1#8 then .clearOrphanList p else .clearBadTarget p

/-- The characters of a frame from a server: the kind marked, then length, payload and check (R18). -/
def inboundCharacters (kind : Byte) (payload : List Byte) : List (Bool × Byte) :=
  let body := kind :: (beBytes 2 payload.length ++ payload)
  (true, kind) :: (beBytes 2 payload.length ++ payload ++ beBytes 2 (byteSum body)).map (fun b => (false, b))

/-- The characters of a list arrive on a path, one LINK_CHARACTER after another. -/
def feed (p : Path) : List (Bool × Byte) → State → Host.Outcome State Fault Refusal
  | [], s => .next s
  | c :: rest, s =>
    match exec (.linkCharacter p c.1 c.2) s with
    | .next t => feed p rest t
    | .fault f => .fault f
    | .refused r => .refused r

/-- A link error was taken on a path: the score is raised and the health evaluated where it changed, LINK_ERROR is set in
the path's own copy, and the partner's health is untouched (R5, R25, R33). -/
def LinkErrorTaken (p : Path) (s t : State) : Prop :=
  (t.hmon.get p).score = raiseScore (s.hmon.get p).score s.owc.policy.linkWeight.toNat ∧
    (t.hmon.get p).health =
      (if raiseScore (s.hmon.get p).score s.owc.policy.linkWeight.toNat = (s.hmon.get p).score then
        (s.hmon.get p).health
      else
        evaluate s.owc.policy (s.hmon.get p).health
          (raiseScore (s.hmon.get p).score s.owc.policy.linkWeight.toNat)) ∧
    (t.hmon.get p).window = (s.hmon.get p).window ∧ (t.hmon.get p).pulseCounted = (s.hmon.get p).pulseCounted ∧
    t.hmon.get p.other = s.hmon.get p.other ∧ hasFlag (t.fnu.flags.get p) .linkError = true ∧ SameBlock s t

/-- What a commit, a load or an entry into FROZEN leaves on the paths (R58): an OWNERSHIP notice on each UP path, with the
owner, epoch and commit count given and the role that R42 gives the path under that owner and that policy. -/
def Notified (owner : Option Path) (epoch : Word) (count : CommitCount) (r : PolicyRecord) (s t : State) : Prop :=
  ∀ p, s.linkUp p = true →
    Carries (t.pif.get p)
      (.ownershipNotice epoch owner
        (if s.role p = .fenced then .fenced else if owner = some p then .owner else if shareReads r then .sharer else .standby)
        count)

/-- What an entry into FROZEN sends (R63): the notices, and every waiting reply, COMMIT_FAILED for the commit in flight and
FROZEN for every other. A commit whose first write still waits for READY counts as in flight, the model's choice,
notes/assumptions/34.md. -/
def FrozenAnswered (s t : State) : Prop :=
  Notified none s.owc.epoch s.owc.commitCount s.owc.policy s t ∧ t.owc.owedReplies = [] ∧
    ∀ r ∈ s.owc.owedReplies, s.linkUp r.path = true →
      Carries (t.pif.get r.path)
        (.reply r.tag
          (if s.owc.contents.isSome = true ∧ s.owc.purpose = some r.purpose then .commitFailed else .frozen)
          0#16 s.owc.epoch)

/-- What fencing makes of an entry of the fenced path (R76 to R78). An acknowledged write continues as it is. Every other has
an outcome: NOT_STARTED with nothing outstanding and no block issued, else TORN for a write and READ_CUT for a read, and
NOT_STARTED for a FLUSH, which an issued one holds until its completion, the model's choice, notes/assumptions/46.md. With
segments outstanding it stays in ENDING with that outcome, issues nothing, and a write's r is i; with none its orphan record
is added, and it is answered ORPHANED on an UP path. Its pages not at the drive are freed. -/
def EntryFenced (e : Entry) (s t : State) : Prop :=
  let given : Outcome :=
    match e.op with
    | .flush => .notStarted
    | .write => if e.outstanding = [] ∧ e.issued = 0 then .notStarted else .torn
    | .read => if e.outstanding = [] ∧ e.issued = 0 then .notStarted else .readCut
  let done := match e.op with | .write => e.committed | .read => e.delivered | .flush => 0
  let full : Bool := match e.op with | .write => e.committed == e.count | .read => false | .flush => e.flushDone
  let record : OrphanRecord :=
    { origin := e.origin, tag := e.tag, op := e.op, start := e.start, count := e.count
      done := if e.op = .flush ∧ e.flushDone = true then 1 else done, epoch := e.epoch
      outcome := if full then .completeUnreported else given }
  (e.op = .write → e.acked = true → e.phase ≠ .ending →
    ∃ x, t.entry? e.slot = some x ∧ x.acked = true ∧ x.staged = e.staged ∧ x.committed = e.committed ∧
      x.fencedOutcome = e.fencedOutcome) ∧
    (¬(e.op = .write ∧ e.acked = true) →
      (e.outstanding ≠ [] →
        ∃ x, t.entry? e.slot = some x ∧ x.phase = .ending ∧ x.fencedOutcome = some given ∧ x.returned = [] ∧
          x.readGrant = none ∧ x.outstanding = e.outstanding ∧ x.committed = e.committed ∧ x.delivered = e.delivered ∧
          (e.op = .write → x.staged = e.issued)) ∧
        (e.outstanding = [] →
          record ∈ t.owc.orphans ∧
            (s.linkUp e.origin = true →
              Carries (t.pif.get e.origin) (.reply e.tag .orphaned (BitVec.ofNat 16 done) s.owc.epoch))) ∧
        ∀ r ∈ t.stb.pages, r.slot = some e.slot →
          r.state ≠ .staged ∧ r.state ≠ .granted ∧ (e.op = .read → r.state ≠ .fetched))

/-- A path was fenced for a drain in stage 2 (R75, R80): its role, its emptied receive queue with every COMMAND in it answered
FENCED, the record of the drain, each of its entries treated by its class, but for one whose final reply waits, and of its
entries only acknowledged writes and entries with a fenced outcome left. -/
def FencedDrain (drained : Path) (cause : DrainCause) (s t : State) : Prop :=
  t.role drained = .fenced ∧ (t.pif.get drained).rxq = [] ∧ t.owc.owner = none ∧
    (t.owc.state = .draining ∨ t.owc.state = .committing) ∧ t.owc.drainStage = some .fenced ∧
    t.owc.drainCause = some cause ∧ t.owc.drainedPath = some drained ∧ t.owc.graceTimer = none ∧
    (t.owc.state = .draining →
      t.owc.drainTimer = some s.owc.policy.drainMs.toNat ∧ 0 < t.entryCount drained) ∧
    (TableInv s → ∀ e ∈ t.ift, e.origin = drained →
      (e.op = .write ∧ e.acked = true) ∨ e.fencedOutcome.isSome = true) ∧
    (s.linkUp drained = true → ∀ tag epoch op flags start count,
      .command tag epoch op flags start count ∈ (s.pif.get drained).rxq →
        Carries (t.pif.get drained) (.reply tag .fenced 0#16 s.owc.epoch)) ∧
    (TableInv s → ∀ e ∈ s.ift, e.origin = drained → e.reported = false →
      (∀ w ∈ (s.pif.get drained).waiting, w.producer ≠ .iftFinal e.slot) → EntryFenced e s t) ∧
    SameBlock s t ∧ t.owc.history = s.owc.history ∧ t.hmon = s.hmon

/-- The segment an entry has to issue (R118 to R120): of a RUNNING entry, the first of its returned ranges, which stand in
offset order (R115), whole; where it has none, the run at offset frontier, for a write of min(16, count − frontier) blocks
once every one of them is staged, and for a read of as many blocks as its grant holds. A FLUSH that is not outstanding has
one segment with no blocks. -/
def SegmentDue (e : Entry) (run : Run) : Prop :=
  e.phase = .running ∧
    match e.op with
    | .flush => e.outstanding = [] ∧ run = { offset := 0, length := 0 }
    | .write =>
      e.returned.head? = some run ∨
        (e.returned = [] ∧ e.frontier < e.count ∧
          run = { offset := e.frontier, length := min 16 (e.count - e.frontier) } ∧ run.length ≤ e.staged - e.frontier)
    | .read =>
      e.returned.head? = some run ∨
        (e.returned = [] ∧ e.readGrant = some run.length ∧ run.offset = e.frontier)

/-- A read that asks for pages: RUNNING, with no returned range and no grant, its frontier below count (R119, R145). -/
def AsksPages (e : Entry) : Prop :=
  e.op = .read ∧ e.phase = .running ∧ e.returned = [] ∧ e.frontier < e.count ∧ e.readGrant = none

/-- The returned ranges of an entry stand in offset order (R115). -/
def RangesOrdered (e : Entry) : Prop :=
  e.returned.Pairwise (fun x y => x.offset ≤ y.offset)

/-- A drive reset has begun (R170): the request sent, every slot freed with its timer, the reset timer started,
DRIVE_RESET set, nothing of any entry outstanding. -/
def ResetBegun (s t : State) : Prop :=
  t.dpt.state = .resetting ∧ t.dpt.busy = [] ∧ t.dpt.resetTimer = some Config.resetTimeoutMs ∧
    t.dpt.requests = s.dpt.requests ++ [.reset] ∧ t.dpt.identity = s.dpt.identity ∧
    t.dpt.referenceMark = s.dpt.referenceMark ∧ t.dpt.slotCount = s.dpt.slotCount ∧ FlagInBoth .driveReset t ∧
    (TableInv s → ∀ e ∈ t.ift, e.outstanding = []) ∧ t.owc.epoch = s.owc.epoch ∧
    t.owc.commitCount = s.owc.commitCount

/-- An orphan record was added: it is the newest of at most 32, an oldest one beyond them is dropped and counted, the drain's
counter rises, and ORPHANS is set in both copies (R90). -/
def OrphanAdded (r : OrphanRecord) (s t : State) : Prop :=
  (s.owc.orphans.length < 32 → t.owc.orphans = s.owc.orphans ++ [r] ∧ t.owc.dropped = s.owc.dropped) ∧
    (32 ≤ s.owc.orphans.length →
      t.owc.orphans = s.owc.orphans.drop 1 ++ [r] ∧ t.owc.dropped = min (s.owc.dropped + 1) 255) ∧
    t.owc.orphansAdded = s.owc.orphansAdded.map (fun n => min (n + 1) 255) ∧ FlagInBoth .orphans t

/-- The entry in a slot was removed: the slot is free and in no blocked-by set, no page belongs to it, and an entry that it
alone blocked is RUNNING (R129). -/
def EntryRemoved (slot : Nat) (s t : State) : Prop :=
  t.entry? slot = none ∧ (∀ x ∈ t.ift, slot ∉ x.blockedBy) ∧ (∀ r ∈ t.stb.pages, r.slot ≠ some slot) ∧
    ∀ x ∈ s.ift, x.slot ≠ slot → x.phase = .blocked → x.blockedBy = [slot] →
      ∃ y, t.entry? x.slot = some y ∧ y.phase = .running

/-- The bytes are the fields of a record, in order: each given by its size and the number it holds, big-endian, with
nothing after the last (R185). -/
def LaidOut : List Byte → List (Nat × Nat) → Prop
  | bytes, [] => bytes = []
  | bytes, (size, value) :: rest =>
    size ≤ bytes.length ∧ fieldAt bytes 0 size = value % 256 ^ size ∧ LaidOut (bytes.drop size) rest

/-- A field of one byte that the part may hold as absent, sent as FFh (R185). -/
def optField (value : Option Nat) : Nat × Nat :=
  (1, value.getD 0xFF)

/-- The drive has been given up (R174): its state and cause, every slot freed, the timers stopped, the request discarded,
DRIVE_FAILED set, the record FROZEN with cause DRIVE, with the notices and replies of an entry into FROZEN where it was not
FROZEN already, every entry left holding an end and nothing outstanding. -/
def DriveGivenUp (state : DriveState) (cause : DriveCause) (s t : State) : Prop :=
  t.dpt.state = state ∧ t.dpt.cause = cause ∧ t.dpt.busy = [] ∧ t.dpt.request = none ∧ t.dpt.resetTimer = none ∧
    t.dpt.identity = s.dpt.identity ∧ t.dpt.slotCount = s.dpt.slotCount ∧ t.dpt.requests = s.dpt.requests ∧
    FlagInBoth .driveFailed t ∧ t.owc.state = .frozen ∧ t.owc.frozenCause = some .drive ∧
    (s.owc.state ≠ .frozen → FrozenAnswered s t) ∧
    (TableInv s → ∀ e ∈ t.ift, e.outstanding = [] ∧ e.endStatus.isSome = true) ∧ SameBlock s t ∧ t.hmon = s.hmon

/-- A value brought into a range: the lowest value where it lies below, the highest where it lies above (R52). -/
def Clamped (lo hi x y : Nat) : Prop :=
  (x < lo → y = lo) ∧ (lo ≤ x → x ≤ hi → y = x) ∧ (hi < x → y = hi)

end Sys2Proof.Machine
end

