-- ==== Sys2Proof/Certificates/Slice0/Obligations.lean ====
section
/-! DEFINITION. The statements for the provers: the machine as a whole, its invariants, its encodings, and what each
command does. -/

open Sys2Proof Sys2Proof.Machine

/-! ## The machine -/

/-- A step runs the command at the front of the queue with the queue's rest. -/
def Obligations.StepRunsFrontCommand : Prop :=
  ∀ (s : State) (c : Instr) (rest : List Instr), s.pending = c :: rest → step s = exec c (s.withPending rest)

/-- Every command answers a next state, and leaves the queue as it is; none stops with a fault or a refusal. The part
idles on an empty queue, which is the model's choice, notes/assumptions/1.md. -/
def Obligations.EveryStepAnswersNext : Prop :=
  (∀ (c : Instr) (s : State), ∃ t, exec c s = .next t ∧ t.pending = s.pending) ∧
    ∀ s : State, s.pending = [] → step s = .next s

/-- The state after reset has every relation the invariants below keep. -/
def Obligations.ResetStateSound : Prop :=
  memoryWf State.reset.mem = true ∧ HealthInv State.reset ∧ OwnershipInv State.reset ∧ PagesInv State.reset ∧
    QueuesInv State.reset ∧ RecordsInv State.reset ∧ DriveInv State.reset ∧ TableInv State.reset ∧ ReportsInv State.reset

/-- Power-on and pin reset. With DRV_PRESENT high: every block at its reset values, the IDENTIFY issued (R17, R38, R67,
R93, R136, R154, R157, R194). With it low: ABSENT, FROZEN with cause DRIVE, DRIVE_FAILED and FROZEN set in both copies,
and no frame sent (R157, R59, R63, R194). Two clauses are the model's choice: that no cell of the staging buffer is listed
afterwards, where R154 leaves the contents of the pages undefined (notes/assumptions/3.md), and that the model's own records
of what was sent go on (notes/assumptions/5.md). -/
def Obligations.PowerUpAndPinReset : Prop :=
  ∀ s : State,
    let links : Both Pif := { a := { Pif.reset with sent := s.pif.a.sent }, b := { Pif.reset with sent := s.pif.b.sent } }
    let up (cause : ResetCause) : State :=
      { State.reset with
        pif := links
        dpt := { Dpt.reset with requests := s.dpt.requests ++ [.identify] }
        fnu := { Fnu.reset with resetCause := cause }
        pending := s.pending }
    let without (cause : ResetCause) : State :=
      { State.reset with
        pif := links
        owc := { Owc.reset with state := .frozen, frozenCause := some .drive }
        dpt := { Dpt.reset with state := .absent, busy := [], present := false, requests := s.dpt.requests }
        fnu := { Fnu.reset with resetCause := cause, flags := { a := 0x028#9, b := 0x028#9 } }
        pending := s.pending }
    exec (.powerOnReset true) s = .next (up .power) ∧ exec (.powerOnReset false) s = .next (without .power) ∧
      (s.dpt.present = true → exec .pinReset s = .next (up .pin)) ∧
      (s.dpt.present = false → exec .pinReset s = .next (without .pin))

/-! ## Invariants -/

/-- The relations of R27 hold after reset, and every step keeps them. -/
def Obligations.HealthRelationsAlways : Prop :=
  HealthInv State.reset ∧ ∀ s t : State, HealthInv s → step s = .next t → HealthInv t

/-- Every step keeps the ownership relations, and they give R41's: an owner is named exactly in OWNED and GRACE, and the
path it names is the only one whose role is OWNER; RELEASING is a role of DRAINING alone, and SHARER and STANDBY follow
share_reads (R41, R42). -/
def Obligations.StepKeepsOwnership : Prop :=
  (∀ s t : State, OwnershipInv s → step s = .next t → OwnershipInv t) ∧
    ∀ s : State, OwnershipInv s →
      (s.owc.owner.isSome = true ↔ s.owc.state = .owned ∨ s.owc.state = .grace) ∧
        (∀ p, s.role p = .owner ↔ s.owc.owner = some p) ∧
        (∀ p, s.role p = .releasing → s.owc.state = .draining) ∧
        (∀ p, s.role p = .sharer → shareReads s.owc.policy = true) ∧
        (∀ p, s.role p = .standby → shareReads s.owc.policy = false)

/-- Every step keeps the canonical form of the staging buffer's cells, and the allocated pages numbered 0 to 254, each at
most once, with the entries they belong to in the table, so that the occupancies and the number of free pages together are
255 (R137, R138). -/
def Obligations.StepKeepsBuffer : Prop :=
  (∀ s t : State, memoryWf s.mem = true → step s = .next t → memoryWf t.mem = true) ∧
    (∀ s t : State, PagesInv s → step s = .next t → PagesInv t) ∧
    ∀ s : State, PagesInv s → s.occupancy .a + s.occupancy .b + s.freePages.length = Config.pathPages

/-- Every step keeps the limits of the queues and of the waiting frames (R10, R12, R97, R180), and of the history, the
orphan list and the counters (R55, R66, R90, R158). -/
def Obligations.StepKeepsLimits : Prop :=
  (∀ s t : State, QueuesInv s → step s = .next t → QueuesInv t) ∧
    ∀ s t : State, RecordsInv s → step s = .next t → RecordsInv t

/-- Every step keeps the drive's slots as R161 lays them out, the In-Flight Table in order of age with distinct slots (R93,
R104), and with it that every entry in ENDING holds an end status and no report is due that has not been made (R126, R128,
R129; made at once by notes/assumptions/4.md). -/
def Obligations.StepKeepsSlots : Prop :=
  (∀ s t : State, DriveInv s → step s = .next t → DriveInv t) ∧
    (∀ s t : State, TableInv s → step s = .next t → TableInv t) ∧
    ∀ s t : State, ReportsInv s → step s = .next t → ReportsInv t

/-- A FENCED path stays FENCED through every command but its own REJOIN, a power-on and a pin reset (R42). -/
def Obligations.FencedUntilRejoin : Prop :=
  ∀ (c : Instr) (s t : State) (p : Path), s.role p = .fenced → exec c s = .next t → c ≠ .rejoin p → c ≠ .pinReset →
    (∀ present, c ≠ .powerOnReset present) → t.role p = .fenced

/-- The epoch, the commit count and the policy in force change only where a completion record is taken, and at power-on
and pin reset (R43, R54, R61, R65). -/
def Obligations.BlockFieldsChangeAtCompletions : Prop :=
  ∀ (c : Instr) (s t : State), exec c s = .next t → (∀ present, c ≠ .powerOnReset present) → c ≠ .pinReset →
    (∀ slot status done blocks, c ≠ .pathSlotCompletion slot status done blocks) →
    (∀ status done block, c ≠ .reservedSlotCompletion status done block) →
    (∀ status done capacity blockSize depth, c ≠ .identifyCompletion status done capacity blockSize depth) →
    SameBlock s t

/-! ## Encodings -/

/-- A policy record is 28 bytes long and reads back as it was written, and the block a commit writes is judged valid by the
load, with the contents that were written (R23, R24, R53, R61). -/
def Obligations.OwnershipBlockRoundTrip : Prop :=
  (∀ r : PolicyRecord, (encodePolicy r).length = 28 ∧ decodePolicy (encodePolicy r) = r) ∧
    ∀ (c : Contents) (m : Memory),
      judgeBlock (fillOwnershipPage c m) = .valid (BitVec.ofNat 8 (pathCode c.owner)) c.epoch c.count c.policy

/-- A frame that a server sends reaches its route whole: its characters, taken one by one by an assembler in IDLE, route
the frame that its kind and payload spell, and leave the assembler in IDLE (R1 to R3, R18, R19). -/
def Obligations.FrameCharactersReachRoute : Prop :=
  ∀ (p : Path) (s : State) (kind : Byte) (payload : List Byte) (frame : InFrame),
    s.linkUp p = true → (s.pif.get p).assembler = .idle → decodeFrame kind payload = some frame →
    feed p (inboundCharacters kind payload) s = .next (routeFrame p frame (s.onPif p Pif.clearAssembler))

/-! ## Shared rules -/

/-- The evaluation of health by R26's table, under ordered thresholds, and the arithmetic of R25. -/
def Obligations.HealthEvaluationTable : Prop :=
  (∀ (r : PolicyRecord) (score : Nat), thresholdsOrdered r = true →
    (r.lostAt.toNat ≤ score → evaluate r .healthy score = .lost) ∧
      (r.doubtHi.toNat ≤ score → score < r.lostAt.toNat → evaluate r .healthy score = .doubtful) ∧
      (score < r.doubtHi.toNat → evaluate r .healthy score = .healthy) ∧
      (r.lostAt.toNat ≤ score → evaluate r .doubtful score = .lost) ∧
      (score ≤ r.doubtLo.toNat → evaluate r .doubtful score = .healthy) ∧
      (r.doubtLo.toNat < score → score < r.lostAt.toNat → evaluate r .doubtful score = .doubtful) ∧
      (score ≤ r.doubtLo.toNat → evaluate r .lost score = .healthy) ∧
      (r.doubtLo.toNat < score → evaluate r .lost score = .lost)) ∧
    ∀ score amount : Nat,
      (score + amount ≤ 255 → raiseScore score amount = score + amount) ∧
        (255 < score + amount → raiseScore score amount = 255)

/-- Clamping and validation of a policy record (R52), and that the default record passes them. -/
def Obligations.PolicyClampAndValidation : Prop :=
  (∀ (r : PolicyRecord) (capacity : Nat),
    let q := clampPolicy r
    (Clamped 10 1000 r.pulsePeriodMs.toNat q.pulsePeriodMs.toNat ∧ Clamped 1 255 r.pulseCredit.toNat q.pulseCredit.toNat ∧
        Clamped 1 255 r.missWeight.toNat q.missWeight.toNat ∧ Clamped 0 60000 r.graceMs.toNat q.graceMs.toNat ∧
        Clamped 100 60000 r.drainMs.toNat q.drainMs.toNat ∧
        Clamped 1000 60000 r.driveTimeoutMs.toNat q.driveTimeoutMs.toNat ∧ Clamped 16 239 r.quotaA.toNat q.quotaA.toNat ∧
        Clamped 16 239 r.quotaB.toNat q.quotaB.toNat ∧ Clamped 1 223 r.holdMargin.toNat q.holdMargin.toNat ∧
        Clamped 1 32 r.maxEntries.toNat q.maxEntries.toNat) ∧
      (q.linkWeight = r.linkWeight ∧ q.stallWeight = r.stallWeight ∧ q.doubtLo = r.doubtLo ∧ q.doubtHi = r.doubtHi ∧
        q.lostAt = r.lostAt ∧ q.commonStart = r.commonStart ∧ q.commonCount = r.commonCount) ∧
      (autoTakeover q = autoTakeover r ∧ allowForce q = allowForce r ∧ shareReads q = shareReads r ∧
        allowPosted q = allowPosted r ∧ q.flags.toNat < 16) ∧
      (acceptPolicy capacity r = some q ↔
        r.doubtLo.toNat < r.doubtHi.toNat ∧ r.doubtHi.toNat < r.lostAt.toNat ∧
          q.quotaA.toNat + q.quotaB.toNat ≤ 255 ∧
          (0 < r.commonCount.toNat → r.commonStart.toNat + r.commonCount.toNat ≤ capacity)) ∧
      (acceptPolicy capacity r = some q ∨ acceptPolicy capacity r = none)) ∧
    ∀ capacity, acceptPolicy capacity defaultPolicy = some defaultPolicy

/-- The HOLD and GO thresholds of each path (R149), and the tests at them: on an UP path, HOLD is asked for while the
part-hold flag is clear and the occupancy is at or above hold_hi, and GO while it is set and the occupancy is at or below
hold_lo; the flag changes with the request, the frame takes the flow position in place of one not yet begun, and nothing else
changes (R16, R150, R151). Of a HOLD not yet begun and the GO that replaces it the server sees neither (R151): that the GO is
then taken out of the position at that event, where R16 and R13 alone would send it, and that it stays where the last flow
frame begun is a HOLD, is the model's choice, notes/assumptions/38.md. GO is tested after an event that lowered the
occupancy. -/
def Obligations.StagingThresholds : Prop :=
  (∀ (r : PolicyRecord) (p : Path), 16 ≤ quotaOf r p → 1 ≤ r.holdMargin.toNat →
    effectiveMargin r p = min r.holdMargin.toNat (quotaOf r p - 1) ∧
      holdHi r p + effectiveMargin r p = quotaOf r p ∧ 1 ≤ holdHi r p ∧ holdHi r p ≤ quotaOf r p - 1 ∧
      holdLo r p = holdHi r p / 2 ∧
      (effectiveMargin r p = quotaOf r p - 1 → holdHi r p = 1 ∧ holdLo r p = 0)) ∧
    ∀ (p : Path) (s before : State),
      let f := s.pif.get p
      let asks (t : State) (frame : OutFrame) (flag : Bool) : Prop :=
        t = { s with pif := s.pif.set p (t.pif.get p) } ∧ FlowPlaced (t.pif.get p) frame ∧
          t.pif.get p = { f with
            partHold := flag, flowWaiting := (t.pif.get p).flowWaiting, heldServer := (t.pif.get p).heldServer
            sending := (t.pif.get p).sending } ∧
          (f.sending.isSome = true →
            (t.pif.get p).flowWaiting = some frame ∧ (t.pif.get p).sending = f.sending ∧
              (t.pif.get p).heldServer = f.heldServer)
      (f.link = .up → f.partHold = false → holdHi s.owc.policy p ≤ s.occupancy p → asks (testHold p s) .hold true) ∧
        (f.link = .down ∨ f.partHold = true ∨ s.occupancy p < holdHi s.owc.policy p → testHold p s = s) ∧
        (f.link = .up → f.partHold = true → s.occupancy p ≤ holdLo s.owc.policy p →
          f.flowWaiting ≠ some .hold ∨ f.heldServer = true ∨ f.sending = none → asks (testGo p s) .go false) ∧
        (f.link = .up → f.partHold = true → s.occupancy p ≤ holdLo s.owc.policy p →
          f.flowWaiting = some .hold → f.heldServer = false → f.sending.isSome = true →
          testGo p s = s.onPif p (fun f => { f with partHold := false, flowWaiting := none })) ∧
        (f.link = .down ∨ f.partHold = false ∨ holdLo s.owc.policy p < s.occupancy p → testGo p s = s) ∧
        (s.occupancy p < before.occupancy p → testGoAfter before p s = testGo p s) ∧
        (before.occupancy p ≤ s.occupancy p → testGoAfter before p s = s)

/-- Raising a flag in one copy: it is set there and in no other copy; a FLAG notice is offered where it was clear and the
mask has its bit, and none otherwise (R179). -/
def Obligations.FlagRaisedInOneCopy : Prop :=
  ∀ (p : Path) (flag : Flag) (s : State),
    (hasFlag (s.fnu.flags.get p) flag = true → raiseIn p flag s = s) ∧
      (hasFlag (s.fnu.flags.get p) flag = false →
        ∃ t, raiseIn p flag s = t ∧ hasFlag (t.fnu.flags.get p) flag = true ∧
          (∀ other, other ≠ flag → hasFlag (t.fnu.flags.get p) other = hasFlag (s.fnu.flags.get p) other) ∧
          t.fnu.flags.get p.other = s.fnu.flags.get p.other ∧ t.fnu.masks = s.fnu.masks ∧
          t.pif.get p.other = s.pif.get p.other ∧
          (hasFlag (s.fnu.masks.get p) flag = false → t.pif = s.pif) ∧
          (hasFlag (s.fnu.masks.get p) flag = true → s.linkUp p = true →
            Carries (t.pif.get p) (.flagNotice flag) ∨
              ∃ w ∈ (s.pif.get p).waiting, w.producer = .fnuFlag flag) ∧
          (t.hmon = s.hmon ∧ t.owc = s.owc ∧ t.adm = s.adm ∧ t.ift = s.ift ∧ t.stb = s.stb ∧ t.mem = s.mem ∧
            t.dpt = s.dpt ∧ t.pending = s.pending))

/-! ## Path links -/

/-- LINK_CHARACTER in the course of a frame: what the assembler becomes, with the gap timer started, and nothing else
changed (R1, R2, R4). A character on a DOWN link, where none arrives (R6), changes nothing: the model's choice,
notes/assumptions/7.md. -/
def Obligations.CharactersJoinFrame : Prop :=
  ∀ (p : Path) (byte : Byte) (s : State),
    let becomes (marked : Bool) (a : Assembler) : Prop :=
      exec (.linkCharacter p marked byte) s =
        .next (s.onPif p (fun f => { f with assembler := a, gapTimer := some 64 }))
    (s.linkUp p = true →
      ((s.pif.get p).assembler = .idle →
        becomes true (.length byte none (byte.setWidth 16)) ∧ exec (.linkCharacter p false byte) s = .next s) ∧
      (∀ kind sum, (s.pif.get p).assembler = .length kind none sum →
        becomes false (.length kind (some byte) (sum + byte.setWidth 16))) ∧
      (∀ kind high sum, (s.pif.get p).assembler = .length kind (some high) sum →
        high.toNat * 256 + byte.toNat ≤ 4100 →
        becomes false (.body kind (high.toNat * 256 + byte.toNat) [] (sum + byte.setWidth 16))) ∧
      (∀ kind n bytes sum, (s.pif.get p).assembler = .body kind n bytes sum →
        (bytes.length < n → becomes false (.body kind n (bytes ++ [byte]) (sum + byte.setWidth 16))) ∧
          (bytes.length = n → becomes false (.body kind n (bytes ++ [byte]) sum)))) ∧
      (s.linkUp p = false → ∀ marked, exec (.linkCharacter p marked byte) s = .next s)

/-- The five events that discard a frame in assembly: each is one link error, and leaves the assembler in IDLE, or for
TRUNCATION with the frame that the marked character begins. Where the path's health stays as it was, nothing changes but
the assembler, the score and the flag with its notice: shown for GAP_TIMEOUT (R1 to R5, R33). -/
def Obligations.LinkErrorsDiscardFrame : Prop :=
  ∀ (p : Path) (byte : Byte) (s : State), s.linkUp p = true →
    let discards (c : Instr) : Prop :=
      ∃ t, exec c s = .next t ∧ (t.pif.get p).assembler = .idle ∧ (t.pif.get p).gapTimer = none ∧ LinkErrorTaken p s t
    ((s.pif.get p).assembler ≠ .idle →
      ∃ t, exec (.truncation p byte) s = .next t ∧
        (t.pif.get p).assembler = .length byte none (byte.setWidth 16) ∧ (t.pif.get p).gapTimer = some 64 ∧
        LinkErrorTaken p s t) ∧
      ((s.pif.get p).assembler ≠ .idle → (s.pif.get p).gapTimer.isSome = true → discards (.gapTimeout p)) ∧
      (∀ kind high sum, (s.pif.get p).assembler = .length kind (some high) sum →
        4100 < high.toNat * 256 + byte.toNat → discards (.overLength p byte)) ∧
      (∀ kind n bytes sum, (s.pif.get p).assembler = .body kind n bytes sum → bytes.length = n + 1 →
        (beNat ((bytes ++ [byte]).drop n) ≠ sum.toNat → discards (.checkFailure p byte)) ∧
          (beNat ((bytes ++ [byte]).drop n) = sum.toNat → decodeFrame kind (bytes.take n) = none →
            discards (.unknownKind p byte))) ∧
      ((s.pif.get p).assembler ≠ .idle → (s.pif.get p).gapTimer.isSome = true →
        evaluate s.owc.policy (s.hmon.get p).health
          (raiseScore (s.hmon.get p).score s.owc.policy.linkWeight.toNat) = (s.hmon.get p).health →
        exec (.gapTimeout p) s =
          .next (raiseIn p .linkError
            ((s.onPif p (fun f => { f with assembler := .idle, gapTimer := none })).onHmon p
              (fun h => { h with score := raiseScore h.score s.owc.policy.linkWeight.toNat }))))

/-- CARRIER_LOSS on an UP link: the interface at its values for a DOWN link, score 255 and LOST, window stopped, the
partner's health untouched; no entry of an unfenced path is left without its cut mark (R6, R34, R133). On a DOWN link, which
has no carrier to lose, the row changes nothing: the model's choice, notes/assumptions/7.md. -/
def Obligations.CarrierLossTaken : Prop :=
  ∀ (p : Path) (s : State),
    (s.linkUp p = true →
      ∃ t, exec (.carrierLoss p) s = .next t ∧ t.pif.get p = { Pif.reset with sent := (s.pif.get p).sent } ∧
        t.hmon.get p = { score := 255, health := .lost, window := none, pulseCounted := false, heldThroughout := false } ∧
        t.hmon.get p.other = s.hmon.get p.other ∧
        ((s.hmon.get p).health ≠ .lost → hasFlag (t.fnu.flags.get p.other) .partnerLost = true) ∧
        (TableInv s → s.role p ≠ .fenced → t.role p ≠ .fenced →
          ∀ e ∈ t.ift, e.origin = p → e.cut = true ∧ (e.op = .read → e.endStatus.isSome = true)) ∧
        SameBlock s t ∧ t.adm = s.adm) ∧
      (s.linkUp p = false → exec (.carrierLoss p) s = .next s)

/-- CARRIER_RETURN on a DOWN link: the interface starts empty, score 192, the window started, and health LOST unless
doubt_lo is 192 or more; nothing else changes where it stays LOST (R7, R35). Two points are the model's choice: that R35 is
followed where R70 says that the owner in GRACE stays LOST, notes/assumptions/52.md; and that on an UP link, which has its
carrier, the row changes nothing, notes/assumptions/7.md. -/
def Obligations.CarrierReturnTaken : Prop :=
  ∀ (p : Path) (s : State),
    (s.linkUp p = false →
      ∃ t, exec (.carrierReturn p) s = .next t ∧
        t.pif = s.pif.set p { Pif.reset with link := .up, sent := (s.pif.get p).sent } ∧
        t.hmon = s.hmon.set p
          { score := 192, health := if 192 ≤ s.owc.policy.doubtLo.toNat then .healthy else .lost,
            window := some s.owc.policy.pulsePeriodMs.toNat, pulseCounted := false, heldThroughout := false } ∧
        (¬(192 ≤ s.owc.policy.doubtLo.toNat ∧ s.owc.state = .grace ∧ s.owc.owner = some p) → t.owc = s.owc) ∧
        (192 ≤ s.owc.policy.doubtLo.toNat → s.owc.state = .grace → s.owc.owner = some p →
          t.owc.state = .owned ∧ t.owc.owner = some p ∧ t.owc.graceTimer = none ∧ SameBlock s t) ∧
        t.adm = s.adm ∧ t.ift = s.ift ∧ t.stb = s.stb ∧ t.mem = s.mem ∧ t.dpt = s.dpt ∧ t.fnu = s.fnu) ∧
      (s.linkUp p = true → exec (.carrierReturn p) s = .next s)

/-- PULSE: credited where the window has counted none, and in every case answered by an ECHO that carries the values held
after it. The ownership record changes only where the health of the owner in GRACE changes: GRACE then ends in OWNED with its
timer stopped, and nothing else of the record changes (R71). Nothing else changes (R8, R9, R29). That the ECHO of a pulse which ends
GRACE shows the record after that end is the model's choice, notes/assumptions/45.md. -/
def Obligations.PulseCreditedAndEchoed : Prop :=
  ∀ (p : Path) (epoch : Word) (sequence : Byte) (s : State), HealthInv s → s.linkUp p = true →
    let score :=
      if (s.hmon.get p).pulseCounted then (s.hmon.get p).score
      else (s.hmon.get p).score - s.owc.policy.pulseCredit.toNat
    ∃ t, exec (.pulse p epoch sequence) s = .next t ∧
      t.hmon = s.hmon.set p
        { s.hmon.get p with
          score := score, pulseCounted := true
          health := if score = (s.hmon.get p).score then (s.hmon.get p).health
            else evaluate s.owc.policy (s.hmon.get p).health score } ∧
      t.pif = s.pif.set p
        (Pif.placeEcho
          (.echo sequence t.owc.epoch t.owc.owner (t.role p) t.owc.state (t.hmon.get p).health
            (t.hmon.get p.other).health)
          { s.pif.get p with assembler := .idle, gapTimer := none }) ∧
      ((t.hmon.get p).health = (s.hmon.get p).health ∨ ¬(s.owc.state = .grace ∧ s.owc.owner = some p) →
        t.owc = s.owc) ∧
      ((t.hmon.get p).health ≠ (s.hmon.get p).health → s.owc.state = .grace → s.owc.owner = some p →
        t.owc = { s.owc with state := .owned, graceTimer := none, roles := t.owc.roles } ∧
          (OwnershipInv s → t.owc.roles = s.owc.roles)) ∧
      SameBlock s t ∧ t.adm = s.adm ∧ t.ift = s.ift ∧ t.stb = s.stb ∧ t.mem = s.mem ∧ t.dpt = s.dpt ∧ t.fnu = s.fnu

/-- HOLD and GO from the server set or clear the server-hold flag, the GO clears the held-throughout indicator with it and
lets a queued READ_DATA go, and nothing else changes (R15, R32). A command or control frame joins the receive queue at its
tail, or at a full queue is discarded and answered QUEUE_FULL where the transmit queue has room (R10). HOLD and GO on a DOWN
link change nothing: the model's choice, notes/assumptions/7.md. -/
def Obligations.ControlFramesTaken : Prop :=
  ∀ (p : Path) (s : State) (frame : QueuedFrame),
    (s.linkUp p = true →
      exec (.hold p) s =
          .next (s.onPif p (fun f => { f with serverHold := true, assembler := .idle, gapTimer := none })) ∧
        ((s.pif.get p).serverHold = false →
          exec (.go p) s = .next (s.onPif p (fun f => { f with assembler := .idle, gapTimer := none }))) ∧
        ((s.pif.get p).serverHold = true →
          exec (.go p) s =
            .next ((s.onPif p
              (fun f => Pif.chooseNext { f with serverHold := false, assembler := .idle, gapTimer := none })).onHmon p
                (fun h => { h with heldThroughout := false })))) ∧
      (s.linkUp p = false → exec (.hold p) s = .next s ∧ exec (.go p) s = .next s) ∧
      (s.linkUp p = true →
        ((s.pif.get p).rxq.length < 16 →
          exec (.receiveQueueArrival p frame) s =
            .next (s.onPif p (fun f => { f with rxq := f.rxq ++ [frame], assembler := .idle, gapTimer := none }))) ∧
          ((s.pif.get p).rxq.length = 16 → (s.pif.get p).transmitCount < 32 →
            exec (.receiveQueueArrival p frame) s =
              .next (s.onPif p (fun f =>
                Pif.enqueue { frame := .reply (frameTag frame) .queueFull 0#16 s.owc.epoch, tie := .plain }
                  { f with assembler := .idle, gapTimer := none }))) ∧
          ((s.pif.get p).rxq.length = 16 → (s.pif.get p).transmitCount = 32 →
            exec (.receiveQueueArrival p frame) s =
              .next (s.onPif p (fun f => { f with assembler := .idle, gapTimer := none }))))

/-- WRITE_DATA that passes R140 and R141 and is given a page: the block stands in the lowest-numbered free page and in no
other place, the page's record names the path, the entry and the offset, r rises by one, a posted write is acknowledged at
its last block, and HOLD is placed where the occupancy comes to hold_hi with the part-hold flag clear (R138, R142, R143,
R150). The page is STAGED, or AT_DRIVE where the block makes a segment that is issued at once (R147). -/
def Obligations.WriteDataStaged : Prop :=
  ∀ (p : Path) (tag offset : Word) (data : List Byte) (e : Entry) (s : State),
    TableInv s → memoryWf s.mem = true → s.linkUp p = true → s.role p ≠ .fenced → s.writeEntry? p tag = some e →
    e.acked = false → e.phase ≠ .ending → e.cut = false → offset.toNat = e.staged → e.staged < e.count →
    s.pageAllowed p = true → data.length = Config.blockBytes →
    ∃ t page, exec (.writeData p tag offset data) s = .next t ∧ s.freePages.head? = some page ∧
      readPage t.mem page = data ∧
      (∀ a, a < pageBase Config.ownershipPage → ¬(pageBase page ≤ a ∧ a < pageBase page + Config.blockBytes) →
        readByte t.mem a = readByte s.mem a) ∧
      (∃ r ∈ t.stb.pages, r.number = page ∧ r.path = p ∧ r.slot = some e.slot ∧ r.offset = e.staged ∧
        (r.state = .staged ∨ r.state = .atDrive)) ∧
      (∃ x, t.entry? e.slot = some x ∧ x.staged = e.staged + 1 ∧ x.tag = e.tag ∧ x.committed = e.committed ∧
        x.acked = (e.posted && decide (e.staged + 1 = e.count))) ∧
      (ReportsMade s → holdHi s.owc.policy p ≤ s.occupancy p + 1 →
        (t.pif.get p).partHold = true ∧ ((s.pif.get p).partHold = false → FlowPlaced (t.pif.get p) .hold)) ∧
      (e.posted = true → e.staged + 1 = e.count →
        Carries (t.pif.get p) (.reply e.tag .posted (BitVec.ofNat 16 e.count) s.owc.epoch)) ∧
      SameBlock s t ∧ t.hmon = s.hmon ∧ (t.pif.get p).rxq = (s.pif.get p).rxq

/-- WRITE_DATA that is not staged: dropped from a FENCED path and for an entry that takes no data; a link error where no
write of the path has its tag; otherwise an end is decided, BAD_DATA for a wrong offset and OVERRUN for want of a page: the
entry is in ENDING with that end, r set to i, until its outstanding segments are complete, and with none it is answered with
the end and leaves the table where the reply has room (R3, R126, R128, R140 to R142). On a DOWN link a frame that was complete
before carrier loss is judged in the same way (R33). -/
def Obligations.WriteDataTurnedAway : Prop :=
  ∀ (p : Path) (tag offset : Word) (data : List Byte) (s : State),
    let row := exec (.writeData p tag offset data) s
    let ends (e : Entry) (status : EndStatus) : Prop :=
      TableInv s → e.endStatus = none → e.fencedOutcome = none → e.reported = false →
        ∃ t, row = .next t ∧
          (e.outstanding ≠ [] → ∃ x, t.entry? e.slot = some x ∧ x.phase = .ending ∧ x.endStatus = some status ∧
            x.staged = e.issued ∧ x.returned = [] ∧ x.blockedBy = [] ∧ x.committed = e.committed) ∧
          (e.outstanding = [] →
            Carries (t.pif.get p) (.reply e.tag status.status (BitVec.ofNat 16 e.committed) s.owc.epoch) ∧
              (ReportsMade s → (s.pif.get p).hasRoom = true → EntryRemoved e.slot s t)) ∧
          SameBlock s t ∧ t.hmon = s.hmon ∧
          ∀ a, a < pageBase Config.ownershipPage → readByte t.mem a = readByte s.mem a
    (s.linkUp p = true →
      let idle := s.onPif p (fun f => { f with assembler := .idle, gapTimer := none })
      (s.role p = .fenced → row = .next idle) ∧
        (s.role p ≠ .fenced → s.writeEntry? p tag = none → ∃ t, row = .next t ∧ LinkErrorTaken p s t) ∧
        (∀ e, s.role p ≠ .fenced → s.writeEntry? p tag = some e →
          (e.acked = true ∨ e.phase = .ending ∨ e.cut = true → row = .next idle) ∧
            (e.acked = false → e.phase ≠ .ending → e.cut = false →
              (offset.toNat ≠ e.staged ∨ e.count ≤ offset.toNat →
                row = .next (conclude idle (decideEnd .badData e.slot idle)) ∧ ends e .badData) ∧
                (offset.toNat = e.staged → offset.toNat < e.count → s.pageAllowed p = false →
                  row = .next (conclude idle (decideEnd .overrun e.slot idle)) ∧ ends e .overrun)))) ∧
      (s.linkUp p = false →
        (s.role p = .fenced → row = .next s) ∧
          (s.role p ≠ .fenced → s.writeEntry? p tag = none →
            ∃ t, row = .next t ∧ LinkErrorTaken p s t ∧ (HealthInv s → t.hmon = s.hmon)) ∧
          (∀ e, s.role p ≠ .fenced → s.writeEntry? p tag = some e →
            e.acked = true ∨ e.phase = .ending ∨ e.cut = true → row = .next s))

/-! ## Admission -/

/-- ADM's arbiter takes the head of the path the pointer does not name where both are takeable, and the one takeable head
otherwise; a head taken leaves its queue and moves the pointer, and changes nothing else (R11, R96). A head is not takeable
in LOADING, for the owner in GRACE, while ADM holds a waiting frame for the path, while FNU decides a DEVICE_RESET, and for
a COMMAND that passes its checks without a slot, over max_entries or at the counter's end; and is takeable otherwise (R95).
A row whose head is not the one the arbiter chooses takes nothing, which is the model's choice, notes/assumptions/8.md: shown
for REJOIN. -/
def Obligations.ArbiterTakesHeads : Prop :=
  (∀ s : State,
      (s.takeable .a = true → s.takeable .b = true → s.chosenPath = some s.adm.pointer.other) ∧
        (∀ p : Path, s.takeable p = true → s.takeable p.other = false → s.chosenPath = some p) ∧
        (s.takeable .a = false → s.takeable .b = false → s.chosenPath = none) ∧
        (∀ p, removeHead p s =
          { s with
            pif := s.pif.set p { s.pif.get p with rxq := (s.pif.get p).rxq.tail }
            adm := { s.adm with pointer := p } }) ∧
        ∀ p, s.chosenPath ≠ some p → exec (.rejoin p) s = .next s) ∧
    ∀ (p : Path) (s : State) (head : QueuedFrame),
      (s.owc.state = .loading → headTakeable s p head = false) ∧
        (s.owc.state = .grace → s.owc.owner = some p → headTakeable s p head = false) ∧
        (s.admWaits p = true → headTakeable s p head = false) ∧
        (s.fnu.deciding.isSome = true → headTakeable s p head = false) ∧
        (∀ tag epoch op flags start count, head = .command tag epoch op flags start count →
          checkCommand s p { tag := tag, epoch := epoch, op := op, flags := flags, start := start, count := count } = none →
          s.freeEntrySlot = none ∨ s.owc.policy.maxEntries.toNat ≤ s.entryCount p ∨
            (2 ^ 48 - 1 ≤ s.adm.sequence ∧ s.ift ≠ []) →
          headTakeable s p head = false) ∧
        (s.owc.state ≠ .loading → ¬(s.owc.state = .grace ∧ s.owc.owner = some p) → s.admWaits p = false →
          s.fnu.deciding = none →
          ((∀ tag epoch op flags start count, head ≠ .command tag epoch op flags start count) ∨
            ∃ tag epoch op flags start count, head = .command tag epoch op flags start count ∧
              ((∃ status, checkCommand s p
                  { tag := tag, epoch := epoch, op := op, flags := flags, start := start, count := count } =
                  some status) ∨
                (s.freeEntrySlot.isSome = true ∧ s.entryCount p < s.owc.policy.maxEntries.toNat ∧
                  (s.adm.sequence < 2 ^ 48 - 1 ∨ s.ift = [])))) →
          headTakeable s p head = true)

/-- The checks on a COMMAND, in order: its fields, its tag and its range first (R98 checks 1 to 4, R99, R100), then FENCED,
its epoch, and the permission of R102's table (R98 checks 5 to 9). -/
def Obligations.CommandChecksInOrder : Prop :=
  (∀ (s : State) (p : Path) (c : CommandFields),
      (opOf c.op = none → checkCommand s p c = some .badOp) ∧
        ∀ op, opOf c.op = some op →
          ((∃ e ∈ s.ift, e.origin = p ∧ e.tag = c.tag) → checkCommand s p c = some .tagInUse) ∧
            ((∀ e ∈ s.ift, ¬(e.origin = p ∧ e.tag = c.tag)) →
              (op ≠ .flush → c.count.toNat = 0 ∨ 1024 < c.count.toNat → checkCommand s p c = some .badLength) ∧
                (op ≠ .flush → 1 ≤ c.count.toNat → c.count.toNat ≤ 1024 →
                  s.reportedCapacity < c.start.toNat + c.count.toNat → checkCommand s p c = some .outOfRange) ∧
                (op = .flush ∨
                    (1 ≤ c.count.toNat ∧ c.count.toNat ≤ 1024 ∧ c.start.toNat + c.count.toNat ≤ s.reportedCapacity) →
                  checkCommand s p c =
                    checkPermission s p c.epoch op
                      (op != .flush && isCommon s.owc.policy c.start.toNat c.count.toNat)))) ∧
    ∀ (s : State) (p : Path) (op : Op) (common : Bool),
      (s.role p = .fenced → ∀ epoch, checkPermission s p epoch op common = some .fenced) ∧
        (s.role p ≠ .fenced → (∀ epoch, epoch ≠ s.owc.epoch → checkPermission s p epoch op common = some .staleEpoch) ∧
          checkPermission s p s.owc.epoch .flush common = none ∧
          checkPermission s p s.owc.epoch .read true = none ∧ checkPermission s p s.owc.epoch .write true = none) ∧
        (s.role p = .owner → checkPermission s p s.owc.epoch .read false = none ∧
          (s.owc.state ≠ .frozen → checkPermission s p s.owc.epoch .write false = none)) ∧
        (s.role p = .sharer → checkPermission s p s.owc.epoch .read false = none) ∧
        (s.role p = .standby → checkPermission s p s.owc.epoch .read false = some .notOwner) ∧
        (s.role p = .releasing → shareReads s.owc.policy = true →
          checkPermission s p s.owc.epoch .read false = none) ∧
        (s.role p = .releasing → shareReads s.owc.policy = false →
          checkPermission s p s.owc.epoch .read false = some .notOwner) ∧
        (s.role p = .sharer ∨ s.role p = .standby ∨ s.role p = .releasing →
          checkPermission s p s.owc.epoch .write false = some .notOwner)

/-- A COMMAND that fails a check is answered with its status, done 0 and the current epoch, and changes nothing else: for
COMMAND_READ, COMMAND_WRITE, COMMAND_WRITE_POSTED, COMMAND_FLUSH and COMMAND_BAD_OP (R97, R98). -/
def Obligations.CommandRefused : Prop :=
  ∀ (p : Path) (s : State) (tag epoch : Word) (op flags : Byte) (start : Lba) (count : Word) (status : Status),
    TakesHead s p (.command tag epoch op flags start count) →
    checkCommand s p { tag := tag, epoch := epoch, op := op, flags := flags, start := start, count := count } =
      some status →
    exec (commandRow p op flags) s =
      .next ((removeHead p s).offer p .adm (.reply tag status 0#16 s.owc.epoch))

/-- A COMMAND that passes every check is accepted: its entry stands in the lowest-numbered free slot with the fields of
R104, a WRITE is asked for its data, nothing of it is issued (R113), and neither health nor the epoch, count and policy
change; with the drive given up it is answered DRIVE_FAILED: for COMMAND_READ, COMMAND_WRITE, COMMAND_WRITE_POSTED and
COMMAND_FLUSH (R93, R103 to R106). -/
def Obligations.CommandAccepted : Prop :=
  ∀ (p : Path) (s : State) (tag epoch : Word) (op flags : Byte) (start : Lba) (count : Word) (kind : Op) (slot : Nat),
    TableInv s → PagesInv s → s.linkUp p = true → TakesHead s p (.command tag epoch op flags start count) →
    checkCommand s p { tag := tag, epoch := epoch, op := op, flags := flags, start := start, count := count } = none →
    opOf op = some kind → s.freeEntrySlot = some slot →
    ∃ t, exec (commandRow p op flags) s = .next t ∧ t.adm = { pointer := p, sequence := s.nextAge + 1 } ∧
      (t.pif.get p).rxq = (s.pif.get p).rxq.tail ∧ (t.pif.get p.other).rxq = (s.pif.get p.other).rxq ∧
      SameBlock s t ∧ t.hmon = s.hmon ∧
      (s.dpt.state = .ready ∨ s.dpt.state = .identifying ∨ s.dpt.state = .resetting →
        (∃ e, t.entry? slot = some e ∧ e.origin = p ∧ e.tag = tag ∧ e.op = kind ∧ e.epoch = s.owc.epoch ∧
          e.start = (if kind = .flush then 0 else start.toNat) ∧ e.count = (if kind = .flush then 0 else count.toNat) ∧
          e.common = (kind != .flush && isCommon s.owc.policy start.toNat count.toNat) ∧
          e.posted = (kind == .write && flagBit0 flags && allowPosted s.owc.policy) ∧ e.acked = false ∧
          e.age = s.nextAge ∧ e.staged = 0 ∧ e.issued = 0 ∧ e.outstanding = [] ∧ e.frontier = 0 ∧
          e.committed = 0 ∧ e.fetched = 0 ∧ e.delivered = 0 ∧ e.reissue = 0 ∧
          e.endStatus = none) ∧
        (kind = .write → Carries (t.pif.get p) (.dataRequest tag count))) ∧
      (s.dpt.state = .failed ∨ s.dpt.state = .halted ∨ s.dpt.state = .absent →
        Carries (t.pif.get p) (.reply tag .driveFailed 0#16 s.owc.epoch) ∧
          (ReportsMade s → (s.pif.get p).hasRoom = true → t.entry? slot = none))

/-- The blocked-by set and phase of an entry at its acceptance: of a READ or WRITE (R107) and of a FLUSH (R108). With the
drive given up the entry begins in ENDING with end status DRIVE_FAILED and an empty set (R105). -/
def Obligations.BlockersAtAcceptance : Prop :=
  ∀ (s : State) (p : Path) (c : CommandFields) (op : Op) (slot : Nat),
    let e := newEntry s p c op slot
    (s.dpt.state = .ready ∨ s.dpt.state = .identifying ∨ s.dpt.state = .resetting →
      (op ≠ .flush → ∀ k, k ∈ e.blockedBy ↔
        ∃ y ∈ s.ift, y.slot = k ∧ y.op ≠ .flush ∧ c.start.toNat < y.start + y.count ∧
          y.start < c.start.toNat + c.count.toNat ∧ (op = .write ∨ y.op = .write)) ∧
        (op = .flush → ∀ k, k ∈ e.blockedBy ↔ ∃ y ∈ s.ift, y.slot = k ∧ y.origin = p ∧ y.op = .write) ∧
        (e.phase = .running ↔ e.blockedBy = []) ∧ (e.phase = .blocked ↔ e.blockedBy ≠ [])) ∧
      (s.dpt.state = .failed ∨ s.dpt.state = .halted ∨ s.dpt.state = .absent →
        e.phase = .ending ∧ e.endStatus = some .driveFailed ∧ e.blockedBy = [])

/-! ## Ownership requests -/

/-- A CLAIM accepted in UNOWNED, whatever its force and override flags: COMMITTING with the sender as successor, its
commit begun under the next epoch and count or waiting for the POLICY commit in flight, its reply owed, and no other unit
touched: for CLAIM, FORCED_CLAIM and OVERRIDE_CLAIM (R46, R53). -/
def Obligations.ClaimAcceptedUnowned : Prop :=
  ∀ (p : Path) (s : State) (tag flagsEpoch : Word) (flags : Byte) (i : Instr),
    TakesHead s p (.claim tag s.owc.epoch flags flagsEpoch) → ClaimRow p flags i → s.role p ≠ .fenced →
    (s.hmon.get p).health = .healthy → s.owc.state = .unowned →
    let c : Contents :=
      { owner := some p, epoch := nextEpoch s.owc.epoch, count := s.owc.commitCount + 1#32, policy := s.owc.policy }
    ∃ t, exec i s = .next t ∧ t.owc.state = .committing ∧ t.owc.owner = none ∧ t.owc.successor = some (some p) ∧
      t.owc.owedReplies = s.owc.owedReplies ++ [{ path := p, tag := tag, purpose := .claim }] ∧
      (s.owc.contents = none →
        t.owc.purpose = some .claim ∧ t.owc.contents = some c ∧ t.owc.attempt = 1 ∧ t.mem = fillOwnershipPage c s.mem ∧
          t.owc.waitingTransition = none) ∧
      (s.owc.contents.isSome = true →
        t.owc.waitingTransition = some .claim ∧ t.owc.purpose = s.owc.purpose ∧ t.owc.contents = s.owc.contents ∧
          t.mem = s.mem ∧ t.dpt = s.dpt) ∧
      (∀ q, t.role q ≠ .owner) ∧ SameBlock s t ∧ t.owc.history = s.owc.history ∧ t.pif = (removeHead p s).pif ∧
      t.adm = (removeHead p s).adm ∧ t.hmon = s.hmon ∧ t.ift = s.ift ∧ t.stb = s.stb ∧ t.fnu = s.fnu

/-- A CLAIM that is answered at once, with the status of the first check that decides it, and changes nothing else: for
CLAIM, FORCED_CLAIM and OVERRIDE_CLAIM (R44, R45, R47, R48). -/
def Obligations.ClaimAnsweredAtOnce : Prop :=
  ∀ (p : Path) (s : State) (tag epoch f : Word) (flags : Byte) (i : Instr),
    TakesHead s p (.claim tag epoch flags f) → ClaimRow p flags i →
    let answers (status : Status) : Prop :=
      exec i s = .next ((removeHead p s).offer p .adm (.reply tag status 0#16 s.owc.epoch))
    (epoch ≠ s.owc.epoch → answers .staleEpoch) ∧
      (epoch = s.owc.epoch →
        (s.role p = .fenced → answers .fenced) ∧
          (s.role p ≠ .fenced → (s.hmon.get p).health ≠ .healthy → answers .notHealthy) ∧
          (s.role p ≠ .fenced → (s.hmon.get p).health = .healthy →
            (s.owc.state = .owned ∨ s.owc.state = .grace →
              (s.owc.owner = some p → answers .ok) ∧
                (s.owc.owner = some p.other → flagBit0 flags = false → answers .notUnowned) ∧
                (s.owc.owner = some p.other → flagBit0 flags = true → allowForce s.owc.policy = false →
                  answers .forbidden)) ∧
              (s.owc.state = .draining ∨ s.owc.state = .committing → answers .contended) ∧
              (s.owc.state = .frozen →
                (flagBit1 flags = false → answers .frozen) ∧
                  (flagBit1 flags = true → s.dpt.state ≠ .ready → answers .frozen) ∧
                  (flagBit1 flags = true → s.dpt.state = .ready → f = 0#16 ∨ f = s.owc.epoch →
                    answers .staleEpoch))))

/-- A forced claim accepted in OWNED or GRACE: the owner fenced, with its queued COMMANDs answered FENCED and its entries
treated by their class, the drain begun in stage 2 with cause FORCED, the grace timer stopped, the reply owed, no epoch changed
(R47, R72, R75 to R78, R80). The outcome of an issued FLUSH before its completion is the model's choice,
notes/assumptions/46.md. -/
def Obligations.ForcedClaimFencesOwner : Prop :=
  ∀ (p : Path) (s : State) (tag f : Word) (flags : Byte) (i : Instr),
    TakesHead s p (.claim tag s.owc.epoch flags f) → ClaimRow p flags i → flagBit0 flags = true → s.role p ≠ .fenced →
    (s.hmon.get p).health = .healthy → s.owc.state = .owned ∨ s.owc.state = .grace → s.owc.owner = some p.other →
    allowForce s.owc.policy = true →
    ∃ t, exec i s = .next t ∧ FencedDrain p.other .forced s t ∧
      t.owc.owedReplies = s.owc.owedReplies ++ [{ path := p, tag := tag, purpose := .forced }] ∧
      (t.owc.state = .draining → t.owc.successor = some (some p)) ∧
      (t.pif.get p).rxq = (s.pif.get p).rxq.tail

/-- An override claim accepted in FROZEN: its commit begun under the override epoch, the frozen cause discarded (R44,
R48). -/
def Obligations.OverrideClaimCommits : Prop :=
  ∀ (p : Path) (s : State) (tag f : Word) (flags : Byte) (i : Instr),
    TakesHead s p (.claim tag s.owc.epoch flags f) → ClaimRow p flags i → flagBit1 flags = true → s.role p ≠ .fenced →
    (s.hmon.get p).health = .healthy → s.owc.state = .frozen → s.dpt.state = .ready → f ≠ 0#16 → f ≠ s.owc.epoch →
    let c : Contents := { owner := some p, epoch := f, count := s.owc.commitCount + 1#32, policy := s.owc.policy }
    ∃ t, exec i s = .next t ∧ t.owc.state = .committing ∧ t.owc.owner = none ∧ t.owc.successor = some (some p) ∧
      t.owc.frozenCause = none ∧ t.owc.purpose = some .override ∧ t.owc.contents = some c ∧ t.owc.attempt = 1 ∧
      t.mem = fillOwnershipPage c s.mem ∧
      t.owc.owedReplies = s.owc.owedReplies ++ [{ path := p, tag := tag, purpose := .override }] ∧ SameBlock s t ∧
      t.pif = (removeHead p s).pif ∧ t.hmon = s.hmon ∧ t.ift = s.ift ∧ t.stb = s.stb ∧ t.fnu = s.fnu

/-- A RELEASE from the owner in OWNED begins a cooperative drain, with cause HANDOVER where the flag is set and the
partner may succeed and cause RELEASE otherwise; every other RELEASE is answered and changes nothing: for RELEASE and
RELEASE_HANDOVER (R49, R80, R81). -/
def Obligations.ReleaseDecided : Prop :=
  ∀ (p : Path) (s : State) (tag epoch : Word) (flags : Byte), TakesHead s p (.release tag epoch flags) →
    let answers (status : Status) : Prop :=
      exec (releaseRow p flags) s = .next ((removeHead p s).offer p .adm (.reply tag status 0#16 s.owc.epoch))
    let handover :=
      flagBit0 flags && decide ((s.hmon.get p.other).health = .healthy ∧ s.role p.other ≠ .fenced)
    (epoch ≠ s.owc.epoch → answers .staleEpoch) ∧
      (epoch = s.owc.epoch → s.role p = .fenced → answers .fenced) ∧
      (epoch = s.owc.epoch → s.role p ≠ .fenced → ¬(s.owc.state = .owned ∧ s.owc.owner = some p) →
        answers .notOwner) ∧
      (epoch = s.owc.epoch → s.role p ≠ .fenced → s.owc.state = .owned → s.owc.owner = some p →
        ∃ t, exec (releaseRow p flags) s = .next t ∧ t.owc.owner = none ∧
          (t.owc.state = .draining ∨ t.owc.state = .committing) ∧ t.owc.drainStage = some .cooperative ∧
          t.owc.drainCause = some (if handover then .handover else .release) ∧ t.owc.drainedPath = some p ∧
          t.owc.owedReplies =
            s.owc.owedReplies ++ [{ path := p, tag := tag, purpose := if handover then .handover else .release }] ∧
          (t.owc.state = .draining →
            t.role p = .releasing ∧ t.owc.successor = some (if handover then some p.other else none) ∧
              t.owc.drainTimer = some s.owc.policy.drainMs.toNat ∧ 0 < t.entryCount p) ∧
          SameBlock s t ∧ t.owc.history = s.owc.history ∧ t.hmon = s.hmon)

/-- A REJOIN is answered at once by the first of R50's cases that fits it; only a FENCED, HEALTHY sender outside DRAINING
changes its role. -/
def Obligations.RejoinDecided : Prop :=
  ∀ (p : Path) (s : State) (tag epoch : Word), TakesHead s p (.rejoin tag epoch) →
    let answers (status : Status) : Prop :=
      exec (.rejoin p) s = .next ((removeHead p s).offer p .adm (.reply tag status 0#16 s.owc.epoch))
    (epoch ≠ s.owc.epoch → answers .staleEpoch) ∧
      (epoch = s.owc.epoch →
        (s.role p ≠ .fenced → answers .ok) ∧
          (s.role p = .fenced → (s.hmon.get p).health ≠ .healthy → answers .notHealthy) ∧
          (s.role p = .fenced → (s.hmon.get p).health = .healthy → s.owc.state = .draining → answers .contended) ∧
          (s.role p = .fenced → (s.hmon.get p).health = .healthy → s.owc.state ≠ .draining → OwnershipInv s →
            ∃ t, exec (.rejoin p) s = .next t ∧
              t.role p = (if shareReads s.owc.policy then .sharer else .standby) ∧
              t.role p.other = s.role p.other ∧ t.owc = { s.owc with roles := t.owc.roles } ∧
              t.pif = ((removeHead p s).offer p .adm (.reply tag .ok 0#16 s.owc.epoch)).pif ∧
              t.adm = (removeHead p s).adm ∧ t.hmon = s.hmon ∧ t.ift = s.ift ∧ t.stb = s.stb ∧ t.mem = s.mem ∧
              t.dpt = s.dpt ∧ t.fnu = s.fnu))

/-- A POLICY is refused by the first of R51's checks that fails, BAD_POLICY for a record that fails validation; one that
passes them has its clamped record pending and its commit begun with the owner and epoch current, the policy in force
unchanged (R51, R52, R53). -/
def Obligations.PolicyDecided : Prop :=
  ∀ (p : Path) (s : State) (tag epoch : Word) (record : PolicyRecord), TakesHead s p (.policy tag epoch record) →
    let answers (status : Status) : Prop :=
      exec (.policy p) s = .next ((removeHead p s).offer p .adm (.reply tag status 0#16 s.owc.epoch))
    let standing := (s.owc.state = .owned ∧ s.owc.owner = some p) ∨ s.owc.state = .unowned
    let busy := s.owc.contents.isSome = true ∨ s.owc.waitingTransition.isSome = true
    (epoch ≠ s.owc.epoch → answers .staleEpoch) ∧
      (epoch = s.owc.epoch →
        (s.role p = .fenced → answers .fenced) ∧
          (s.role p ≠ .fenced →
            (s.owc.owner ≠ some p → (s.hmon.get p).health ≠ .healthy → answers .notHealthy) ∧
              (s.owc.owner = some p ∨ (s.hmon.get p).health = .healthy →
                (¬standing → answers .notOwner) ∧ (standing → busy → answers .busy) ∧
                  (standing → ¬busy → acceptPolicy s.reportedCapacity record = none → answers .badPolicy) ∧
                  (standing → ¬busy → ∀ r, acceptPolicy s.reportedCapacity record = some r →
                    let c : Contents :=
                      { owner := s.owc.owner, epoch := s.owc.epoch, count := s.owc.commitCount + 1#32, policy := r }
                    ∃ t, exec (.policy p) s = .next t ∧
                      t.owc = { s.owc with
                        pendingPolicy := some r, purpose := some .policy, contents := some c, attempt := 1
                        waitingTransition := none
                        owedReplies := s.owc.owedReplies ++ [{ path := p, tag := tag, purpose := .policy }] } ∧
                      t.mem = fillOwnershipPage c s.mem ∧ t.pif = (removeHead p s).pif ∧ t.hmon = s.hmon ∧
                      t.ift = s.ift ∧ t.stb = s.stb ∧ t.fnu = s.fnu))))

/-! ## Faults, notices and inspection -/

/-- An INSPECT is answered with exactly one RECORD for the position it comes to, and moves the sender's cursor alone:
INSPECT_SET, INSPECT_NEXT and INSPECT_BAD_MODE, with room for the answer; without it the frame is discarded (R180, R184).
What a position holds: the records of the eight tables, field by field with their sizes, their codes, EMPTY at a free slot of
the In-Flight Table, and the end of each table (R21, R185 to R191). That the frontier of a FLUSH is held and sent as 0 is the
model's choice, notes/assumptions/49.md, and so is the fenced outcome NOT_STARTED of an issued FLUSH before its completion,
notes/assumptions/46.md. -/
def Obligations.InspectAnswered : Prop :=
  (∀ (p : Path) (s : State) (tag : Word) (mode table : Byte) (index : Word),
    TakesHead s p (.inspect tag mode table index) →
    let h := removeHead p s
    let record (u : State) (status : Status) (tab idx : Nat) (fields : List Byte) : Host.Outcome State Fault Refusal :=
      .next (u.offer p .fnuAnswer (.record tag status (BitVec.ofNat 8 tab) (BitVec.ofNat 16 idx) fields))
    let reads (c : Cursor) : Prop :=
      (∀ fields, readPosition h p c = .record fields →
        exec (inspectRow p mode) s =
          record (setCursor p { table := c.table, index := c.index + 1 } h) .ok c.table c.index fields) ∧
        (readPosition h p c = .empty →
          exec (inspectRow p mode) s =
            record (setCursor p { table := c.table, index := c.index + 1 } h) .empty c.table c.index []) ∧
        (readPosition h p c = .beyond →
          exec (inspectRow p mode) s = record (setCursor p c h) .endOfTable c.table c.index [])
    (answersRoom s p = false → exec (inspectRow p mode) s = .next h) ∧
      (answersRoom s p = true →
        (mode = 0#8 → table.toNat ≤ 7 → reads { table := table.toNat, index := index.toNat }) ∧
          (mode = 0#8 → 7 < table.toNat →
            exec (inspectRow p mode) s = record h .badTable table.toNat index.toNat []) ∧
          (mode = 1#8 → reads (s.fnu.cursors.get p)) ∧
          (mode ≠ 0#8 → mode ≠ 1#8 →
            exec (inspectRow p mode) s = record h .badOp table.toNat index.toNat []))) ∧
    (∀ (s : State) (p : Path),
      let at_ (table index : Nat) : Position := readPosition s p { table := table, index := index }
      let holds (table index : Nat) (fields : List (Nat × Nat)) : Prop :=
        ∃ bytes, at_ table index = .record bytes ∧ LaidOut bytes fields
      let o := s.owc
      let capacity := (s.dpt.identity.map (fun i => i.capacity)).getD 0
      let during {α : Type} (shown : Prop) [Decidable shown] (field : Option α) : Option α :=
        if shown then field else none
      holds 0 0 [(2, 0x4F4C), (2, 0x0220), (1, 1), (1, resetCauseCode s.fnu.resetCause),
          (1, driveStateCode s.dpt.state), (1, driveCauseCode s.dpt.cause), (1, s.dpt.slotCount), (6, capacity),
          (6, capacity - 8), (1, s.fnu.postedLost)] ∧
        (∀ q : Path,
          let f := s.pif.get q
          holds 1 (if q = .a then 0 else 1) [(1, linkCode f.link), (1, (s.hmon.get q).score),
            (1, healthCode (s.hmon.get q).health), (1, roleCode (s.role q)), (1, s.occupancy q),
            (1, quotaOf o.policy q), (1, f.serverHold.toNat + 2 * f.partHold.toNat), (1, s.entryCount q),
            (1, f.rxq.length), (1, f.transmitCount)]) ∧
        holds 2 0 [(1, ownStateCode o.state), (1, pathCode o.owner), (2, o.epoch.toNat), (4, o.commitCount.toNat),
          optField ((during (o.state = .draining) o.drainStage).map drainStageCode),
          optField ((during (o.state = .draining) o.drainCause).map drainCauseCode),
          optField ((during (o.state = .draining ∨ o.state = .committing) o.successor).map pathCode),
          optField (o.drainedPath.map (fun q => pathCode (some q))), optField (o.purpose.map purposeCode),
          optField ((during (o.state = .frozen) o.frozenCause).map frozenCauseCode), (1, o.attempt)] ∧
        at_ 3 0 = .record (encodePolicy o.policy) ∧
        (∀ slot, slot < 32 → s.entry? slot = none → at_ 4 slot = .empty) ∧
        (∀ slot e, slot < 32 → s.entry? slot = some e →
          ∃ blockers outstanding, (∀ k, k < 32 → blockers.testBit k = decide (k ∈ e.blockedBy)) ∧
            (∀ k, k < 8 → outstanding.testBit k = decide (∃ g ∈ e.outstanding, g.driveSlot = k)) ∧
            holds 4 slot [(1, pathCode (some e.origin)), (2, e.tag.toNat), (1, opCode e.op),
              (1, e.common.toNat + 2 * e.posted.toNat + 4 * e.acked.toNat + 8 * e.cut.toNat), (6, e.start),
              (2, e.count), (2, e.epoch.toNat), (6, e.age), (1, phaseCode e.phase),
              (2, match e.op with | .write => e.staged | .read => e.issued | .flush => 0),
              (2, match e.op with | .write => e.issued | .read => e.fetched | .flush => 0),
              (2, match e.op with | .write => e.committed | .read => e.delivered | .flush => 0), (2, e.frontier),
              (1, e.returned.length), (1, e.reissue), (4, blockers), (1, outstanding),
              optField ((during (e.phase = .ending) e.endStatus).map (fun st => statusCode st.status)),
              optField (e.fencedOutcome.map outcomeCode)]) ∧
        holds 5 0 ([(1, o.orphans.length), (1, o.dropped)] ++ List.replicate 15 (1, 0)) ∧
        (∀ i r, o.orphans[i]? = some r →
          holds 5 (i + 1) [(1, pathCode (some r.origin)), (2, r.tag.toNat), (1, opCode r.op), (6, r.start),
            (2, r.count), (2, r.done), (2, r.epoch.toNat), (1, outcomeCode r.outcome)]) ∧
        (∀ i r, o.history[i]? = some r →
          holds 6 i [(2, r.epoch.toNat), (1, pathCode r.newOwner), (1, pathCode r.previousOwner),
            (1, historyCauseCode r.cause), (1, r.orphans)]) ∧
        holds 7 0 [(2, (s.fnu.flags.get p).toNat), (2, (s.fnu.masks.get p).toNat)] ∧
        ∀ i, (1 ≤ i → at_ 0 i = .beyond ∧ at_ 2 i = .beyond ∧ at_ 3 i = .beyond ∧ at_ 7 i = .beyond) ∧
          (2 ≤ i → at_ 1 i = .beyond) ∧ (32 ≤ i → at_ 4 i = .beyond) ∧
          (o.orphans.length < i → at_ 5 i = .beyond) ∧ (o.history.length ≤ i → at_ 6 i = .beyond)) ∧
    ([Link.down, .up].map linkCode = [0, 1] ∧ [Health.healthy, .doubtful, .lost].map healthCode = [0, 1, 2] ∧
      [Role.owner, .sharer, .standby, .releasing, .fenced].map roleCode = [0, 1, 2, 3, 4] ∧
      [OwnState.loading, .unowned, .owned, .grace, .draining, .committing, .frozen].map ownStateCode =
        [0, 1, 2, 3, 4, 5, 6] ∧
      [none, some Path.a, some Path.b].map pathCode = [0, 1, 2] ∧
      [ResetCause.power, .pin, .soft].map resetCauseCode = [0, 1, 2] ∧
      [DriveState.absent, .identifying, .ready, .resetting, .failed, .halted].map driveStateCode = [0, 1, 2, 3, 4, 5] ∧
      [DriveCause.none, .unsuited, .changed, .noReady, .noIdentify, .violation].map driveCauseCode =
        [0, 1, 2, 3, 4, 5] ∧
      [DrainStage.cooperative, .fenced, .resetDone].map drainStageCode = [1, 2, 3] ∧
      [DrainCause.loss, .forced, .release, .handover].map drainCauseCode = [1, 2, 3, 4] ∧
      [Purpose.claim, .forced, .override, .release, .handover, .loss, .policy].map purposeCode =
        [1, 2, 3, 4, 5, 6, 7] ∧
      [FrozenCause.blockBad, .commitFailed, .drive].map frozenCauseCode = [1, 2, 3] ∧
      [Op.read, .write, .flush].map opCode = [1, 2, 3] ∧ [Phase.blocked, .running, .ending].map phaseCode = [0, 1, 2] ∧
      [EndStatus.ok, .overrun, .badData, .mediaError, .driveStall, .driveFailed, .linkCut, .fenced].map
        (fun st => statusCode st.status) = [0x00, 0x40, 0x41, 0x42, 0x43, 0x44, 0x45, 0x45] ∧
      [Outcome.notStarted, .torn, .readCut, .completeUnreported, .postedDone, .postedLost, .linkCut, .resetCut].map
        outcomeCode = [1, 2, 3, 4, 5, 6, 7, 8] ∧
      [HistoryCause.start, .claim, .forced, .override, .release, .handover, .loss].map historyCauseCode =
        [0, 1, 2, 3, 4, 5, 6])

/-- A NOTIFY_MASK replaces the sender's notice mask with bits 0 to 8 of its field, changes no flag, produces no notice and
withdraws none, and is answered OK (R183). -/
def Obligations.NoticeMaskReplaced : Prop :=
  ∀ (p : Path) (s : State) (tag mask : Word), TakesHead s p (.notifyMask tag mask) → answersRoom s p = true →
    exec (.notifyMask p) s =
      .next (({ removeHead p s with fnu := { s.fnu with masks := s.fnu.masks.set p (mask.setWidth 9) } } : State).offer p
        .fnuAnswer (.reply tag .ok 0#16 s.owc.epoch))

/-- A CLEAR with target 0 clears the flags its mask names in the sender's own copy and no other, whatever the sender's role
and the state (R181). One with target 1 empties the orphan list and its dropped counter for the owner in OWNED and for a
path that is not FENCED in UNOWNED, and is refused NOT_OWNER otherwise (R92, R182); any other target is refused BAD_TABLE.
Without room for the answer a CLEAR is discarded (R180). -/
def Obligations.ClearDecided : Prop :=
  ∀ (p : Path) (s : State) (tag mask : Word) (target : Byte), TakesHead s p (.clear tag target mask) →
    let answers (u : State) (status : Status) : Prop :=
      exec (clearRow p target) s = .next (u.offer p .fnuAnswer (.reply tag status 0#16 s.owc.epoch))
    let permitted := (s.owc.state = .owned ∧ s.owc.owner = some p) ∨ (s.owc.state = .unowned ∧ s.role p ≠ .fenced)
    (answersRoom s p = false → exec (clearRow p target) s = .next (removeHead p s)) ∧
      (answersRoom s p = true →
        (target = 0#8 →
            ∃ t, exec (.clearFaultFlags p) s = .next t ∧
              (∀ flag, hasFlag (t.fnu.flags.get p) flag =
                (hasFlag (s.fnu.flags.get p) flag && !mask.getLsbD (flagId flag - 1))) ∧
              t.fnu.flags.get p.other = s.fnu.flags.get p.other ∧ t.fnu = { s.fnu with flags := t.fnu.flags } ∧
              t.pif = ((removeHead p s).offer p .fnuAnswer (.reply tag .ok 0#16 s.owc.epoch)).pif ∧
              t.adm = (removeHead p s).adm ∧ t.hmon = s.hmon ∧ t.owc = s.owc ∧ t.ift = s.ift ∧ t.stb = s.stb ∧
              t.mem = s.mem ∧ t.dpt = s.dpt) ∧
          (target = 1#8 → permitted →
          answers { removeHead p s with owc := { s.owc with orphans := [], dropped := 0 } } .ok) ∧
          (target = 1#8 → ¬permitted → answers (removeHead p s) .notOwner) ∧
          (target ≠ 0#8 → target ≠ 1#8 → answers (removeHead p s) .badTable))

/-- A DEVICE_RESET is refused STALE_EPOCH for another epoch and NOT_OWNER without standing; an accepted one is the soft
reset: the table, the pages, the grant list, the receive queues and ADM emptied; LOADING, or with no drive FROZEN; FENCED
roles, health, masks, cursors, history and the identity kept; every entry recorded; DATA_LOSS set where a posted write was
lost; the drive reset (R192, R193, R17, R39, R68, R93, R135, R154). -/
def Obligations.DeviceResetDecided : Prop :=
  ∀ (p : Path) (s : State) (tag epoch : Word), TakesHead s p (.deviceReset tag epoch) → s.fnu.deciding = none →
    let answers (status : Status) : Prop :=
      exec (.deviceReset p) s =
        .next (if answersRoom s p then (removeHead p s).offer p .fnuAnswer (.reply tag status 0#16 s.owc.epoch)
          else removeHead p s)
    let standing :=
      (s.owc.state = .owned ∧ s.owc.owner = some p) ∨
        ((s.hmon.get p).health = .healthy ∧ s.role p ≠ .fenced ∧ (s.owc.state = .unowned ∨ s.owc.state = .frozen))
    (epoch ≠ s.owc.epoch → answers .staleEpoch) ∧
      (epoch = s.owc.epoch → ¬standing → answers .notOwner) ∧
      (epoch = s.owc.epoch → standing →
        ∃ t, exec (.deviceReset p) s = .next t ∧ t.ift = [] ∧ t.stb.pages = [] ∧ t.stb.grants = [] ∧
          t.adm = { pointer := .b, sequence := 0 } ∧ (∀ q, (t.pif.get q).rxq = []) ∧
          (∀ q, (t.pif.get q).link = (s.pif.get q).link ∧ (t.pif.get q).assembler = (s.pif.get q).assembler ∧
            (t.pif.get q).serverHold = false ∧ (t.pif.get q).partHold = false) ∧
          t.owc.state = (if s.dpt.state = .absent then .frozen else .loading) ∧ t.owc.owner = none ∧
          t.owc.attempt = 0 ∧ t.owc.contents = none ∧ t.owc.owedReplies = [] ∧ t.owc.history = s.owc.history ∧
          SameBlock s t ∧ (∀ q, s.role q = .fenced → t.role q = .fenced) ∧
          (s.ift.length + s.owc.orphans.length ≤ 32 →
            t.owc.orphans = s.owc.orphans ++ s.ift.map (fun e => e.orphan .resetCut)) ∧
          (∀ q, (t.hmon.get q).score = (s.hmon.get q).score ∧ (t.hmon.get q).health = (s.hmon.get q).health ∧
            (t.hmon.get q).window = (s.hmon.get q).window) ∧
          t.fnu.resetCause = .soft ∧ t.fnu.postedLost = lostCount s.ift ∧ t.fnu.deciding = none ∧
          t.fnu.masks = s.fnu.masks ∧ t.fnu.cursors = s.fnu.cursors ∧
          (0 < lostCount s.ift → FlagInBoth .dataLoss t) ∧
          (s.dpt.state ≠ .absent → t.dpt.state = .resetting) ∧ t.dpt.identity = s.dpt.identity)

/-! ## Timers -/

/-- PULSE_WINDOW_EXPIRY while the window runs: the miss and the stall charge as one change, one evaluation, and the next
window begun; the partner is untouched (R25, R28, R30). Where the window does not run, the row changes nothing: the
model's choice, notes/assumptions/7.md. -/
def Obligations.PulseWindowWorked : Prop :=
  ∀ (p : Path) (s : State),
    let h := s.hmon.get p
    let missed := if h.pulseCounted then h.score else min (h.score + s.owc.policy.missWeight.toNat) 255
    let score :=
      if h.heldThroughout ∧ ∃ r ∈ s.stb.pages, r.path = p ∧ r.state = .fetched then
        min (missed + s.owc.policy.stallWeight.toNat) 255
      else missed
    (h.window.isSome = true →
      ∃ t, exec (.pulseWindowExpiry p) s = .next t ∧
        t.hmon = s.hmon.set p
          { score := score
            health := if score = h.score then h.health else evaluate s.owc.policy h.health score
            window := some s.owc.policy.pulsePeriodMs.toNat, pulseCounted := false
            heldThroughout := (s.pif.get p).serverHold } ∧
        (score = h.score ∨ evaluate s.owc.policy h.health score = h.health →
          t.pif = s.pif ∧ t.owc = s.owc ∧ t.ift = s.ift ∧ t.stb = s.stb ∧ t.mem = s.mem ∧ t.dpt = s.dpt ∧
            t.fnu = s.fnu) ∧
        SameBlock s t ∧ t.adm = s.adm) ∧
      (h.window = none → exec (.pulseWindowExpiry p) s = .next s)

/-- A LOST report on the owner in OWNED with auto_takeover set: GRACE with its timer, or with grace_ms = 0 the fencing drain
at once; with auto_takeover clear, nothing (R41, R69, R73). GRACE_EXPIRY in GRACE fences the owner and begins the drain with
cause LOSS; DRAIN_STAGE1_EXPIRY fences the releaser and goes to stage 2, cause and drained path kept (R71, R82). Each fencing
answers the queued COMMANDs FENCED and treats the path's entries by their class (R75 to R78). Where the timer does not run, its
row changes nothing, and an issued FLUSH holds NOT_STARTED before its completion: the model's choices, notes/assumptions/7.md
and notes/assumptions/46.md. -/
def Obligations.OwnerLossAndFencing : Prop :=
  (∀ (p : Path) (s : State), s.owc.state = .owned → s.owc.owner = some p →
      (autoTakeover s.owc.policy = true → s.owc.policy.graceMs ≠ 0#16 → OwnershipInv s →
        ownerLost p s =
          { s with owc := { s.owc with state := .grace, graceTimer := some s.owc.policy.graceMs.toNat } }) ∧
        (autoTakeover s.owc.policy = true → s.owc.policy.graceMs = 0#16 → FencedDrain p .loss s (ownerLost p s)) ∧
        (autoTakeover s.owc.policy = false → ownerLost p s = s)) ∧
    ∀ s : State,
      (∀ owner, s.owc.state = .grace → s.owc.graceTimer.isSome = true → s.owc.owner = some owner →
        ∃ t, exec .graceExpiry s = .next t ∧ FencedDrain owner .loss s t ∧
          (t.owc.state = .draining → t.owc.successor = some (some owner.other))) ∧
        (s.owc.state ≠ .grace ∨ s.owc.graceTimer = none → exec .graceExpiry s = .next s) ∧
        (∀ releaser cause, s.owc.state = .draining → s.owc.drainStage = some .cooperative →
          s.owc.drainTimer.isSome = true → s.owc.drainedPath = some releaser → s.owc.drainCause = some cause →
          s.owc.owner = none → s.owc.graceTimer = none →
          ∃ t, exec .drainStage1Expiry s = .next t ∧ FencedDrain releaser cause s t) ∧
        (s.owc.state ≠ .draining ∨ s.owc.drainStage ≠ some .cooperative ∨ s.owc.drainTimer = none →
          exec .drainStage1Expiry s = .next s)

/-- DRAIN_STAGE2_EXPIRY asks for a drive reset, which begins with the drive READY, and a drain that goes on is in stage 3
with its timer restarted; DRAIN_STAGE3_EXPIRY stops the timer and leaves no entry of the drained path without an end (R83,
R85). -/
def Obligations.LaterDrainTimersExpire : Prop :=
  ∀ (s : State) (drained : Path) (cause : DrainCause), s.owc.state = .draining → s.owc.drainTimer.isSome = true →
    s.owc.drainedPath = some drained → s.owc.drainCause = some cause →
    (s.owc.drainStage = some .fenced →
      ∃ t, exec .drainStage2Expiry s = .next t ∧ (s.dpt.state = .ready → ResetBegun s t) ∧
        (s.dpt.state ≠ .ready → t.dpt.state = s.dpt.state ∧ t.dpt.requests = s.dpt.requests) ∧
        (t.owc.state = .draining →
          t.owc.drainStage = some .resetDone ∧ t.owc.drainTimer = some s.owc.policy.drainMs.toNat ∧
            0 < t.entryCount drained)) ∧
      (s.owc.drainStage = some .resetDone → TableInv s →
        ∃ t, exec .drainStage3Expiry s = .next t ∧ t.owc.drainTimer = none ∧
          (∀ e ∈ t.ift, e.origin = drained → e.endStatus.isSome = true) ∧
          (t.owc.state = .draining → 0 < t.entryCount drained) ∧ SameBlock s t)

/-! ## The part's own steps -/

/-- DRAIN_END with no entry of the drained path left: COMMITTING, the successor chosen by R87, the timer stopped, the
closing commit begun under the next epoch or waiting; with an entry left, nothing (R80, R87, R88). -/
def Obligations.DrainEndsInCommit : Prop :=
  ∀ (s : State) (cause : DrainCause) (drained : Path), s.owc.state = .draining → s.owc.drainCause = some cause →
    s.owc.drainedPath = some drained →
    let may (q : Path) : Prop := (s.hmon.get q).health = .healthy ∧ s.role q ≠ .fenced
    (s.entryCount drained = 0 →
      ∃ t successor, exec .drainEnd s = .next t ∧ t.owc.state = .committing ∧ t.owc.drainTimer = none ∧
        t.owc.successor = some successor ∧
        (cause = .release → successor = none) ∧
        (cause = .loss → (may drained.other → successor = some drained.other) ∧
          (¬may drained.other → successor = none)) ∧
        (cause = .handover ∨ cause = .forced → ∀ q, s.owc.successor = some (some q) →
          (may q → successor = some q) ∧ (¬may q → successor = none)) ∧
        (s.owc.contents = none →
          t.owc.purpose = some (drainPurpose cause) ∧ t.owc.attempt = 1 ∧
            t.owc.contents =
              some { owner := successor, epoch := nextEpoch s.owc.epoch, count := s.owc.commitCount + 1#32,
                     policy := s.owc.policy }) ∧
        (s.owc.contents.isSome = true →
          t.owc.waitingTransition = some (drainPurpose cause) ∧ t.owc.contents = s.owc.contents ∧
            t.owc.purpose = s.owc.purpose) ∧
        SameBlock s t ∧ t.pif = s.pif ∧ t.hmon = s.hmon ∧ t.ift = s.ift ∧ t.stb = s.stb ∧ t.fnu = s.fnu) ∧
      (0 < s.entryCount drained → exec .drainEnd s = .next s)

/-- The commands that ask the drive for an ownership block operation: WAITING_TRANSITION begins the waiting commit from the
record as it stands, LOAD_BEGIN begins the load, RESERVED_OPERATION_ISSUE issues the waiting request in the reserved slot;
each takes only its own step (R53, R54, R59, R164). -/
def Obligations.OwnershipOperationsBegin : Prop :=
  ∀ s : State,
    let n := s.dpt.slotCount
    let issued (op : BlockOp) (attempt : Nat) (request : DriveRequest) : Dpt :=
      { s.dpt with
        busy := s.dpt.busy ++
          [{ slot := n - 1, holder := .blockOp op attempt, timer := s.owc.policy.driveTimeoutMs.toNat }]
        requests := s.dpt.requests ++ [request], request := none }
    let free := s.dpt.state = .ready ∧ ∀ b ∈ s.dpt.busy, b.slot ≠ n - 1
    (∀ purpose, s.owc.waitingTransition = some purpose → s.owc.contents = none →
      let c := successionContents s.owc
      ∃ t, exec .waitingTransition s = .next t ∧
        t.owc = { s.owc with purpose := some purpose, contents := some c, attempt := 1, waitingTransition := none } ∧
        t.mem = fillOwnershipPage c s.mem ∧ t.pif = s.pif ∧ t.hmon = s.hmon ∧ t.adm = s.adm ∧ t.ift = s.ift ∧
        t.stb = s.stb ∧ t.fnu = s.fnu ∧
        (free → t.dpt = issued .commit 1 (.write (n - 1) s.reportedCapacity 1 [255]))) ∧
      (s.owc.state = .loading → s.owc.attempt = 0 → free →
        exec .loadBegin s =
          .next { s with
            owc := { s.owc with attempt := 1 }
            dpt := issued .load 1 (.read (n - 1) s.reportedCapacity 1 [255]) }) ∧
      (free →
        (s.dpt.request = some .load →
          exec .reservedOperationIssue s =
            .next { s with dpt := issued .load s.owc.attempt (.read (n - 1) s.reportedCapacity 1 [255]) }) ∧
          (s.dpt.request = some .commit →
            exec .reservedOperationIssue s =
              .next { s with dpt := issued .commit s.owc.attempt (.write (n - 1) s.reportedCapacity 1 [255]) })) ∧
      (s.dpt.request = none ∨ s.dpt.state ≠ .ready → exec .reservedOperationIssue s = .next s)

/-- SEGMENT_ISSUE with the drive READY: the lowest-numbered free path slot takes the segment that the entry of smallest age
has due, among all that have one: a returned range first and whole, the lowest where they stand in offset order, else the new
segment at the frontier (R118 to R120, R162). Its descriptor goes to the drive with its op, LBA start + offset, its count and
the pages that hold its offsets, which are AT_DRIVE from then on; its timer starts, and the entry counts it (R117, R121, R155,
R163). With the drive not READY, no path slot free or nothing due, nothing. -/
def Obligations.OldestSegmentIssued : Prop :=
  ∀ s : State, TableInv s →
    (∀ (k : Nat) (e : Entry) (run : Run), s.dpt.state = .ready → k + 1 < s.dpt.slotCount → s.slotBusy k = false →
      (∀ j, j < k → s.slotBusy j = true) → e ∈ s.ift → SegmentDue e run →
      (∀ x ∈ s.ift, x.age < e.age → ∀ r, ¬SegmentDue x r) →
      (∀ i, i < run.length → ∃ r ∈ s.stb.pages, r.slot = some e.slot ∧ r.offset = run.offset + i) →
      (RangesOrdered e → ∀ r ∈ e.returned, run.offset ≤ r.offset) ∧
        ∃ t pages, exec .segmentIssue s = .next t ∧ pages.length = run.length ∧
          (∀ i n, pages[i]? = some n →
            (∃ r ∈ s.stb.pages, r.number = n ∧ r.slot = some e.slot ∧ r.offset = run.offset + i) ∧
              ∃ r ∈ t.stb.pages, r.number = n ∧ r.slot = some e.slot ∧ r.offset = run.offset + i ∧ r.state = .atDrive) ∧
          (s.dpt.requests ++
            [match e.op with
              | .read => .read k (e.start + run.offset) run.length pages
              | .write => .write k (e.start + run.offset) run.length pages
              | .flush => .flush k]) <+: t.dpt.requests ∧
          (s.dpt.busy ++ [{ slot := k, holder := .segment e.slot run.offset run.length e.op,
                            timer := s.owc.policy.driveTimeoutMs.toNat }]) <+: t.dpt.busy ∧
          (∃ x, t.entry? e.slot = some x ∧
            { driveSlot := k, offset := run.offset, length := run.length } ∈ x.outstanding ∧
            (e.op ≠ .flush → e.issued + run.length ≤ x.issued) ∧
            (e.op ≠ .flush → e.returned = [] → e.frontier + run.length ≤ x.frontier)) ∧
          t.owc = s.owc ∧ t.hmon = s.hmon ∧ t.adm = s.adm ∧ t.mem = s.mem ∧ t.fnu = s.fnu) ∧
      (s.dpt.state ≠ .ready ∨ (∀ k, k + 1 < s.dpt.slotCount → s.slotBusy k = true) ∨
          (∀ e ∈ s.ift, ∀ run, ¬SegmentDue e run) →
        exec .segmentIssue s = .next s)

/-- READ_GRANT: the oldest request, whether it stands in the list with a request for every read that asks, or is placed by this
step for min(16, count − frontier) blocks (R119, R145), is given the lowest-numbered free pages at consecutive offsets from
the frontier where the quota and the free pages allow it, and nothing allocated is taken away (R139, R146). The pages are
GRANTED and the entry holds the grant; with the drive READY the segment may be issued at once, its pages then AT_DRIVE (R162).
With the drive not READY the request leaves the list and nothing changes at the drive. -/
def Obligations.OldestRequestGranted : Prop :=
  ∀ (s : State) (g : GrantRequest) (e : Entry), TableInv s → PagesInv s → s.entry? g.slot = some e → e.op = .read →
    (∃ rest, s.stb.grants = g :: rest ∧ (∀ x ∈ rest, x.slot ≠ g.slot) ∧
        ∀ x ∈ s.ift, AsksPages x → ∃ h ∈ s.stb.grants, h.slot = x.slot) ∨
      (s.stb.grants = [] ∧ AsksPages e ∧ (∀ x ∈ s.ift, AsksPages x → e.age ≤ x.age) ∧
        g = { slot := e.slot, path := e.origin, age := e.age, length := min 16 (e.count - e.frontier) }) →
    s.occupancy g.path + g.length ≤ quotaOf s.owc.policy g.path → g.length ≤ s.freePages.length →
    ∃ t, exec .readGrant s = .next t ∧
      (∀ i n, i < g.length → s.freePages[i]? = some n →
        ∃ r ∈ t.stb.pages, r.number = n ∧ r.path = g.path ∧ r.slot = some g.slot ∧ r.offset = e.frontier + i ∧
          (r.state = .granted ∨ (s.dpt.state = .ready ∧ r.state = .atDrive))) ∧
      s.occupancy g.path + g.length ≤ t.occupancy g.path ∧
      (∀ r ∈ s.stb.pages,
        ∃ x ∈ t.stb.pages, x.number = r.number ∧ x.path = r.path ∧ x.slot = r.slot ∧ x.offset = r.offset) ∧
      (∃ x, t.entry? g.slot = some x ∧
        ((x.readGrant = some g.length ∧ x.frontier = e.frontier) ∨
          (s.dpt.state = .ready ∧
            ∃ k, { driveSlot := k, offset := e.frontier, length := g.length } ∈ x.outstanding))) ∧
      (s.dpt.state ≠ .ready → g ∉ t.stb.grants ∧ t.dpt = s.dpt ∧ ∀ r ∈ s.stb.pages, r ∈ t.stb.pages) ∧
      t.owc = s.owc ∧ t.hmon = s.hmon ∧ t.adm = s.adm ∧ t.mem = s.mem ∧ t.fnu = s.fnu

/-- READ_DATA_OFFER on a path that holds no READ_DATA: the block at offset d of its oldest read that can deliver is
offered, and nothing else changes; where there is none, or a READ_DATA stands already, nothing (R14, R131). -/
def Obligations.ReadDataOffered : Prop :=
  ∀ (p : Path) (s : State) (e : Entry) (r : PageRecord),
    ((s.pif.get p).holdsReadData = false → s.ift.find? (fun x => x.origin == p && s.deliverable x) = some e →
      s.pageAt e.slot e.delivered = some r →
      exec (.readDataOffer p) s =
        .next { s with
          pif := s.pif.set p
            (Pif.offer .ift
              { frame := .readData e.tag (BitVec.ofNat 16 e.delivered) (readPage s.mem r.number)
                tie := .block e.slot e.age r.number } (s.pif.get p)) }) ∧
      ((s.pif.get p).holdsReadData = true ∨ (∀ x ∈ s.ift, x.origin = p → s.deliverable x = false) →
        exec (.readDataOffer p) s = .next s)

/-- The arbiter over an outbound link: nothing is begun on a DOWN link or during a transmission; otherwise the flow frame goes
first, then the ECHO, then the oldest frame that may be sent, READ_DATA being held back under server-hold (R13).
FRAME_TRANSMITTED ends the frame in transmission: the frame is on the line, the next one is chosen in that order, and the
block of a READ_DATA counts as delivered, with its page free; a read whose last block it is ends OK and is answered, and one
in ENDING goes on while its next block is fetched and is answered where it is not (R12 to R14, R122, R131). WAITING_FRAME_ENTRY
lets the frame that waited longest enter a queue with room, and the entry whose final reply it is leaves the table (R12, R128).
Three points are the model's choice: that the next frame is chosen among those that stand before the report of the READ_DATA,
so that a GO which the freed page brings about comes after it, notes/assumptions/40.md; that the reply of a finished read takes
its position before the next READ_DATA is offered, so that its entry is removed where that was the last one,
notes/assumptions/42.md; and that with no frame in transmission FRAME_TRANSMITTED changes nothing, notes/assumptions/7.md. -/
def Obligations.FramesLeaveAndEnter : Prop :=
  (∀ f : Pif,
    let idle := f.link = .up ∧ f.sending = none
    let flow (g : OutFrame) : Sending := { source := .flow, item := { frame := g, tie := .plain } }
    let echo (g : OutFrame) : Sending := { source := .echo, item := { frame := g, tie := .plain } }
    (¬idle → f.chooseNext = f) ∧
      (∀ g, idle → f.flowWaiting = some g →
        f.chooseNext = { f with flowWaiting := none, heldServer := decide (g = .hold), sending := some (flow g) }) ∧
      (∀ g, idle → f.flowWaiting = none → f.echoWaiting = some g →
        f.chooseNext = { f with echoWaiting := none, sending := some (echo g) }) ∧
      (∀ first x rest, idle → f.flowWaiting = none → f.echoWaiting = none → OldestSendable f first x rest →
        f.chooseNext = { f with txq := first ++ rest, sending := some { source := .queue, item := x } }) ∧
      (idle → f.flowWaiting = none → f.echoWaiting = none →
        (∀ y ∈ f.txq, f.serverHold = true ∧ y.frame.isReadData = true) → f.chooseNext = f)) ∧
  ∀ (p : Path) (s : State),
    let f := s.pif.get p
    (∀ x, f.sending = some x →
      ∃ t, exec (.frameTransmitted p) s = .next t ∧ (t.pif.get p).sent = f.sent ++ [x.item.frame] ∧
        (t.pif.get p.other).sent = (s.pif.get p.other).sent ∧
        (f.link = .up →
          (∀ g, f.flowWaiting = some g →
            (t.pif.get p).sending = some { source := .flow, item := { frame := g, tie := .plain } }) ∧
            (∀ g, f.flowWaiting = none → f.echoWaiting = some g →
              (t.pif.get p).sending = some { source := .echo, item := { frame := g, tie := .plain } }) ∧
            (∀ first y rest, f.flowWaiting = none → f.echoWaiting = none → OldestSendable f first y rest →
              (t.pif.get p).sending = some { source := .queue, item := y })) ∧
        (∀ slot age page e, x.item.tie = .block slot age page → s.entry? slot = some e → e.age = age → TableInv s →
          (f.waiting.all (fun w => w.producer != .iftFinal slot)) = true →
          let counted : Prop := ∃ y, t.entry? slot = some y ∧ y.delivered = e.delivered + 1
          let answered (status : Status) : Prop :=
            Carries (t.pif.get p) (.reply e.tag status (BitVec.ofNat 16 (e.delivered + 1)) s.owc.epoch)
          let plain := e.op = .read ∧ e.origin = p ∧ e.fencedOutcome = none ∧ e.acked = false ∧ e.cut = false ∧
            e.reported = false ∧ f.link = .up
          (e.phase = .running → e.delivered + 1 < e.count → counted) ∧ (e.outstanding ≠ [] → counted) ∧
            (plain → e.phase = .running → e.delivered + 1 = e.count → e.outstanding = [] →
              answered .ok ∧
                (ReportsMade s → f.waiting = [] → f.transmitCount ≤ 32 → x.source = .queue → EntryRemoved slot s t)) ∧
            (e.phase = .ending → e.delivering (s.role e.origin) = true →
              (∃ r ∈ s.stb.pages, r.slot = some slot ∧ r.offset = e.delivered + 1 ∧ r.state = .fetched ∧
                r.number ≠ page) → counted) ∧
            (∀ status, plain → e.phase = .ending → e.endStatus = some status → e.outstanding = [] →
              s.isFetched slot (e.delivered + 1) = false → answered status.status) ∧
            (∀ r ∈ t.stb.pages, r.number = page → r.state ≠ .fetched)) ∧
        SameBlock s t ∧ t.hmon = s.hmon ∧ t.adm = s.adm) ∧
      (f.sending = none → exec (.frameTransmitted p) s = .next s) ∧
      (∀ w rest, f.waiting = w :: rest → f.hasRoom = true →
        let entered := s.onPif p (fun f => Pif.enqueue w.item { f with waiting := rest })
        ((∀ slot, w.producer ≠ .iftFinal slot) → exec (.waitingFrameEntry p) s = .next (conclude s entered)) ∧
          ∀ slot, w.producer = .iftFinal slot →
            exec (.waitingFrameEntry p) s = .next (conclude s (dropEntry slot entered)))

/-- ENTRY_REMOVAL of an entry whose report is due: the report of the first row of R128 that fits it, and the removal of R129.
A fenced outcome: the orphan record, COMPLETE_UNREPORTED in place of the outcome for a write or FLUSH done in full (R78), and
ORPHANED on an UP path, the entry staying while that reply waits for room; it fits on the fenced outcome alone, the model's
choice, notes/assumptions/17.md, and so is that the orphan record is added at the report also where the reply waits,
notes/assumptions/54.md. An acknowledged write: POSTED_DONE or POSTED_LOST from a FENCED path; from any other, nothing
where it is done in full, and POSTED_LOST otherwise; POSTED_LOST sets DATA_LOSS. A cut entry: COMPLETE_UNREPORTED or LINK_CUT.
Any other: the end status. Where no report is due, no entry is removed and no orphan record added (R89, R90, R128, R129). -/
def Obligations.EntryReportedAndRemoved : Prop :=
  ∀ (s : State) (slot : Nat),
    ((∀ e, s.entry? slot = some e → s.reportDue e = false) →
      ∃ t, exec (.entryRemoval slot) s = .next t ∧ t.ift.map (fun x => x.slot) = s.ift.map (fun x => x.slot) ∧
        t.owc.orphans = s.owc.orphans ∧ SameBlock s t ∧ t.hmon = s.hmon ∧ t.adm = s.adm ∧ t.fnu = s.fnu) ∧
      ∀ e, TableInv s → s.entry? slot = some e → s.reportDue e = true →
        let done := match e.op with | .write => e.committed | .read => e.delivered | .flush => 0
        let full : Prop := match e.op with
          | .write => e.committed = e.count
          | .read => e.delivered = e.count
          | .flush => e.flushDone = true
        let record (outcome : Outcome) : OrphanRecord :=
          { origin := e.origin, tag := e.tag, op := e.op, start := e.start, count := e.count
            done := if e.op = .flush ∧ e.flushDone = true then 1 else done, epoch := e.epoch, outcome := outcome }
        let reply (status : Status) : OutFrame := .reply e.tag status (BitVec.ofNat 16 done) s.owc.epoch
        let f := s.pif.get e.origin
        ∃ t, exec (.entryRemoval slot) s = .next t ∧ SameBlock s t ∧ t.hmon = s.hmon ∧ t.adm = s.adm ∧
          let removedWith (outcome : Outcome) : Prop :=
            EntryRemoved slot s t ∧ OrphanAdded (record outcome) s t ∧
              (outcome = .postedLost → FlagInBoth .dataLoss t)
          (∀ given, e.fencedOutcome = some given →
            (e.op ≠ .read → full → OrphanAdded (record .completeUnreported) s t) ∧
              (e.op = .read ∨ ¬full → OrphanAdded (record given) s t) ∧
              (f.link = .up → Carries (t.pif.get e.origin) (reply .orphaned)) ∧
              (f.link = .down ∨ f.transmitCount + 3 ≤ 32 → EntryRemoved slot s t) ∧
              (f.link = .up → f.transmitCount = 32 → ∃ x, t.entry? slot = some x ∧ x.reported = true)) ∧
            (e.fencedOutcome = none → e.acked = true →
              (s.role e.origin = .fenced → (full → removedWith .postedDone) ∧ (¬full → removedWith .postedLost)) ∧
                (s.role e.origin ≠ .fenced →
                  (full → EntryRemoved slot s t ∧ t.owc.orphans = s.owc.orphans ∧ t.fnu = s.fnu) ∧
                    (¬full → removedWith .postedLost))) ∧
            (e.fencedOutcome = none → e.acked = false → e.cut = true →
              (full → removedWith .completeUnreported) ∧ (¬full → removedWith .linkCut)) ∧
            (∀ status, e.fencedOutcome = none → e.acked = false → e.cut = false → e.endStatus = some status →
              t.owc.orphans = s.owc.orphans ∧ t.fnu = s.fnu ∧
                (f.link = .up → Carries (t.pif.get e.origin) (reply status.status)) ∧
                (f.link = .down ∨ f.hasRoom = true → EntryRemoved slot s t) ∧
                (f.link = .up → f.hasRoom = false → ∃ x, t.entry? slot = some x ∧ x.reported = true))

/-! ## The drive -/

/-- PATH_SLOT_COMPLETION with a well-formed record for a segment: the slot is freed, the completion counted for its entry,
MEDIA_ERROR set at a MEDIA status, and what the event makes due concluded (R165, R166, R168). That MEDIA_ERROR is set before
IFT takes the completion, which R166 does not order, is the model's choice, notes/assumptions/51.md. A record that is not
well-formed halts the drive with cause VIOLATION; a record taken in RESETTING, FAILED, HALTED or ABSENT, or for another slot
while IDENTIFYING, is discarded (R165, R173, R174). -/
def Obligations.PathSlotRecordJudged : Prop :=
  (∀ (s : State) (slot entry offset length : Nat) (op : Op) (status : DriveStatus) (done : Word)
      (blocks : List (List Byte)), s.dpt.state = .ready →
      s.holderOf slot = some (.segment entry offset length op) → slot < s.dpt.slotCount → status ≠ .other →
      done.toNat ≤ (if op = .flush then 0 else length) →
      let cls : CompletionClass :=
        if status = .media then .media
        else if op = .flush then (if status = .good then .good else .partialDone)
        else if done.toNat = length then .good else .partialDone
      let freed : State := { s with dpt := { s.dpt with busy := s.dpt.busy.filter (fun b => b.slot != slot) } }
      ∃ t, exec (.pathSlotCompletion slot status done blocks) s = .next t ∧
        t = conclude s (takeCompletion entry slot offset length cls done.toNat blocks
          (if status = .media then raiseBoth .mediaError freed else freed)) ∧
        (status = .media → FlagInBoth .mediaError t) ∧ t.dpt.state = .ready ∧ SameBlock s t ∧ t.hmon = s.hmon) ∧
    ∀ (s : State) (slot : Nat) (status : DriveStatus) (done : Word) (blocks : List (List Byte)),
      (s.dpt.state = .ready →
        s.dpt.slotCount ≤ slot ∨ s.holderOf slot = none ∨ status = .other ∨
          (∃ h, s.holderOf slot = some h ∧ h.length < done.toNat) →
        ∃ t, exec (.pathSlotCompletion slot status done blocks) s = .next t ∧ DriveGivenUp .halted .violation s t) ∧
        (s.dpt.state = .resetting ∨ s.dpt.state = .failed ∨ s.dpt.state = .halted ∨ s.dpt.state = .absent →
          exec (.pathSlotCompletion slot status done blocks) s = .next s) ∧
        (s.dpt.state = .identifying → slot ≠ 0 → exec (.pathSlotCompletion slot status done blocks) s = .next s)

/-- What a completion counts for a RUNNING entry. A write: c rises by the blocks done and i falls by the undone, which return;
the last block ends it OK; a MEDIA status ends it MEDIA_ERROR with its blocks counted; without progress the reissue count
rises, and the fourth time it ends DRIVE_STALL (R117, R122 to R126). A write in ENDING counts in the same way, keeps its end
and returns nothing (R122, R123). A read: f rises by the blocks done, whose pages become FETCHED and hold what the drive gave,
and no other cell changes; the undone part returns to GRANTED, or at a MEDIA status is freed (R123, R125, R147). A FLUSH: GOOD
ends it OK, PARTIAL is without progress, MEDIA ends it MEDIA_ERROR (R122, R168). Returned ranges stay in offset order
(R115). -/
def Obligations.WriteCompletionCounted : Prop :=
  (∀ (s : State) (e : Entry) (k offset length done : Nat) (blocks : List (List Byte)), TableInv s → e ∈ s.ift →
    e.op = .write → done ≤ length → length ≤ e.issued → 0 < length → e.issued ≤ e.count → e.committed ≤ e.count →
    let after (cls : CompletionClass) (n : Nat) : Option Entry :=
      (takeCompletion e.slot k offset length cls n blocks s).entry? e.slot
    (∀ cls n x, RangesOrdered e → after cls n = some x → RangesOrdered x) ∧
    (e.phase = .running → e.endStatus = none →
      (∃ x, after .good length = some x ∧ x.committed = e.committed + length ∧ x.issued = e.issued ∧
        (e.committed + length = e.count → x.phase = .ending ∧ x.endStatus = some .ok) ∧
        (e.committed + length ≠ e.count → x.phase = .running ∧ x.returned = e.returned ∧ x.reissue = e.reissue)) ∧
        (0 < done → done < length →
          ∃ x, after .partialDone done = some x ∧ x.committed = e.committed + done ∧
            x.issued = e.issued - (length - done) ∧ x.phase = .running ∧ x.reissue = e.reissue ∧
            { offset := offset + done, length := length - done } ∈ x.returned) ∧
        (e.reissue < 3 →
          ∃ x, after .partialDone 0 = some x ∧ x.committed = e.committed ∧ x.issued = e.issued - length ∧
            x.phase = .running ∧ x.reissue = e.reissue + 1 ∧ { offset := offset, length := length } ∈ x.returned) ∧
        (e.reissue = 3 →
          ∃ x, after .partialDone 0 = some x ∧ x.phase = .ending ∧ x.endStatus = some .driveStall ∧ x.returned = [] ∧
            x.committed = e.committed) ∧
        (∃ x, after .media done = some x ∧ x.committed = e.committed + done ∧ x.issued = e.issued - (length - done) ∧
          x.phase = .ending ∧ x.endStatus = some .mediaError ∧ x.returned = [])) ∧
      (e.phase = .ending → ∀ status, e.endStatus = some status →
        (∃ x, after .good length = some x ∧ x.committed = e.committed + length ∧ x.issued = e.issued ∧
          x.phase = .ending ∧ x.endStatus = some status) ∧
          ∀ cls, cls ≠ .good →
            ∃ x, after cls done = some x ∧ x.committed = e.committed + done ∧ x.issued = e.issued - (length - done) ∧
              x.phase = .ending ∧ x.endStatus = some status ∧ x.returned = e.returned)) ∧
    (∀ (s : State) (e : Entry) (k offset length done : Nat) (blocks : List (List Byte)), TableInv s → PagesInv s →
      memoryWf s.mem = true → e ∈ s.ift → e.op = .read → e.phase = .running → e.endStatus = none → done ≤ length →
      length ≤ e.issued → 0 < length →
      (∀ r ∈ s.stb.pages, r.within e.slot offset length = true → r.state = .atDrive) →
      let after (cls : CompletionClass) (n : Nat) : State := takeCompletion e.slot k offset length cls n blocks s
      let fetches (t : State) (n : Nat) : Prop :=
        (∀ r ∈ s.stb.pages, r.within e.slot offset n = true →
          { r with state := .fetched } ∈ t.stb.pages) ∧
          (∀ i r b, i < n → s.pageAt e.slot (offset + i) = some r → blocks[i]? = some b → b.length = 4096 →
            readPage t.mem r.number = b) ∧
          ∀ a, (∀ i r, i < n → s.pageAt e.slot (offset + i) = some r →
              ¬(pageBase r.number ≤ a ∧ a < pageBase r.number + 4096)) → readByte t.mem a = readByte s.mem a
      let grants (t : State) (n : Nat) : Prop :=
        ∀ r ∈ s.stb.pages, r.within e.slot (offset + n) (length - n) = true → { r with state := .granted } ∈ t.stb.pages
      (∀ cls n x, RangesOrdered e → (after cls n).entry? e.slot = some x → RangesOrdered x) ∧
      (∃ x, (after .good length).entry? e.slot = some x ∧ x.fetched = e.fetched + length ∧ x.issued = e.issued ∧
        x.phase = .running ∧ x.returned = e.returned ∧ x.reissue = e.reissue ∧ fetches (after .good length) length) ∧
        (0 < done → done < length →
          ∃ x, (after .partialDone done).entry? e.slot = some x ∧ x.fetched = e.fetched + done ∧
            x.issued = e.issued - (length - done) ∧ x.phase = .running ∧ x.reissue = e.reissue ∧
            { offset := offset + done, length := length - done } ∈ x.returned ∧
            fetches (after .partialDone done) done ∧ grants (after .partialDone done) done) ∧
        (e.reissue < 3 →
          ∃ x, (after .partialDone 0).entry? e.slot = some x ∧ x.fetched = e.fetched ∧ x.issued = e.issued - length ∧
            x.phase = .running ∧ x.reissue = e.reissue + 1 ∧ { offset := offset, length := length } ∈ x.returned ∧
            grants (after .partialDone 0) 0 ∧ (after .partialDone 0).mem = s.mem) ∧
        (e.reissue = 3 →
          ∃ x, (after .partialDone 0).entry? e.slot = some x ∧ x.fetched = e.fetched ∧ x.phase = .ending ∧
            x.endStatus = some .driveStall ∧ x.returned = [] ∧ (after .partialDone 0).mem = s.mem) ∧
        (e.fencedOutcome = none → e.cut = false → s.role e.origin ≠ .fenced →
          ∃ x, (after .media done).entry? e.slot = some x ∧ x.fetched = e.fetched + done ∧
            x.issued = e.issued - (length - done) ∧ x.phase = .ending ∧ x.endStatus = some .mediaError ∧
            x.returned = [] ∧ fetches (after .media done) done ∧
            ∀ r ∈ (after .media done).stb.pages, r.within e.slot (offset + done) (length - done) = false)) ∧
    ∀ (s : State) (e : Entry) (k n : Nat), TableInv s → e ∈ s.ift → e.op = .flush → e.phase = .running →
      e.endStatus = none →
      let after (cls : CompletionClass) : Option Entry := (takeCompletion e.slot k 0 0 cls n [] s).entry? e.slot
      (∃ x, after .good = some x ∧ x.flushDone = true ∧ x.phase = .ending ∧ x.endStatus = some .ok) ∧
        (e.reissue < 3 →
          ∃ x, after .partialDone = some x ∧ x.phase = .running ∧ x.reissue = e.reissue + 1 ∧
            x.flushDone = e.flushDone) ∧
        (e.reissue = 3 →
          ∃ x, after .partialDone = some x ∧ x.phase = .ending ∧ x.endStatus = some .driveStall) ∧
        (∃ x, after .media = some x ∧ x.phase = .ending ∧ x.endStatus = some .mediaError ∧ x.flushDone = e.flushDone) ∧
        ∀ cls x, after cls = some x → ∀ g ∈ x.outstanding, g.driveSlot ≠ k

/-- RESERVED_SLOT_COMPLETION of a successful commit: the epoch and count written become current; for a purpose other than
POLICY the owner is set, and a history record with the drained path and the orphans added joins the history; for POLICY
the pending policy takes effect and no record is added (R54, R65, R66, R167). An OWNERSHIP notice goes to each UP path (R58), and
the commit's own reply, if owed, is produced: NOT_HEALTHY to a forced claimant that is not owner, OK otherwise (R54). That the
notice of a POLICY commit shows the record after OWC's answer to the health that its take-effect changes is the model's choice,
notes/assumptions/53.md. -/
def Obligations.CommitSucceeds : Prop :=
  ∀ (s : State) (status : DriveStatus) (block : List Byte) (attempt : Nat) (purpose : Purpose) (c : Contents),
    s.dpt.state = .ready → 2 ≤ s.dpt.slotCount → s.holderOf (s.dpt.slotCount - 1) = some (.blockOp .commit attempt) →
    status = .good ∨ status = .partialDone → s.owc.purpose = some purpose → s.owc.contents = some c →
    ∃ t, exec (.reservedSlotCompletion status 1#16 block) s = .next t ∧ t.owc.epoch = c.epoch ∧
      t.owc.commitCount = c.count ∧ t.adm = s.adm ∧
      (∀ r, s.owc.owedReplies.find? (fun r => r.purpose == purpose) = some r → s.linkUp r.path = true →
        Carries (t.pif.get r.path)
          (.reply r.tag (if purpose = .forced ∧ c.owner ≠ some r.path then .notHealthy else .ok) 0#16 c.epoch)) ∧
      (∀ r, r ∈ t.owc.owedReplies ↔ r ∈ s.owc.owedReplies ∧ r.purpose ≠ purpose) ∧
      (purpose ≠ .policy →
        t.owc.policy = s.owc.policy ∧ Notified c.owner c.epoch c.count s.owc.policy s t ∧
          (∀ cause, historyCause purpose = some cause →
            t.owc.history =
              ({ epoch := c.epoch, newOwner := c.owner, previousOwner := s.owc.drainedPath, cause := cause,
                 orphans := s.owc.orphansAdded.getD 0 } :: s.owc.history).take 8) ∧
          ((∀ p, c.owner = some p → (s.hmon.get p).health ≠ .lost) →
            t.owc.state = (if c.owner.isSome then .owned else .unowned) ∧ t.owc.owner = c.owner ∧
              t.owc.drainedPath = none ∧ t.owc.orphansAdded = none ∧ t.owc.successor = none ∧ t.hmon = s.hmon)) ∧
      (purpose = .policy → ∀ r, s.owc.pendingPolicy = some r →
        t.owc.policy = r ∧ t.owc.pendingPolicy = none ∧ t.owc.history = s.owc.history ∧
          ∀ p, s.linkUp p = true →
            Carries (t.pif.get p) (.ownershipNotice c.epoch t.owc.owner (t.role p) c.count))

/-- RESERVED_SLOT_COMPLETION of a load: a blank block gives UNOWNED with epoch 0, count 0, the default policy and a START
record; a valid one its own epoch, count and policy, and its owner where that path is not FENCED: OWNED where the owner is not
LOST or auto_takeover is clear, and for a LOST owner under auto_takeover GRACE, or with grace_ms = 0 the owner fenced and the
LOSS drain begun (R69, R73); any other content FROZEN with cause BLOCK_BAD, with epoch, count and policy unchanged (R59 to
R63, R66, R167). An OWNERSHIP notice of the record loaded goes to each UP path (R58). -/
def Obligations.LoadJudgesBlock : Prop :=
  ∀ (s : State) (status : DriveStatus) (block : List Byte) (attempt : Nat),
    s.dpt.state = .ready → 2 ≤ s.dpt.slotCount → s.holderOf (s.dpt.slotCount - 1) = some (.blockOp .load attempt) →
    status = .good ∨ status = .partialDone → s.owc.state = .loading → s.owc.history.length ≤ 8 →
    let judged := judgeBlock (fillPage s.mem Config.ownershipPage block)
    ∃ t, exec (.reservedSlotCompletion status 1#16 block) s = .next t ∧ t.adm = s.adm ∧
      (judged = .blank →
        t.owc.state = .unowned ∧ t.owc.owner = none ∧ t.owc.epoch = 0#16 ∧ t.owc.commitCount = 0#32 ∧
          t.owc.policy = defaultPolicy ∧ t.owc.attempt = 0 ∧ Notified none 0#16 0#32 defaultPolicy s t ∧
          t.owc.history = ({ epoch := 0#16, newOwner := none, previousOwner := none, cause := .start,
                             orphans := 0 } :: s.owc.history).take 8) ∧
      (∀ ownerByte epoch count record, judged = .valid ownerByte epoch count record →
        let force := (acceptPolicy s.reportedCapacity record).getD defaultPolicy
        t.owc.epoch = epoch ∧ t.owc.commitCount = count ∧ t.owc.policy = force ∧
          (∀ owner, (∀ p, owner = some p ↔ ownerByte = BitVec.ofNat 8 (pathCode (some p)) ∧ s.role p ≠ .fenced) →
            Notified owner epoch count force s t) ∧
          (∀ p, ownerByte = BitVec.ofNat 8 (pathCode (some p)) → s.role p ≠ .fenced →
            ((t.hmon.get p).health ≠ .lost ∨ autoTakeover force = false →
              t.owc.state = .owned ∧ t.owc.owner = some p ∧ t.owc.attempt = 0) ∧
              ((t.hmon.get p).health = .lost → autoTakeover force = true →
                (force.graceMs ≠ 0#16 → t.owc.state = .grace ∧ t.owc.owner = some p ∧
                  t.owc.graceTimer = some force.graceMs.toNat ∧ t.owc.attempt = 0) ∧
                  (force.graceMs = 0#16 → t.role p = .fenced ∧ t.owc.owner = none ∧
                    (t.owc.state = .draining ∧ t.owc.attempt = 0 ∨ t.owc.state = .committing) ∧
                    t.owc.drainCause = some .loss ∧ t.owc.drainedPath = some p))) ∧
          (∀ p, ownerByte = BitVec.ofNat 8 (pathCode (some p)) → s.role p = .fenced →
            t.owc.state = .unowned ∧ t.owc.owner = none ∧ t.owc.attempt = 0) ∧
          (ownerByte ≠ 1#8 → ownerByte ≠ 2#8 →
            t.owc.state = .unowned ∧ t.owc.owner = none ∧ t.owc.attempt = 0)) ∧
      (judged = .bad →
        t.owc.state = .frozen ∧ t.owc.frozenCause = some .blockBad ∧ t.owc.owner = none ∧ SameBlock s t ∧
          t.owc.attempt = 0 ∧ FlagInBoth .blockBad t ∧ FlagInBoth .frozen t ∧
          Notified none s.owc.epoch s.owc.commitCount s.owc.policy s t)

/-- RESERVED_SLOT_COMPLETION of a failed attempt: the first and second are asked again and change nothing of the record;
the third ends a commit in FROZEN with cause COMMIT_FAILED and a load in FROZEN with cause BLOCK_BAD (R55, R56, R60,
R63, R167). Either sends an OWNERSHIP notice to each UP path, and the commit answers every waiting reply, its own with
COMMIT_FAILED and every other with FROZEN (R58, R63). -/
def Obligations.FailedAttemptsAskAgain : Prop :=
  ∀ (s : State) (status : DriveStatus) (done : Word) (block : List Byte) (op : BlockOp) (attempt : Nat), DriveInv s →
    s.dpt.state = .ready → s.holderOf (s.dpt.slotCount - 1) = some (.blockOp op attempt) →
    (status = .media ∧ done.toNat ≤ 1) ∨ ((status = .good ∨ status = .partialDone) ∧ done = 0#16) →
    (op = .load → s.owc.state = .loading ∧ 0 < s.owc.attempt) →
    (op = .commit → s.owc.contents.isSome = true ∧ s.owc.state ≠ .frozen) →
    ∃ t, exec (.reservedSlotCompletion status done block) s = .next t ∧ SameBlock s t ∧
      (status = .media → FlagInBoth .mediaError t) ∧
      (s.owc.attempt < 3 →
        t.owc = { s.owc with attempt := s.owc.attempt + 1 } ∧ t.hmon = s.hmon ∧ t.ift = s.ift ∧ t.mem = s.mem ∧
          ∃ timer, { slot := s.dpt.slotCount - 1, holder := .blockOp op (s.owc.attempt + 1), timer := timer } ∈
            t.dpt.busy) ∧
      (3 ≤ s.owc.attempt →
        t.owc.state = .frozen ∧ t.owc.owner = none ∧ t.owc.attempt = 0 ∧ FlagInBoth .frozen t ∧
          Notified none s.owc.epoch s.owc.commitCount s.owc.policy s t ∧
          (op = .commit → t.owc.frozenCause = some .commitFailed ∧ t.owc.history = s.owc.history ∧ FrozenAnswered s t) ∧
          (op = .load → t.owc.frozenCause = some .blockBad ∧ FlagInBoth .blockBad t))

/-- IDENTIFY_COMPLETION with identify results: a suitable drive that is the one held, or is judged for suitability alone,
is READY with its slots laid out; an unsuitable one is FAILED UNSUITED and a changed one FAILED CHANGED (R158, R159, R160).
At READY OWC begins the load in LOADING with no attempt begun, goes from FROZEN with cause DRIVE to LOADING and begins it, and
otherwise keeps its record while a request that waits is issued in the reserved slot (R59, R64, R164). -/
def Obligations.IdentifyResultsJudged : Prop :=
  ∀ (s : State) (done : Word) (capacity : Lba) (blockSize depth : Nat), s.dpt.state = .identifying →
    let suitable := blockSize = 4096 ∧ 16 ≤ capacity.toNat ∧ 2 ≤ depth
    let same := s.dpt.referenceMark = true → ∀ held, s.dpt.identity = some held →
      held.capacity = capacity.toNat ∧ held.blockSize = blockSize
    ∃ t, exec (.identifyCompletion .good done capacity blockSize depth) s = .next t ∧ SameBlock s t ∧
      (suitable → same →
        t.dpt.state = .ready ∧ t.dpt.cause = .none ∧
          t.dpt.identity = some { capacity := capacity.toNat, blockSize := blockSize, depth := min depth 32 } ∧
          t.dpt.referenceMark = true ∧ t.dpt.slotCount = min 8 depth ∧ t.dpt.identifyFailures = 0 ∧
          t.reportedCapacity + 8 = capacity.toNat ∧ t.hmon = s.hmon ∧ t.adm = s.adm ∧
          let issues (op : BlockOp) (attempt : Nat) : Prop :=
            { slot := t.dpt.slotCount - 1, holder := .blockOp op attempt
              timer := s.owc.policy.driveTimeoutMs.toNat } ∈ t.dpt.busy ∧ t.dpt.request = none ∧
              (match op with
               | .load => .read (t.dpt.slotCount - 1) t.reportedCapacity 1 [255]
               | .commit => .write (t.dpt.slotCount - 1) t.reportedCapacity 1 [255]) ∈ t.dpt.requests
          let loads := s.owc.state = .loading ∧ s.owc.attempt = 0
          let returns := s.owc.state = .frozen ∧ s.owc.frozenCause = some .drive
          (loads → t.owc = { s.owc with attempt := 1 } ∧ issues .load 1) ∧
            (returns → t.owc.state = .loading ∧ t.owc.attempt = 1 ∧ t.owc.owner = none ∧ t.owc.frozenCause = none ∧
              t.owc.contents = none ∧ t.owc.history = s.owc.history ∧ t.owc.orphans = s.owc.orphans ∧
              (∀ q, s.role q = .fenced → t.role q = .fenced) ∧ issues .load 1) ∧
            (¬loads → ¬returns → t.owc = s.owc ∧ ∀ op, s.dpt.request = some op → issues op s.owc.attempt)) ∧
      (¬suitable → DriveGivenUp .failed .unsuited s t) ∧
      (suitable → ¬same → DriveGivenUp .failed .changed s t)

/-- A failed identify attempt: the first and second are followed by another IDENTIFY, after a timeout by way of a drive
reset, and the third gives the drive up as NO_IDENTIFY: IDENTIFY_COMPLETION with PARTIAL or MEDIA, and IDENTIFY_TIMEOUT
(R158). -/
def Obligations.IdentifyAttemptsFail : Prop :=
  ∀ (s : State) (status : DriveStatus) (done : Word) (capacity : Lba) (blockSize depth : Nat),
    s.dpt.state = .identifying →
    (status = .partialDone ∨ status = .media →
      ∃ t, exec (.identifyCompletion status done capacity blockSize depth) s = .next t ∧
        (s.dpt.identifyFailures < 2 →
          t = { s with
            dpt := { s.dpt with
              busy := [{ slot := 0, holder := .identify, timer := s.owc.policy.driveTimeoutMs.toNat }]
              requests := s.dpt.requests ++ [.identify], identifyFailures := s.dpt.identifyFailures + 1 } }) ∧
        (2 ≤ s.dpt.identifyFailures → DriveGivenUp .failed .noIdentify s t)) ∧
      (s.slotBusy 0 = true →
        ∃ t, exec .identifyTimeout s = .next t ∧ t.dpt.identifyFailures = s.dpt.identifyFailures + 1 ∧
          (s.dpt.identifyFailures < 2 → ResetBegun s t) ∧
          (2 ≤ s.dpt.identifyFailures → DriveGivenUp .failed .noIdentify s t))

/-- SLOT_TIMEOUT of a busy slot with the drive READY begins a drive reset; READY_INDICATION in RESETTING stops the reset
timer and begins an identify attempt, the failure counter kept, and is discarded in any other state (R158, R169, R170,
R172). SLOT_TIMEOUT of a slot that is not busy changes nothing: the model's choice, notes/assumptions/7.md. -/
def Obligations.TimeoutResetsDrive : Prop :=
  ∀ (s : State) (slot : Nat),
    (s.dpt.state = .ready → s.slotBusy slot = true →
      ∃ t, exec (.slotTimeout slot) s = .next t ∧ ResetBegun s t ∧ t.adm = s.adm) ∧
      (s.dpt.state = .ready → s.slotBusy slot = false → exec (.slotTimeout slot) s = .next s) ∧
      (s.dpt.state = .resetting →
        exec .readyIndication s =
          .next { s with
            dpt := { s.dpt with
              state := .identifying, resetTimer := none
              busy := [{ slot := 0, holder := .identify, timer := s.owc.policy.driveTimeoutMs.toNat }]
              requests := s.dpt.requests ++ [.identify] } }) ∧
      (s.dpt.state ≠ .resetting → exec .readyIndication s = .next s)

/-- The ends of the drive: RESET_TIMEOUT in RESETTING gives it up as NO_READY; DRV_PRESENT_FALL makes it ABSENT with the
reference mark cleared; DRV_PRESENT_RISE in ABSENT begins an identify attempt with the failure counter at 0 (R172, R174,
R175). RESET_TIMEOUT in another state, DRV_PRESENT_FALL in ABSENT and DRV_PRESENT_RISE outside it change nothing but the
level of the pin: the model's choice, notes/assumptions/7.md. -/
def Obligations.DriveLostAndReturned : Prop :=
  ∀ s : State,
    (s.dpt.state = .resetting → s.dpt.resetTimer.isSome = true →
      ∃ t, exec .resetTimeout s = .next t ∧ DriveGivenUp .failed .noReady s t) ∧
      (s.dpt.state ≠ .resetting → exec .resetTimeout s = .next s) ∧
      (s.dpt.state ≠ .absent →
        ∃ t, exec .drvPresentFall s = .next t ∧ DriveGivenUp .absent .none s t ∧ t.dpt.present = false ∧
          t.dpt.referenceMark = false) ∧
      (s.dpt.state = .absent →
        exec .drvPresentFall s = .next { s with dpt := { s.dpt with present := false } } ∧
          exec .drvPresentRise s =
            .next { s with
              dpt := { s.dpt with
                present := true, state := .identifying, cause := .none, identifyFailures := 0
                busy := [{ slot := 0, holder := .identify, timer := s.owc.policy.driveTimeoutMs.toNat }]
                requests := s.dpt.requests ++ [.identify] } }) ∧
      (s.dpt.state ≠ .absent → exec .drvPresentRise s = .next { s with dpt := { s.dpt with present := true } })
end

