-- ==== Sys2Proof/Laws/Both.lean ====
section
/-! SUPPORT. A value per path: what is read after a write. -/

namespace Sys2Proof

@[simp] theorem Path.other_other (p : Path) : p.other.other = p := by
  cases p <;> rfl

@[simp] theorem Path.other_ne (p : Path) : p.other ≠ p := by
  cases p <;> decide

@[simp] theorem Path.ne_other (p : Path) : p ≠ p.other := by
  cases p <;> decide

theorem Path.eq_other_of_ne {p q : Path} (h : q ≠ p) : q = p.other := by
  cases p <;> cases q <;> simp_all [Path.other]

end Sys2Proof

namespace Sys2Proof.Machine

theorem Both.get_set {α : Type} (x : Both α) (p q : Path) (v : α) :
    (x.set p v).get q = if q = p then v else x.get q := by
  cases p <;> cases q <;> rfl

@[simp] theorem Both.get_set_same {α : Type} (x : Both α) (p : Path) (v : α) : (x.set p v).get p = v := by
  cases p <;> rfl

@[simp] theorem Both.get_set_other {α : Type} (x : Both α) (p : Path) (v : α) :
    (x.set p v).get p.other = x.get p.other := by
  cases p <;> rfl

theorem Both.get_set_ne {α : Type} {p q : Path} (x : Both α) (v : α) (h : q ≠ p) : (x.set p v).get q = x.get q := by
  rw [Both.get_set, if_neg h]

theorem Both.ext_get {α : Type} {x y : Both α} (h : ∀ p, x.get p = y.get p) : x = y := by
  have ha := h .a
  have hb := h .b
  cases x
  cases y
  simp_all [Both.get]

end Sys2Proof.Machine
end

