-- ==== Sys2Proof/Laws/State.lean ====
section
/-! SUPPORT. The fields of a state after each update of one part of it: what the update writes, and the fields it leaves
as they are. -/

namespace Sys2Proof.Machine

/-! ### `State.onPif` -/

theorem State.onPif_pif (p : Path) (f : Pif → Pif) (s : State) : (s.onPif p f).pif = s.pif.set p (f (s.pif.get p)) := rfl
@[simp] theorem State.onPif_hmon (p : Path) (f : Pif → Pif) (s : State) : (s.onPif p f).hmon = s.hmon := rfl
@[simp] theorem State.onPif_owc (p : Path) (f : Pif → Pif) (s : State) : (s.onPif p f).owc = s.owc := rfl
@[simp] theorem State.onPif_adm (p : Path) (f : Pif → Pif) (s : State) : (s.onPif p f).adm = s.adm := rfl
@[simp] theorem State.onPif_ift (p : Path) (f : Pif → Pif) (s : State) : (s.onPif p f).ift = s.ift := rfl
@[simp] theorem State.onPif_stb (p : Path) (f : Pif → Pif) (s : State) : (s.onPif p f).stb = s.stb := rfl
@[simp] theorem State.onPif_mem (p : Path) (f : Pif → Pif) (s : State) : (s.onPif p f).mem = s.mem := rfl
@[simp] theorem State.onPif_dpt (p : Path) (f : Pif → Pif) (s : State) : (s.onPif p f).dpt = s.dpt := rfl
@[simp] theorem State.onPif_fnu (p : Path) (f : Pif → Pif) (s : State) : (s.onPif p f).fnu = s.fnu := rfl
@[simp] theorem State.onPif_pending (p : Path) (f : Pif → Pif) (s : State) : (s.onPif p f).pending = s.pending := rfl

/-! ### `State.onHmon` -/

@[simp] theorem State.onHmon_pif (p : Path) (f : Hmon → Hmon) (s : State) : (s.onHmon p f).pif = s.pif := rfl
theorem State.onHmon_hmon (p : Path) (f : Hmon → Hmon) (s : State) : (s.onHmon p f).hmon = s.hmon.set p (f (s.hmon.get p)) := rfl
@[simp] theorem State.onHmon_owc (p : Path) (f : Hmon → Hmon) (s : State) : (s.onHmon p f).owc = s.owc := rfl
@[simp] theorem State.onHmon_adm (p : Path) (f : Hmon → Hmon) (s : State) : (s.onHmon p f).adm = s.adm := rfl
@[simp] theorem State.onHmon_ift (p : Path) (f : Hmon → Hmon) (s : State) : (s.onHmon p f).ift = s.ift := rfl
@[simp] theorem State.onHmon_stb (p : Path) (f : Hmon → Hmon) (s : State) : (s.onHmon p f).stb = s.stb := rfl
@[simp] theorem State.onHmon_mem (p : Path) (f : Hmon → Hmon) (s : State) : (s.onHmon p f).mem = s.mem := rfl
@[simp] theorem State.onHmon_dpt (p : Path) (f : Hmon → Hmon) (s : State) : (s.onHmon p f).dpt = s.dpt := rfl
@[simp] theorem State.onHmon_fnu (p : Path) (f : Hmon → Hmon) (s : State) : (s.onHmon p f).fnu = s.fnu := rfl
@[simp] theorem State.onHmon_pending (p : Path) (f : Hmon → Hmon) (s : State) : (s.onHmon p f).pending = s.pending := rfl

/-! ### `State.onEntry` -/

@[simp] theorem State.onEntry_pif (slot : Nat) (f : Entry → Entry) (s : State) : (s.onEntry slot f).pif = s.pif := rfl
@[simp] theorem State.onEntry_hmon (slot : Nat) (f : Entry → Entry) (s : State) : (s.onEntry slot f).hmon = s.hmon := rfl
@[simp] theorem State.onEntry_owc (slot : Nat) (f : Entry → Entry) (s : State) : (s.onEntry slot f).owc = s.owc := rfl
@[simp] theorem State.onEntry_adm (slot : Nat) (f : Entry → Entry) (s : State) : (s.onEntry slot f).adm = s.adm := rfl
theorem State.onEntry_ift (slot : Nat) (f : Entry → Entry) (s : State) : (s.onEntry slot f).ift = s.ift.map (fun e => if e.slot = slot then f e else e) := rfl
@[simp] theorem State.onEntry_stb (slot : Nat) (f : Entry → Entry) (s : State) : (s.onEntry slot f).stb = s.stb := rfl
@[simp] theorem State.onEntry_mem (slot : Nat) (f : Entry → Entry) (s : State) : (s.onEntry slot f).mem = s.mem := rfl
@[simp] theorem State.onEntry_dpt (slot : Nat) (f : Entry → Entry) (s : State) : (s.onEntry slot f).dpt = s.dpt := rfl
@[simp] theorem State.onEntry_fnu (slot : Nat) (f : Entry → Entry) (s : State) : (s.onEntry slot f).fnu = s.fnu := rfl
@[simp] theorem State.onEntry_pending (slot : Nat) (f : Entry → Entry) (s : State) : (s.onEntry slot f).pending = s.pending := rfl

/-! ### `State.allocate` -/

@[simp] theorem State.allocate_pif (r : PageRecord) (s : State) : (s.allocate r).pif = s.pif := rfl
@[simp] theorem State.allocate_hmon (r : PageRecord) (s : State) : (s.allocate r).hmon = s.hmon := rfl
@[simp] theorem State.allocate_owc (r : PageRecord) (s : State) : (s.allocate r).owc = s.owc := rfl
@[simp] theorem State.allocate_adm (r : PageRecord) (s : State) : (s.allocate r).adm = s.adm := rfl
@[simp] theorem State.allocate_ift (r : PageRecord) (s : State) : (s.allocate r).ift = s.ift := rfl
theorem State.allocate_stb (r : PageRecord) (s : State) : (s.allocate r).stb = { s.stb with pages := insertPage r s.stb.pages } := rfl
@[simp] theorem State.allocate_mem (r : PageRecord) (s : State) : (s.allocate r).mem = s.mem := rfl
@[simp] theorem State.allocate_dpt (r : PageRecord) (s : State) : (s.allocate r).dpt = s.dpt := rfl
@[simp] theorem State.allocate_fnu (r : PageRecord) (s : State) : (s.allocate r).fnu = s.fnu := rfl
@[simp] theorem State.allocate_pending (r : PageRecord) (s : State) : (s.allocate r).pending = s.pending := rfl

/-! ### `State.freeWhere` -/

@[simp] theorem State.freeWhere_pif (test : PageRecord → Bool) (s : State) : (s.freeWhere test).pif = s.pif := rfl
@[simp] theorem State.freeWhere_hmon (test : PageRecord → Bool) (s : State) : (s.freeWhere test).hmon = s.hmon := rfl
@[simp] theorem State.freeWhere_owc (test : PageRecord → Bool) (s : State) : (s.freeWhere test).owc = s.owc := rfl
@[simp] theorem State.freeWhere_adm (test : PageRecord → Bool) (s : State) : (s.freeWhere test).adm = s.adm := rfl
@[simp] theorem State.freeWhere_ift (test : PageRecord → Bool) (s : State) : (s.freeWhere test).ift = s.ift := rfl
theorem State.freeWhere_stb (test : PageRecord → Bool) (s : State) : (s.freeWhere test).stb = { s.stb with pages := s.stb.pages.filter (fun r => !test r) } := rfl
@[simp] theorem State.freeWhere_mem (test : PageRecord → Bool) (s : State) : (s.freeWhere test).mem = s.mem := rfl
@[simp] theorem State.freeWhere_dpt (test : PageRecord → Bool) (s : State) : (s.freeWhere test).dpt = s.dpt := rfl
@[simp] theorem State.freeWhere_fnu (test : PageRecord → Bool) (s : State) : (s.freeWhere test).fnu = s.fnu := rfl
@[simp] theorem State.freeWhere_pending (test : PageRecord → Bool) (s : State) : (s.freeWhere test).pending = s.pending := rfl

/-! ### `State.markPages` -/

@[simp] theorem State.markPages_pif (slot offset length : Nat) (st : PageState) (s : State) : (s.markPages slot offset length st).pif = s.pif := rfl
@[simp] theorem State.markPages_hmon (slot offset length : Nat) (st : PageState) (s : State) : (s.markPages slot offset length st).hmon = s.hmon := rfl
@[simp] theorem State.markPages_owc (slot offset length : Nat) (st : PageState) (s : State) : (s.markPages slot offset length st).owc = s.owc := rfl
@[simp] theorem State.markPages_adm (slot offset length : Nat) (st : PageState) (s : State) : (s.markPages slot offset length st).adm = s.adm := rfl
@[simp] theorem State.markPages_ift (slot offset length : Nat) (st : PageState) (s : State) : (s.markPages slot offset length st).ift = s.ift := rfl
@[simp] theorem State.markPages_mem (slot offset length : Nat) (st : PageState) (s : State) : (s.markPages slot offset length st).mem = s.mem := rfl
@[simp] theorem State.markPages_dpt (slot offset length : Nat) (st : PageState) (s : State) : (s.markPages slot offset length st).dpt = s.dpt := rfl
@[simp] theorem State.markPages_fnu (slot offset length : Nat) (st : PageState) (s : State) : (s.markPages slot offset length st).fnu = s.fnu := rfl
@[simp] theorem State.markPages_pending (slot offset length : Nat) (st : PageState) (s : State) : (s.markPages slot offset length st).pending = s.pending := rfl

/-! ### `withdrawRequest` -/

@[simp] theorem withdrawRequest_pif (slot : Nat) (s : State) : (withdrawRequest slot s).pif = s.pif := rfl
@[simp] theorem withdrawRequest_hmon (slot : Nat) (s : State) : (withdrawRequest slot s).hmon = s.hmon := rfl
@[simp] theorem withdrawRequest_owc (slot : Nat) (s : State) : (withdrawRequest slot s).owc = s.owc := rfl
@[simp] theorem withdrawRequest_adm (slot : Nat) (s : State) : (withdrawRequest slot s).adm = s.adm := rfl
@[simp] theorem withdrawRequest_ift (slot : Nat) (s : State) : (withdrawRequest slot s).ift = s.ift := rfl
theorem withdrawRequest_stb (slot : Nat) (s : State) : (withdrawRequest slot s).stb = { s.stb with grants := s.stb.grants.filter (fun g => !(g.slot == slot)) } := rfl
@[simp] theorem withdrawRequest_mem (slot : Nat) (s : State) : (withdrawRequest slot s).mem = s.mem := rfl
@[simp] theorem withdrawRequest_dpt (slot : Nat) (s : State) : (withdrawRequest slot s).dpt = s.dpt := rfl
@[simp] theorem withdrawRequest_fnu (slot : Nat) (s : State) : (withdrawRequest slot s).fnu = s.fnu := rfl
@[simp] theorem withdrawRequest_pending (slot : Nat) (s : State) : (withdrawRequest slot s).pending = s.pending := rfl

/-! ### `State.freeSlot` -/

@[simp] theorem State.freeSlot_pif (slot : Nat) (s : State) : (s.freeSlot slot).pif = s.pif := rfl
@[simp] theorem State.freeSlot_hmon (slot : Nat) (s : State) : (s.freeSlot slot).hmon = s.hmon := rfl
@[simp] theorem State.freeSlot_owc (slot : Nat) (s : State) : (s.freeSlot slot).owc = s.owc := rfl
@[simp] theorem State.freeSlot_adm (slot : Nat) (s : State) : (s.freeSlot slot).adm = s.adm := rfl
@[simp] theorem State.freeSlot_ift (slot : Nat) (s : State) : (s.freeSlot slot).ift = s.ift := rfl
@[simp] theorem State.freeSlot_stb (slot : Nat) (s : State) : (s.freeSlot slot).stb = s.stb := rfl
@[simp] theorem State.freeSlot_mem (slot : Nat) (s : State) : (s.freeSlot slot).mem = s.mem := rfl
theorem State.freeSlot_dpt (slot : Nat) (s : State) : (s.freeSlot slot).dpt = { s.dpt with busy := s.dpt.busy.filter (fun b => !(b.slot == slot)) } := rfl
@[simp] theorem State.freeSlot_fnu (slot : Nat) (s : State) : (s.freeSlot slot).fnu = s.fnu := rfl
@[simp] theorem State.freeSlot_pending (slot : Nat) (s : State) : (s.freeSlot slot).pending = s.pending := rfl

/-! ### `State.takeSlot` -/

@[simp] theorem State.takeSlot_pif (slot : Nat) (holder : Holder) (request : DriveRequest) (s : State) : (s.takeSlot slot holder request).pif = s.pif := rfl
@[simp] theorem State.takeSlot_hmon (slot : Nat) (holder : Holder) (request : DriveRequest) (s : State) : (s.takeSlot slot holder request).hmon = s.hmon := rfl
@[simp] theorem State.takeSlot_owc (slot : Nat) (holder : Holder) (request : DriveRequest) (s : State) : (s.takeSlot slot holder request).owc = s.owc := rfl
@[simp] theorem State.takeSlot_adm (slot : Nat) (holder : Holder) (request : DriveRequest) (s : State) : (s.takeSlot slot holder request).adm = s.adm := rfl
@[simp] theorem State.takeSlot_ift (slot : Nat) (holder : Holder) (request : DriveRequest) (s : State) : (s.takeSlot slot holder request).ift = s.ift := rfl
@[simp] theorem State.takeSlot_stb (slot : Nat) (holder : Holder) (request : DriveRequest) (s : State) : (s.takeSlot slot holder request).stb = s.stb := rfl
@[simp] theorem State.takeSlot_mem (slot : Nat) (holder : Holder) (request : DriveRequest) (s : State) : (s.takeSlot slot holder request).mem = s.mem := rfl
@[simp] theorem State.takeSlot_fnu (slot : Nat) (holder : Holder) (request : DriveRequest) (s : State) : (s.takeSlot slot holder request).fnu = s.fnu := rfl
@[simp] theorem State.takeSlot_pending (slot : Nat) (holder : Holder) (request : DriveRequest) (s : State) : (s.takeSlot slot holder request).pending = s.pending := rfl

/-! ### `refreshRoles` -/

@[simp] theorem refreshRoles_pif (s : State) : (refreshRoles s).pif = s.pif := rfl
@[simp] theorem refreshRoles_hmon (s : State) : (refreshRoles s).hmon = s.hmon := rfl
theorem refreshRoles_owc (s : State) : (refreshRoles s).owc = { s.owc with roles := { a := roleFor s.owc .a, b := roleFor s.owc .b } } := rfl
@[simp] theorem refreshRoles_adm (s : State) : (refreshRoles s).adm = s.adm := rfl
@[simp] theorem refreshRoles_ift (s : State) : (refreshRoles s).ift = s.ift := rfl
@[simp] theorem refreshRoles_stb (s : State) : (refreshRoles s).stb = s.stb := rfl
@[simp] theorem refreshRoles_mem (s : State) : (refreshRoles s).mem = s.mem := rfl
@[simp] theorem refreshRoles_dpt (s : State) : (refreshRoles s).dpt = s.dpt := rfl
@[simp] theorem refreshRoles_fnu (s : State) : (refreshRoles s).fnu = s.fnu := rfl
@[simp] theorem refreshRoles_pending (s : State) : (refreshRoles s).pending = s.pending := rfl

/-! ### `setRole` -/

@[simp] theorem setRole_pif (p : Path) (r : Role) (s : State) : (setRole p r s).pif = s.pif := rfl
@[simp] theorem setRole_hmon (p : Path) (r : Role) (s : State) : (setRole p r s).hmon = s.hmon := rfl
theorem setRole_owc (p : Path) (r : Role) (s : State) : (setRole p r s).owc = { s.owc with roles := s.owc.roles.set p r } := rfl
@[simp] theorem setRole_adm (p : Path) (r : Role) (s : State) : (setRole p r s).adm = s.adm := rfl
@[simp] theorem setRole_ift (p : Path) (r : Role) (s : State) : (setRole p r s).ift = s.ift := rfl
@[simp] theorem setRole_stb (p : Path) (r : Role) (s : State) : (setRole p r s).stb = s.stb := rfl
@[simp] theorem setRole_mem (p : Path) (r : Role) (s : State) : (setRole p r s).mem = s.mem := rfl
@[simp] theorem setRole_dpt (p : Path) (r : Role) (s : State) : (setRole p r s).dpt = s.dpt := rfl
@[simp] theorem setRole_fnu (p : Path) (r : Role) (s : State) : (setRole p r s).fnu = s.fnu := rfl
@[simp] theorem setRole_pending (p : Path) (r : Role) (s : State) : (setRole p r s).pending = s.pending := rfl

/-! ### `oweReply` -/

@[simp] theorem oweReply_pif (p : Path) (tag : Word) (purpose : Purpose) (s : State) : (oweReply p tag purpose s).pif = s.pif := rfl
@[simp] theorem oweReply_hmon (p : Path) (tag : Word) (purpose : Purpose) (s : State) : (oweReply p tag purpose s).hmon = s.hmon := rfl
@[simp] theorem oweReply_adm (p : Path) (tag : Word) (purpose : Purpose) (s : State) : (oweReply p tag purpose s).adm = s.adm := rfl
@[simp] theorem oweReply_ift (p : Path) (tag : Word) (purpose : Purpose) (s : State) : (oweReply p tag purpose s).ift = s.ift := rfl
@[simp] theorem oweReply_stb (p : Path) (tag : Word) (purpose : Purpose) (s : State) : (oweReply p tag purpose s).stb = s.stb := rfl
@[simp] theorem oweReply_mem (p : Path) (tag : Word) (purpose : Purpose) (s : State) : (oweReply p tag purpose s).mem = s.mem := rfl
@[simp] theorem oweReply_dpt (p : Path) (tag : Word) (purpose : Purpose) (s : State) : (oweReply p tag purpose s).dpt = s.dpt := rfl
@[simp] theorem oweReply_fnu (p : Path) (tag : Word) (purpose : Purpose) (s : State) : (oweReply p tag purpose s).fnu = s.fnu := rfl
@[simp] theorem oweReply_pending (p : Path) (tag : Word) (purpose : Purpose) (s : State) : (oweReply p tag purpose s).pending = s.pending := rfl

/-! ### `addHistory` -/

@[simp] theorem addHistory_pif (r : HistoryRecord) (s : State) : (addHistory r s).pif = s.pif := rfl
@[simp] theorem addHistory_hmon (r : HistoryRecord) (s : State) : (addHistory r s).hmon = s.hmon := rfl
theorem addHistory_owc (r : HistoryRecord) (s : State) : (addHistory r s).owc = { s.owc with history := (r :: s.owc.history).take Config.historyDepth } := rfl
@[simp] theorem addHistory_adm (r : HistoryRecord) (s : State) : (addHistory r s).adm = s.adm := rfl
@[simp] theorem addHistory_ift (r : HistoryRecord) (s : State) : (addHistory r s).ift = s.ift := rfl
@[simp] theorem addHistory_stb (r : HistoryRecord) (s : State) : (addHistory r s).stb = s.stb := rfl
@[simp] theorem addHistory_mem (r : HistoryRecord) (s : State) : (addHistory r s).mem = s.mem := rfl
@[simp] theorem addHistory_dpt (r : HistoryRecord) (s : State) : (addHistory r s).dpt = s.dpt := rfl
@[simp] theorem addHistory_fnu (r : HistoryRecord) (s : State) : (addHistory r s).fnu = s.fnu := rfl
@[simp] theorem addHistory_pending (r : HistoryRecord) (s : State) : (addHistory r s).pending = s.pending := rfl

/-! ### `startDrainTimer` -/

@[simp] theorem startDrainTimer_pif (s : State) : (startDrainTimer s).pif = s.pif := rfl
@[simp] theorem startDrainTimer_hmon (s : State) : (startDrainTimer s).hmon = s.hmon := rfl
theorem startDrainTimer_owc (s : State) : (startDrainTimer s).owc = { s.owc with drainTimer := some s.owc.policy.drainMs.toNat } := rfl
@[simp] theorem startDrainTimer_adm (s : State) : (startDrainTimer s).adm = s.adm := rfl
@[simp] theorem startDrainTimer_ift (s : State) : (startDrainTimer s).ift = s.ift := rfl
@[simp] theorem startDrainTimer_stb (s : State) : (startDrainTimer s).stb = s.stb := rfl
@[simp] theorem startDrainTimer_mem (s : State) : (startDrainTimer s).mem = s.mem := rfl
@[simp] theorem startDrainTimer_dpt (s : State) : (startDrainTimer s).dpt = s.dpt := rfl
@[simp] theorem startDrainTimer_fnu (s : State) : (startDrainTimer s).fnu = s.fnu := rfl
@[simp] theorem startDrainTimer_pending (s : State) : (startDrainTimer s).pending = s.pending := rfl

/-! ### `detachPage` -/

@[simp] theorem detachPage_pif (page : Nat) (s : State) : (detachPage page s).pif = s.pif := rfl
@[simp] theorem detachPage_hmon (page : Nat) (s : State) : (detachPage page s).hmon = s.hmon := rfl
@[simp] theorem detachPage_owc (page : Nat) (s : State) : (detachPage page s).owc = s.owc := rfl
@[simp] theorem detachPage_adm (page : Nat) (s : State) : (detachPage page s).adm = s.adm := rfl
@[simp] theorem detachPage_ift (page : Nat) (s : State) : (detachPage page s).ift = s.ift := rfl
@[simp] theorem detachPage_mem (page : Nat) (s : State) : (detachPage page s).mem = s.mem := rfl
@[simp] theorem detachPage_dpt (page : Nat) (s : State) : (detachPage page s).dpt = s.dpt := rfl
@[simp] theorem detachPage_fnu (page : Nat) (s : State) : (detachPage page s).fnu = s.fnu := rfl
@[simp] theorem detachPage_pending (page : Nat) (s : State) : (detachPage page s).pending = s.pending := rfl

/-! ### `countIdentifyFailure` -/

@[simp] theorem countIdentifyFailure_pif (s : State) : (countIdentifyFailure s).pif = s.pif := rfl
@[simp] theorem countIdentifyFailure_hmon (s : State) : (countIdentifyFailure s).hmon = s.hmon := rfl
@[simp] theorem countIdentifyFailure_owc (s : State) : (countIdentifyFailure s).owc = s.owc := rfl
@[simp] theorem countIdentifyFailure_adm (s : State) : (countIdentifyFailure s).adm = s.adm := rfl
@[simp] theorem countIdentifyFailure_ift (s : State) : (countIdentifyFailure s).ift = s.ift := rfl
@[simp] theorem countIdentifyFailure_stb (s : State) : (countIdentifyFailure s).stb = s.stb := rfl
@[simp] theorem countIdentifyFailure_mem (s : State) : (countIdentifyFailure s).mem = s.mem := rfl
theorem countIdentifyFailure_dpt (s : State) : (countIdentifyFailure s).dpt = { s.dpt with identifyFailures := s.dpt.identifyFailures + 1 } := rfl
@[simp] theorem countIdentifyFailure_fnu (s : State) : (countIdentifyFailure s).fnu = s.fnu := rfl
@[simp] theorem countIdentifyFailure_pending (s : State) : (countIdentifyFailure s).pending = s.pending := rfl

/-! ### `setCursor` -/

@[simp] theorem setCursor_pif (p : Path) (c : Cursor) (s : State) : (setCursor p c s).pif = s.pif := rfl
@[simp] theorem setCursor_hmon (p : Path) (c : Cursor) (s : State) : (setCursor p c s).hmon = s.hmon := rfl
@[simp] theorem setCursor_owc (p : Path) (c : Cursor) (s : State) : (setCursor p c s).owc = s.owc := rfl
@[simp] theorem setCursor_adm (p : Path) (c : Cursor) (s : State) : (setCursor p c s).adm = s.adm := rfl
@[simp] theorem setCursor_ift (p : Path) (c : Cursor) (s : State) : (setCursor p c s).ift = s.ift := rfl
@[simp] theorem setCursor_stb (p : Path) (c : Cursor) (s : State) : (setCursor p c s).stb = s.stb := rfl
@[simp] theorem setCursor_mem (p : Path) (c : Cursor) (s : State) : (setCursor p c s).mem = s.mem := rfl
@[simp] theorem setCursor_dpt (p : Path) (c : Cursor) (s : State) : (setCursor p c s).dpt = s.dpt := rfl
theorem setCursor_fnu (p : Path) (c : Cursor) (s : State) : (setCursor p c s).fnu = { s.fnu with cursors := s.fnu.cursors.set p c } := rfl
@[simp] theorem setCursor_pending (p : Path) (c : Cursor) (s : State) : (setCursor p c s).pending = s.pending := rfl

/-! ### `setDeciding` -/

@[simp] theorem setDeciding_pif (d : Option (Path × Word)) (s : State) : (setDeciding d s).pif = s.pif := rfl
@[simp] theorem setDeciding_hmon (d : Option (Path × Word)) (s : State) : (setDeciding d s).hmon = s.hmon := rfl
@[simp] theorem setDeciding_owc (d : Option (Path × Word)) (s : State) : (setDeciding d s).owc = s.owc := rfl
@[simp] theorem setDeciding_adm (d : Option (Path × Word)) (s : State) : (setDeciding d s).adm = s.adm := rfl
@[simp] theorem setDeciding_ift (d : Option (Path × Word)) (s : State) : (setDeciding d s).ift = s.ift := rfl
@[simp] theorem setDeciding_stb (d : Option (Path × Word)) (s : State) : (setDeciding d s).stb = s.stb := rfl
@[simp] theorem setDeciding_mem (d : Option (Path × Word)) (s : State) : (setDeciding d s).mem = s.mem := rfl
@[simp] theorem setDeciding_dpt (d : Option (Path × Word)) (s : State) : (setDeciding d s).dpt = s.dpt := rfl
theorem setDeciding_fnu (d : Option (Path × Word)) (s : State) : (setDeciding d s).fnu = { s.fnu with deciding := d } := rfl
@[simp] theorem setDeciding_pending (d : Option (Path × Word)) (s : State) : (setDeciding d s).pending = s.pending := rfl

/-! ### `addEntry` -/

@[simp] theorem addEntry_pif (e : Entry) (s : State) : (addEntry e s).pif = s.pif := rfl
@[simp] theorem addEntry_hmon (e : Entry) (s : State) : (addEntry e s).hmon = s.hmon := rfl
@[simp] theorem addEntry_owc (e : Entry) (s : State) : (addEntry e s).owc = s.owc := rfl
theorem addEntry_adm (e : Entry) (s : State) : (addEntry e s).adm = { s.adm with sequence := e.age + 1 } := rfl
theorem addEntry_ift (e : Entry) (s : State) : (addEntry e s).ift = s.ift ++ [e] := rfl
@[simp] theorem addEntry_stb (e : Entry) (s : State) : (addEntry e s).stb = s.stb := rfl
@[simp] theorem addEntry_mem (e : Entry) (s : State) : (addEntry e s).mem = s.mem := rfl
@[simp] theorem addEntry_dpt (e : Entry) (s : State) : (addEntry e s).dpt = s.dpt := rfl
@[simp] theorem addEntry_fnu (e : Entry) (s : State) : (addEntry e s).fnu = s.fnu := rfl
@[simp] theorem addEntry_pending (e : Entry) (s : State) : (addEntry e s).pending = s.pending := rfl

/-! ### `State.withPending` -/

@[simp] theorem State.withPending_pif (queue : List Instr) (s : State) : (s.withPending queue).pif = s.pif := rfl
@[simp] theorem State.withPending_hmon (queue : List Instr) (s : State) : (s.withPending queue).hmon = s.hmon := rfl
@[simp] theorem State.withPending_owc (queue : List Instr) (s : State) : (s.withPending queue).owc = s.owc := rfl
@[simp] theorem State.withPending_adm (queue : List Instr) (s : State) : (s.withPending queue).adm = s.adm := rfl
@[simp] theorem State.withPending_ift (queue : List Instr) (s : State) : (s.withPending queue).ift = s.ift := rfl
@[simp] theorem State.withPending_stb (queue : List Instr) (s : State) : (s.withPending queue).stb = s.stb := rfl
@[simp] theorem State.withPending_mem (queue : List Instr) (s : State) : (s.withPending queue).mem = s.mem := rfl
@[simp] theorem State.withPending_dpt (queue : List Instr) (s : State) : (s.withPending queue).dpt = s.dpt := rfl
@[simp] theorem State.withPending_fnu (queue : List Instr) (s : State) : (s.withPending queue).fnu = s.fnu := rfl
theorem State.withPending_pending (queue : List Instr) (s : State) : (s.withPending queue).pending = queue := rfl

end Sys2Proof.Machine
end

