-- ==== Sys2Proof/Laws/FramesRecords.lean ====
section
/-! SUPPORT. The fields that each update of one record (a path interface, an entry, OWC's and DPT's own fields) leaves as
they are. -/

namespace Sys2Proof.Machine

@[simp] theorem Pif.chooseNext_frame (f : Pif) :
    (Pif.chooseNext f).link = f.link ∧ (Pif.chooseNext f).assembler = f.assembler ∧
    (Pif.chooseNext f).gapTimer = f.gapTimer ∧ (Pif.chooseNext f).rxq = f.rxq ∧
    (Pif.chooseNext f).serverHold = f.serverHold ∧ (Pif.chooseNext f).partHold = f.partHold ∧
    (Pif.chooseNext f).waiting = f.waiting ∧ (Pif.chooseNext f).sent = f.sent := by
  unfold Pif.chooseNext
  repeat' (first | (and_intros <;> rfl) | split)

@[simp] theorem Pif.enqueue_frame (x : TxItem) (f : Pif) :
    (Pif.enqueue x f).link = f.link ∧ (Pif.enqueue x f).assembler = f.assembler ∧
    (Pif.enqueue x f).gapTimer = f.gapTimer ∧ (Pif.enqueue x f).rxq = f.rxq ∧
    (Pif.enqueue x f).serverHold = f.serverHold ∧ (Pif.enqueue x f).partHold = f.partHold ∧
    (Pif.enqueue x f).waiting = f.waiting ∧ (Pif.enqueue x f).sent = f.sent := by
  simp [Pif.enqueue]

@[simp] theorem Pif.offer_frame (producer : Producer) (x : TxItem) (f : Pif) :
    (Pif.offer producer x f).link = f.link ∧ (Pif.offer producer x f).assembler = f.assembler ∧
    (Pif.offer producer x f).gapTimer = f.gapTimer ∧ (Pif.offer producer x f).rxq = f.rxq ∧
    (Pif.offer producer x f).serverHold = f.serverHold ∧ (Pif.offer producer x f).partHold = f.partHold ∧
    (Pif.offer producer x f).sent = f.sent := by
  unfold Pif.offer
  repeat' (first | (simp; done) | split)

@[simp] theorem Pif.enterWaiting_frame (f : Pif) :
    (Pif.enterWaiting f).link = f.link ∧ (Pif.enterWaiting f).assembler = f.assembler ∧
    (Pif.enterWaiting f).gapTimer = f.gapTimer ∧ (Pif.enterWaiting f).rxq = f.rxq ∧
    (Pif.enterWaiting f).serverHold = f.serverHold ∧ (Pif.enterWaiting f).partHold = f.partHold ∧
    (Pif.enterWaiting f).sent = f.sent := by
  unfold Pif.enterWaiting
  repeat' (first | (simp; done) | split)

@[simp] theorem Pif.placeFlow_frame (frame : OutFrame) (f : Pif) :
    (Pif.placeFlow frame f).link = f.link ∧ (Pif.placeFlow frame f).assembler = f.assembler ∧
    (Pif.placeFlow frame f).gapTimer = f.gapTimer ∧ (Pif.placeFlow frame f).rxq = f.rxq ∧
    (Pif.placeFlow frame f).serverHold = f.serverHold ∧ (Pif.placeFlow frame f).partHold = f.partHold ∧
    (Pif.placeFlow frame f).waiting = f.waiting ∧ (Pif.placeFlow frame f).sent = f.sent := by
  simp [Pif.placeFlow]

@[simp] theorem Pif.sendHold_frame (f : Pif) :
    (Pif.sendHold f).link = f.link ∧ (Pif.sendHold f).assembler = f.assembler ∧
    (Pif.sendHold f).gapTimer = f.gapTimer ∧ (Pif.sendHold f).rxq = f.rxq ∧
    (Pif.sendHold f).serverHold = f.serverHold ∧ (Pif.sendHold f).waiting = f.waiting ∧
    (Pif.sendHold f).sent = f.sent := by
  simp [Pif.sendHold]

@[simp] theorem Pif.sendGo_frame (f : Pif) :
    (Pif.sendGo f).link = f.link ∧ (Pif.sendGo f).assembler = f.assembler ∧ (Pif.sendGo f).gapTimer = f.gapTimer ∧
    (Pif.sendGo f).rxq = f.rxq ∧ (Pif.sendGo f).serverHold = f.serverHold ∧ (Pif.sendGo f).waiting = f.waiting ∧
    (Pif.sendGo f).sent = f.sent := by
  simp [Pif.sendGo]

@[simp] theorem Pif.withdrawGo_frame (f : Pif) :
    (Pif.withdrawGo f).link = f.link ∧ (Pif.withdrawGo f).assembler = f.assembler ∧
    (Pif.withdrawGo f).gapTimer = f.gapTimer ∧ (Pif.withdrawGo f).rxq = f.rxq ∧
    (Pif.withdrawGo f).txq = f.txq ∧ (Pif.withdrawGo f).sending = f.sending ∧
    (Pif.withdrawGo f).echoWaiting = f.echoWaiting ∧ (Pif.withdrawGo f).serverHold = f.serverHold ∧
    (Pif.withdrawGo f).partHold = f.partHold ∧ (Pif.withdrawGo f).heldServer = f.heldServer ∧
    (Pif.withdrawGo f).waiting = f.waiting ∧ (Pif.withdrawGo f).sent = f.sent := by
  unfold Pif.withdrawGo
  repeat' (first | (and_intros <;> rfl) | split)

@[simp] theorem Pif.askGo_frame (f : Pif) :
    (Pif.askGo f).link = f.link ∧ (Pif.askGo f).assembler = f.assembler ∧ (Pif.askGo f).gapTimer = f.gapTimer ∧
    (Pif.askGo f).rxq = f.rxq ∧ (Pif.askGo f).serverHold = f.serverHold ∧ (Pif.askGo f).waiting = f.waiting ∧
    (Pif.askGo f).sent = f.sent := by
  unfold Pif.askGo
  split <;> simp

@[simp] theorem Pif.placeEcho_frame (frame : OutFrame) (f : Pif) :
    (Pif.placeEcho frame f).link = f.link ∧ (Pif.placeEcho frame f).assembler = f.assembler ∧
    (Pif.placeEcho frame f).gapTimer = f.gapTimer ∧ (Pif.placeEcho frame f).rxq = f.rxq ∧
    (Pif.placeEcho frame f).serverHold = f.serverHold ∧ (Pif.placeEcho frame f).partHold = f.partHold ∧
    (Pif.placeEcho frame f).waiting = f.waiting ∧ (Pif.placeEcho frame f).sent = f.sent := by
  simp [Pif.placeEcho]

@[simp] theorem Pif.clearAssembler_frame (f : Pif) :
    (Pif.clearAssembler f).link = f.link ∧ (Pif.clearAssembler f).rxq = f.rxq ∧ (Pif.clearAssembler f).txq = f.txq ∧
    (Pif.clearAssembler f).sending = f.sending ∧ (Pif.clearAssembler f).echoWaiting = f.echoWaiting ∧
    (Pif.clearAssembler f).flowWaiting = f.flowWaiting ∧ (Pif.clearAssembler f).serverHold = f.serverHold ∧
    (Pif.clearAssembler f).partHold = f.partHold ∧ (Pif.clearAssembler f).waiting = f.waiting ∧
    (Pif.clearAssembler f).sent = f.sent := by
  simp [Pif.clearAssembler]

@[simp] theorem Pif.offerFlagNotice_frame (flag : Flag) (f : Pif) :
    (Pif.offerFlagNotice flag f).link = f.link ∧ (Pif.offerFlagNotice flag f).assembler = f.assembler ∧
    (Pif.offerFlagNotice flag f).gapTimer = f.gapTimer ∧ (Pif.offerFlagNotice flag f).rxq = f.rxq ∧
    (Pif.offerFlagNotice flag f).serverHold = f.serverHold ∧ (Pif.offerFlagNotice flag f).partHold = f.partHold ∧
    (Pif.offerFlagNotice flag f).sent = f.sent := by
  unfold Pif.offerFlagNotice
  split <;> simp

@[simp] theorem Entry.issueInto_frame (driveSlot : Nat) (run : Run) (e : Entry) :
    (Entry.issueInto driveSlot run e).slot = e.slot ∧ (Entry.issueInto driveSlot run e).origin = e.origin ∧
    (Entry.issueInto driveSlot run e).tag = e.tag ∧ (Entry.issueInto driveSlot run e).op = e.op ∧
    (Entry.issueInto driveSlot run e).start = e.start ∧ (Entry.issueInto driveSlot run e).count = e.count ∧
    (Entry.issueInto driveSlot run e).epoch = e.epoch ∧ (Entry.issueInto driveSlot run e).common = e.common ∧
    (Entry.issueInto driveSlot run e).posted = e.posted ∧ (Entry.issueInto driveSlot run e).acked = e.acked ∧
    (Entry.issueInto driveSlot run e).age = e.age ∧ (Entry.issueInto driveSlot run e).phase = e.phase ∧
    (Entry.issueInto driveSlot run e).staged = e.staged ∧ (Entry.issueInto driveSlot run e).committed = e.committed ∧
    (Entry.issueInto driveSlot run e).fetched = e.fetched ∧
    (Entry.issueInto driveSlot run e).delivered = e.delivered ∧
    (Entry.issueInto driveSlot run e).reissue = e.reissue ∧
    (Entry.issueInto driveSlot run e).blockedBy = e.blockedBy ∧
    (Entry.issueInto driveSlot run e).endStatus = e.endStatus ∧
    (Entry.issueInto driveSlot run e).fencedOutcome = e.fencedOutcome ∧
    (Entry.issueInto driveSlot run e).cut = e.cut ∧ (Entry.issueInto driveSlot run e).flushDone = e.flushDone ∧
    (Entry.issueInto driveSlot run e).reported = e.reported := by
  unfold Entry.issueInto
  repeat' (first | (and_intros <;> rfl) | split)

@[simp] theorem Owc.withOrphan_frame (r : OrphanRecord) (o : Owc) :
    (Owc.withOrphan r o).state = o.state ∧ (Owc.withOrphan r o).owner = o.owner ∧
    (Owc.withOrphan r o).epoch = o.epoch ∧ (Owc.withOrphan r o).commitCount = o.commitCount ∧
    (Owc.withOrphan r o).drainStage = o.drainStage ∧ (Owc.withOrphan r o).drainCause = o.drainCause ∧
    (Owc.withOrphan r o).successor = o.successor ∧ (Owc.withOrphan r o).purpose = o.purpose ∧
    (Owc.withOrphan r o).frozenCause = o.frozenCause ∧ (Owc.withOrphan r o).roles = o.roles ∧
    (Owc.withOrphan r o).policy = o.policy ∧ (Owc.withOrphan r o).pendingPolicy = o.pendingPolicy ∧
    (Owc.withOrphan r o).contents = o.contents ∧ (Owc.withOrphan r o).attempt = o.attempt ∧
    (Owc.withOrphan r o).owedReplies = o.owedReplies ∧ (Owc.withOrphan r o).waitingTransition = o.waitingTransition ∧
    (Owc.withOrphan r o).history = o.history ∧ (Owc.withOrphan r o).graceTimer = o.graceTimer ∧
    (Owc.withOrphan r o).drainTimer = o.drainTimer ∧ (Owc.withOrphan r o).drainedPath = o.drainedPath := by
  simp [Owc.withOrphan]

@[simp] theorem Entry.unblock_frame (slot : Nat) (e : Entry) :
    (Entry.unblock slot e).slot = e.slot ∧ (Entry.unblock slot e).origin = e.origin ∧
    (Entry.unblock slot e).tag = e.tag ∧ (Entry.unblock slot e).op = e.op ∧ (Entry.unblock slot e).start = e.start ∧
    (Entry.unblock slot e).count = e.count ∧ (Entry.unblock slot e).epoch = e.epoch ∧
    (Entry.unblock slot e).common = e.common ∧ (Entry.unblock slot e).posted = e.posted ∧
    (Entry.unblock slot e).acked = e.acked ∧ (Entry.unblock slot e).age = e.age ∧
    (Entry.unblock slot e).staged = e.staged ∧ (Entry.unblock slot e).issued = e.issued ∧
    (Entry.unblock slot e).committed = e.committed ∧ (Entry.unblock slot e).fetched = e.fetched ∧
    (Entry.unblock slot e).delivered = e.delivered ∧ (Entry.unblock slot e).frontier = e.frontier ∧
    (Entry.unblock slot e).returned = e.returned ∧ (Entry.unblock slot e).readGrant = e.readGrant ∧
    (Entry.unblock slot e).reissue = e.reissue ∧ (Entry.unblock slot e).outstanding = e.outstanding ∧
    (Entry.unblock slot e).endStatus = e.endStatus ∧ (Entry.unblock slot e).fencedOutcome = e.fencedOutcome ∧
    (Entry.unblock slot e).cut = e.cut ∧ (Entry.unblock slot e).flushDone = e.flushDone ∧
    (Entry.unblock slot e).reported = e.reported := by
  simp [Entry.unblock]

@[simp] theorem Pif.withdrawReadData_frame (f : Pif) :
    (Pif.withdrawReadData f).link = f.link ∧ (Pif.withdrawReadData f).assembler = f.assembler ∧
    (Pif.withdrawReadData f).gapTimer = f.gapTimer ∧ (Pif.withdrawReadData f).rxq = f.rxq ∧
    (Pif.withdrawReadData f).echoWaiting = f.echoWaiting ∧ (Pif.withdrawReadData f).flowWaiting = f.flowWaiting ∧
    (Pif.withdrawReadData f).serverHold = f.serverHold ∧ (Pif.withdrawReadData f).partHold = f.partHold ∧
    (Pif.withdrawReadData f).sent = f.sent := by
  simp [Pif.withdrawReadData]

@[simp] theorem Pif.keepReply_frame (slot : Nat) (f : Pif) :
    (Pif.keepReply slot f).link = f.link ∧ (Pif.keepReply slot f).assembler = f.assembler ∧
    (Pif.keepReply slot f).gapTimer = f.gapTimer ∧ (Pif.keepReply slot f).rxq = f.rxq ∧
    (Pif.keepReply slot f).txq = f.txq ∧ (Pif.keepReply slot f).sending = f.sending ∧
    (Pif.keepReply slot f).echoWaiting = f.echoWaiting ∧ (Pif.keepReply slot f).flowWaiting = f.flowWaiting ∧
    (Pif.keepReply slot f).serverHold = f.serverHold ∧ (Pif.keepReply slot f).partHold = f.partHold ∧
    (Pif.keepReply slot f).sent = f.sent := by
  simp [Pif.keepReply]

@[simp] theorem Pif.emptyReceive_frame (f : Pif) :
    (Pif.emptyReceive f).link = f.link ∧ (Pif.emptyReceive f).assembler = f.assembler ∧
    (Pif.emptyReceive f).gapTimer = f.gapTimer ∧ (Pif.emptyReceive f).txq = f.txq ∧
    (Pif.emptyReceive f).sending = f.sending ∧ (Pif.emptyReceive f).echoWaiting = f.echoWaiting ∧
    (Pif.emptyReceive f).flowWaiting = f.flowWaiting ∧ (Pif.emptyReceive f).serverHold = f.serverHold ∧
    (Pif.emptyReceive f).partHold = f.partHold ∧ (Pif.emptyReceive f).waiting = f.waiting ∧
    (Pif.emptyReceive f).sent = f.sent := by
  simp [Pif.emptyReceive]

@[simp] theorem Owc.beginDrain_frame (stage : DrainStage) (cause : DrainCause) (drained : Path) (successor : Option Path) (o : Owc) :
    (Owc.beginDrain stage cause drained successor o).epoch = o.epoch ∧
    (Owc.beginDrain stage cause drained successor o).commitCount = o.commitCount ∧
    (Owc.beginDrain stage cause drained successor o).purpose = o.purpose ∧
    (Owc.beginDrain stage cause drained successor o).frozenCause = o.frozenCause ∧
    (Owc.beginDrain stage cause drained successor o).roles = o.roles ∧
    (Owc.beginDrain stage cause drained successor o).policy = o.policy ∧
    (Owc.beginDrain stage cause drained successor o).pendingPolicy = o.pendingPolicy ∧
    (Owc.beginDrain stage cause drained successor o).contents = o.contents ∧
    (Owc.beginDrain stage cause drained successor o).attempt = o.attempt ∧
    (Owc.beginDrain stage cause drained successor o).owedReplies = o.owedReplies ∧
    (Owc.beginDrain stage cause drained successor o).waitingTransition = o.waitingTransition ∧
    (Owc.beginDrain stage cause drained successor o).history = o.history ∧
    (Owc.beginDrain stage cause drained successor o).orphans = o.orphans ∧
    (Owc.beginDrain stage cause drained successor o).dropped = o.dropped ∧
    (Owc.beginDrain stage cause drained successor o).drainTimer = o.drainTimer := by
  simp [Owc.beginDrain]

@[simp] theorem Owc.freeze_frame (cause : FrozenCause) (o : Owc) :
    (Owc.freeze cause o).epoch = o.epoch ∧ (Owc.freeze cause o).commitCount = o.commitCount ∧
    (Owc.freeze cause o).roles = o.roles ∧ (Owc.freeze cause o).policy = o.policy ∧
    (Owc.freeze cause o).history = o.history ∧ (Owc.freeze cause o).orphans = o.orphans ∧
    (Owc.freeze cause o).dropped = o.dropped := by
  simp [Owc.freeze]

@[simp] theorem Owc.startLoading_frame (o : Owc) :
    (Owc.startLoading o).epoch = o.epoch ∧ (Owc.startLoading o).commitCount = o.commitCount ∧
    (Owc.startLoading o).roles = o.roles ∧ (Owc.startLoading o).policy = o.policy ∧
    (Owc.startLoading o).history = o.history ∧ (Owc.startLoading o).orphans = o.orphans ∧
    (Owc.startLoading o).dropped = o.dropped := by
  simp [Owc.startLoading]

@[simp] theorem Owc.loaded_frame (owner : Option Path) (epoch : Word) (count : CommitCount) (o : Owc) :
    (Owc.loaded owner epoch count o).drainStage = o.drainStage ∧
    (Owc.loaded owner epoch count o).drainCause = o.drainCause ∧
    (Owc.loaded owner epoch count o).successor = o.successor ∧ (Owc.loaded owner epoch count o).purpose = o.purpose ∧
    (Owc.loaded owner epoch count o).frozenCause = o.frozenCause ∧ (Owc.loaded owner epoch count o).roles = o.roles ∧
    (Owc.loaded owner epoch count o).policy = o.policy ∧
    (Owc.loaded owner epoch count o).pendingPolicy = o.pendingPolicy ∧
    (Owc.loaded owner epoch count o).contents = o.contents ∧
    (Owc.loaded owner epoch count o).owedReplies = o.owedReplies ∧
    (Owc.loaded owner epoch count o).waitingTransition = o.waitingTransition ∧
    (Owc.loaded owner epoch count o).history = o.history ∧ (Owc.loaded owner epoch count o).orphans = o.orphans ∧
    (Owc.loaded owner epoch count o).dropped = o.dropped ∧
    (Owc.loaded owner epoch count o).graceTimer = o.graceTimer ∧
    (Owc.loaded owner epoch count o).drainTimer = o.drainTimer ∧
    (Owc.loaded owner epoch count o).drainedPath = o.drainedPath ∧
    (Owc.loaded owner epoch count o).orphansAdded = o.orphansAdded := by
  simp [Owc.loaded]

@[simp] theorem Owc.succeed_frame (purpose : Purpose) (c : Contents) (o : Owc) :
    (Owc.succeed purpose c o).roles = o.roles ∧ (Owc.succeed purpose c o).policy = o.policy ∧
    (Owc.succeed purpose c o).pendingPolicy = o.pendingPolicy ∧
    (Owc.succeed purpose c o).owedReplies = o.owedReplies ∧
    (Owc.succeed purpose c o).waitingTransition = o.waitingTransition ∧
    (Owc.succeed purpose c o).history = o.history ∧ (Owc.succeed purpose c o).orphans = o.orphans ∧
    (Owc.succeed purpose c o).dropped = o.dropped ∧ (Owc.succeed purpose c o).graceTimer = o.graceTimer := by
  unfold Owc.succeed
  split <;> simp

@[simp] theorem Dpt.startReset_frame (d : Dpt) :
    (Dpt.startReset d).cause = d.cause ∧ (Dpt.startReset d).identity = d.identity ∧
    (Dpt.startReset d).referenceMark = d.referenceMark ∧ (Dpt.startReset d).slotCount = d.slotCount ∧
    (Dpt.startReset d).request = d.request ∧ (Dpt.startReset d).identifyFailures = d.identifyFailures ∧
    (Dpt.startReset d).present = d.present := by
  simp [Dpt.startReset]

@[simp] theorem Dpt.giveUp_frame (state : DriveState) (cause : DriveCause) (d : Dpt) :
    (Dpt.giveUp state cause d).identity = d.identity ∧ (Dpt.giveUp state cause d).referenceMark = d.referenceMark ∧
    (Dpt.giveUp state cause d).slotCount = d.slotCount ∧
    (Dpt.giveUp state cause d).identifyFailures = d.identifyFailures ∧
    (Dpt.giveUp state cause d).present = d.present ∧ (Dpt.giveUp state cause d).requests = d.requests := by
  simp [Dpt.giveUp]

@[simp] theorem Dpt.enterReady_frame (i : Identity) (d : Dpt) :
    (Dpt.enterReady i d).request = d.request ∧ (Dpt.enterReady i d).resetTimer = d.resetTimer ∧
    (Dpt.enterReady i d).present = d.present ∧ (Dpt.enterReady i d).requests = d.requests := by
  simp [Dpt.enterReady]

@[simp] theorem Pif.assemble_frame (a : Assembler) (f : Pif) :
    (Pif.assemble a f).link = f.link ∧ (Pif.assemble a f).rxq = f.rxq ∧ (Pif.assemble a f).txq = f.txq ∧
    (Pif.assemble a f).sending = f.sending ∧ (Pif.assemble a f).echoWaiting = f.echoWaiting ∧
    (Pif.assemble a f).flowWaiting = f.flowWaiting ∧ (Pif.assemble a f).serverHold = f.serverHold ∧
    (Pif.assemble a f).partHold = f.partHold ∧ (Pif.assemble a f).waiting = f.waiting ∧
    (Pif.assemble a f).sent = f.sent := by
  simp [Pif.assemble]

@[simp] theorem Pif.beginFrame_frame (kind : Byte) (f : Pif) :
    (Pif.beginFrame kind f).link = f.link ∧ (Pif.beginFrame kind f).rxq = f.rxq ∧
    (Pif.beginFrame kind f).txq = f.txq ∧ (Pif.beginFrame kind f).sending = f.sending ∧
    (Pif.beginFrame kind f).echoWaiting = f.echoWaiting ∧ (Pif.beginFrame kind f).flowWaiting = f.flowWaiting ∧
    (Pif.beginFrame kind f).serverHold = f.serverHold ∧ (Pif.beginFrame kind f).partHold = f.partHold ∧
    (Pif.beginFrame kind f).waiting = f.waiting ∧ (Pif.beginFrame kind f).sent = f.sent := by
  simp [Pif.beginFrame]

@[simp] theorem Pif.finishSending_frame (x : Sending) (f : Pif) :
    (Pif.finishSending x f).link = f.link ∧ (Pif.finishSending x f).assembler = f.assembler ∧
    (Pif.finishSending x f).gapTimer = f.gapTimer ∧ (Pif.finishSending x f).rxq = f.rxq ∧
    (Pif.finishSending x f).txq = f.txq ∧ (Pif.finishSending x f).echoWaiting = f.echoWaiting ∧
    (Pif.finishSending x f).flowWaiting = f.flowWaiting ∧ (Pif.finishSending x f).serverHold = f.serverHold ∧
    (Pif.finishSending x f).partHold = f.partHold ∧ (Pif.finishSending x f).waiting = f.waiting := by
  simp [Pif.finishSending]

@[simp] theorem Pif.powerUp_frame (f : Pif) :
    (Pif.powerUp f).sent = f.sent := by
  simp [Pif.powerUp]

@[simp] theorem Dpt.powerUp_frame (present : Bool) (d : Dpt) :
    (Dpt.powerUp present d).requests = d.requests := by
  simp [Dpt.powerUp]

@[simp] theorem Pif.softClear_frame (f : Pif) :
    (Pif.softClear f).link = f.link ∧ (Pif.softClear f).assembler = f.assembler ∧
    (Pif.softClear f).gapTimer = f.gapTimer ∧ (Pif.softClear f).echoWaiting = f.echoWaiting ∧
    (Pif.softClear f).flowWaiting = f.flowWaiting ∧ (Pif.softClear f).sent = f.sent := by
  simp [Pif.softClear]

@[simp] theorem Pif.softReset_frame (f : Pif) :
    (Pif.softReset f).link = f.link ∧ (Pif.softReset f).assembler = f.assembler ∧
    (Pif.softReset f).gapTimer = f.gapTimer ∧ (Pif.softReset f).sent = f.sent := by
  unfold Pif.softReset
  split <;> simp

@[simp] theorem Dpt.softClear_frame (d : Dpt) :
    (Dpt.softClear d).state = d.state ∧ (Dpt.softClear d).identity = d.identity ∧
    (Dpt.softClear d).referenceMark = d.referenceMark ∧ (Dpt.softClear d).slotCount = d.slotCount ∧
    (Dpt.softClear d).busy = d.busy ∧ (Dpt.softClear d).resetTimer = d.resetTimer ∧
    (Dpt.softClear d).present = d.present ∧ (Dpt.softClear d).requests = d.requests := by
  simp [Dpt.softClear]

@[simp] theorem Pif.carrierLost_frame (f : Pif) :
    (Pif.carrierLost f).sent = f.sent := by
  simp [Pif.carrierLost]

@[simp] theorem Owc.claimBy_frame (p : Path) (o : Owc) :
    (Owc.claimBy p o).epoch = o.epoch ∧ (Owc.claimBy p o).commitCount = o.commitCount ∧
    (Owc.claimBy p o).drainStage = o.drainStage ∧ (Owc.claimBy p o).drainCause = o.drainCause ∧
    (Owc.claimBy p o).purpose = o.purpose ∧ (Owc.claimBy p o).roles = o.roles ∧ (Owc.claimBy p o).policy = o.policy ∧
    (Owc.claimBy p o).pendingPolicy = o.pendingPolicy ∧ (Owc.claimBy p o).contents = o.contents ∧
    (Owc.claimBy p o).attempt = o.attempt ∧ (Owc.claimBy p o).owedReplies = o.owedReplies ∧
    (Owc.claimBy p o).waitingTransition = o.waitingTransition ∧ (Owc.claimBy p o).history = o.history ∧
    (Owc.claimBy p o).orphans = o.orphans ∧ (Owc.claimBy p o).dropped = o.dropped ∧
    (Owc.claimBy p o).graceTimer = o.graceTimer ∧ (Owc.claimBy p o).drainTimer = o.drainTimer ∧
    (Owc.claimBy p o).drainedPath = o.drainedPath ∧ (Owc.claimBy p o).orphansAdded = o.orphansAdded := by
  simp [Owc.claimBy]

@[simp] theorem State.onPif_get_link (p q : Path) (f : Pif → Pif) (s : State) (h : ∀ x, (f x).link = x.link) :
    ((s.onPif p f).pif.get q).link = (s.pif.get q).link := by
  unfold State.onPif
  dsimp only
  rw [Both.get_set]
  split
  · rename_i e
    rw [h, e]
  · rfl

@[simp] theorem State.onPif_get_rxq (p q : Path) (f : Pif → Pif) (s : State) (h : ∀ x, (f x).rxq = x.rxq) :
    ((s.onPif p f).pif.get q).rxq = (s.pif.get q).rxq := by
  unfold State.onPif
  dsimp only
  rw [Both.get_set]
  split
  · rename_i e
    rw [h, e]
  · rfl

@[simp] theorem State.onPif_get_assembler (p q : Path) (f : Pif → Pif) (s : State) (h : ∀ x, (f x).assembler = x.assembler) :
    ((s.onPif p f).pif.get q).assembler = (s.pif.get q).assembler := by
  unfold State.onPif
  dsimp only
  rw [Both.get_set]
  split
  · rename_i e
    rw [h, e]
  · rfl

@[simp] theorem State.onPif_get_gapTimer (p q : Path) (f : Pif → Pif) (s : State) (h : ∀ x, (f x).gapTimer = x.gapTimer) :
    ((s.onPif p f).pif.get q).gapTimer = (s.pif.get q).gapTimer := by
  unfold State.onPif
  dsimp only
  rw [Both.get_set]
  split
  · rename_i e
    rw [h, e]
  · rfl

@[simp] theorem State.onPif_get_serverHold (p q : Path) (f : Pif → Pif) (s : State) (h : ∀ x, (f x).serverHold = x.serverHold) :
    ((s.onPif p f).pif.get q).serverHold = (s.pif.get q).serverHold := by
  unfold State.onPif
  dsimp only
  rw [Both.get_set]
  split
  · rename_i e
    rw [h, e]
  · rfl

@[simp] theorem State.onPif_get_partHold (p q : Path) (f : Pif → Pif) (s : State) (h : ∀ x, (f x).partHold = x.partHold) :
    ((s.onPif p f).pif.get q).partHold = (s.pif.get q).partHold := by
  unfold State.onPif
  dsimp only
  rw [Both.get_set]
  split
  · rename_i e
    rw [h, e]
  · rfl

@[simp] theorem State.onPif_get_sent (p q : Path) (f : Pif → Pif) (s : State) (h : ∀ x, (f x).sent = x.sent) :
    ((s.onPif p f).pif.get q).sent = (s.pif.get q).sent := by
  unfold State.onPif
  dsimp only
  rw [Both.get_set]
  split
  · rename_i e
    rw [h, e]
  · rfl

end Sys2Proof.Machine
end

