-- ==== Sys2Proof/Laws/FramesOps.lean ====
section
/-! SUPPORT. What each operation of Machine/Ops.lean leaves as it is. -/

namespace Sys2Proof.Machine

@[simp] theorem State.offer_frame (p : Path) (producer : Producer) (frame : OutFrame) (s : State) :
    (State.offer p producer frame s).hmon = s.hmon ∧ (State.offer p producer frame s).owc = s.owc ∧
    (State.offer p producer frame s).adm = s.adm ∧ (State.offer p producer frame s).ift = s.ift ∧
    (State.offer p producer frame s).stb = s.stb ∧ (State.offer p producer frame s).mem = s.mem ∧
    (State.offer p producer frame s).dpt = s.dpt ∧ (State.offer p producer frame s).fnu = s.fnu ∧
    (State.offer p producer frame s).pending = s.pending ∧
    (∀ q, ((State.offer p producer frame s).pif.get q).link = (s.pif.get q).link) ∧
    (∀ q, ((State.offer p producer frame s).pif.get q).rxq = (s.pif.get q).rxq) ∧
    (∀ q, ((State.offer p producer frame s).pif.get q).assembler = (s.pif.get q).assembler) ∧
    (∀ q, ((State.offer p producer frame s).pif.get q).gapTimer = (s.pif.get q).gapTimer) ∧
    (∀ q, ((State.offer p producer frame s).pif.get q).serverHold = (s.pif.get q).serverHold) ∧
    (∀ q, ((State.offer p producer frame s).pif.get q).partHold = (s.pif.get q).partHold) ∧
    (∀ q, ((State.offer p producer frame s).pif.get q).sent = (s.pif.get q).sent) := by
  simp [State.offer]

@[simp] theorem forSlots_pif (op : Nat → State → State) (h : ∀ k t, (op k t).pif = t.pif)
    (l : List Nat) (s : State) : (forSlots op l s).pif = s.pif := by
  induction l generalizing s with
  | nil => simp [forSlots]
  | cons k rest ih => simp [forSlots, ih, h]

@[simp] theorem forSlots_hmon (op : Nat → State → State) (h : ∀ k t, (op k t).hmon = t.hmon)
    (l : List Nat) (s : State) : (forSlots op l s).hmon = s.hmon := by
  induction l generalizing s with
  | nil => simp [forSlots]
  | cons k rest ih => simp [forSlots, ih, h]

@[simp] theorem forSlots_owc (op : Nat → State → State) (h : ∀ k t, (op k t).owc = t.owc)
    (l : List Nat) (s : State) : (forSlots op l s).owc = s.owc := by
  induction l generalizing s with
  | nil => simp [forSlots]
  | cons k rest ih => simp [forSlots, ih, h]

@[simp] theorem forSlots_adm (op : Nat → State → State) (h : ∀ k t, (op k t).adm = t.adm)
    (l : List Nat) (s : State) : (forSlots op l s).adm = s.adm := by
  induction l generalizing s with
  | nil => simp [forSlots]
  | cons k rest ih => simp [forSlots, ih, h]

@[simp] theorem forSlots_ift (op : Nat → State → State) (h : ∀ k t, (op k t).ift = t.ift)
    (l : List Nat) (s : State) : (forSlots op l s).ift = s.ift := by
  induction l generalizing s with
  | nil => simp [forSlots]
  | cons k rest ih => simp [forSlots, ih, h]

@[simp] theorem forSlots_stb (op : Nat → State → State) (h : ∀ k t, (op k t).stb = t.stb)
    (l : List Nat) (s : State) : (forSlots op l s).stb = s.stb := by
  induction l generalizing s with
  | nil => simp [forSlots]
  | cons k rest ih => simp [forSlots, ih, h]

@[simp] theorem forSlots_mem (op : Nat → State → State) (h : ∀ k t, (op k t).mem = t.mem)
    (l : List Nat) (s : State) : (forSlots op l s).mem = s.mem := by
  induction l generalizing s with
  | nil => simp [forSlots]
  | cons k rest ih => simp [forSlots, ih, h]

@[simp] theorem forSlots_dpt (op : Nat → State → State) (h : ∀ k t, (op k t).dpt = t.dpt)
    (l : List Nat) (s : State) : (forSlots op l s).dpt = s.dpt := by
  induction l generalizing s with
  | nil => simp [forSlots]
  | cons k rest ih => simp [forSlots, ih, h]

@[simp] theorem forSlots_fnu (op : Nat → State → State) (h : ∀ k t, (op k t).fnu = t.fnu)
    (l : List Nat) (s : State) : (forSlots op l s).fnu = s.fnu := by
  induction l generalizing s with
  | nil => simp [forSlots]
  | cons k rest ih => simp [forSlots, ih, h]

@[simp] theorem forSlots_pending (op : Nat → State → State) (h : ∀ k t, (op k t).pending = t.pending)
    (l : List Nat) (s : State) : (forSlots op l s).pending = s.pending := by
  induction l generalizing s with
  | nil => simp [forSlots]
  | cons k rest ih => simp [forSlots, ih, h]

@[simp] theorem forSlots_owc_state (op : Nat → State → State) (h : ∀ k t, (op k t).owc.state = t.owc.state)
    (l : List Nat) (s : State) : (forSlots op l s).owc.state = s.owc.state := by
  induction l generalizing s with
  | nil => simp [forSlots]
  | cons k rest ih => simp [forSlots, ih, h]

@[simp] theorem forSlots_owc_owner (op : Nat → State → State) (h : ∀ k t, (op k t).owc.owner = t.owc.owner)
    (l : List Nat) (s : State) : (forSlots op l s).owc.owner = s.owc.owner := by
  induction l generalizing s with
  | nil => simp [forSlots]
  | cons k rest ih => simp [forSlots, ih, h]

@[simp] theorem forSlots_owc_epoch (op : Nat → State → State) (h : ∀ k t, (op k t).owc.epoch = t.owc.epoch)
    (l : List Nat) (s : State) : (forSlots op l s).owc.epoch = s.owc.epoch := by
  induction l generalizing s with
  | nil => simp [forSlots]
  | cons k rest ih => simp [forSlots, ih, h]

@[simp] theorem forSlots_owc_commitCount (op : Nat → State → State) (h : ∀ k t, (op k t).owc.commitCount = t.owc.commitCount)
    (l : List Nat) (s : State) : (forSlots op l s).owc.commitCount = s.owc.commitCount := by
  induction l generalizing s with
  | nil => simp [forSlots]
  | cons k rest ih => simp [forSlots, ih, h]

@[simp] theorem forSlots_owc_drainStage (op : Nat → State → State) (h : ∀ k t, (op k t).owc.drainStage = t.owc.drainStage)
    (l : List Nat) (s : State) : (forSlots op l s).owc.drainStage = s.owc.drainStage := by
  induction l generalizing s with
  | nil => simp [forSlots]
  | cons k rest ih => simp [forSlots, ih, h]

@[simp] theorem forSlots_owc_drainCause (op : Nat → State → State) (h : ∀ k t, (op k t).owc.drainCause = t.owc.drainCause)
    (l : List Nat) (s : State) : (forSlots op l s).owc.drainCause = s.owc.drainCause := by
  induction l generalizing s with
  | nil => simp [forSlots]
  | cons k rest ih => simp [forSlots, ih, h]

@[simp] theorem forSlots_owc_successor (op : Nat → State → State) (h : ∀ k t, (op k t).owc.successor = t.owc.successor)
    (l : List Nat) (s : State) : (forSlots op l s).owc.successor = s.owc.successor := by
  induction l generalizing s with
  | nil => simp [forSlots]
  | cons k rest ih => simp [forSlots, ih, h]

@[simp] theorem forSlots_owc_purpose (op : Nat → State → State) (h : ∀ k t, (op k t).owc.purpose = t.owc.purpose)
    (l : List Nat) (s : State) : (forSlots op l s).owc.purpose = s.owc.purpose := by
  induction l generalizing s with
  | nil => simp [forSlots]
  | cons k rest ih => simp [forSlots, ih, h]

@[simp] theorem forSlots_owc_frozenCause (op : Nat → State → State) (h : ∀ k t, (op k t).owc.frozenCause = t.owc.frozenCause)
    (l : List Nat) (s : State) : (forSlots op l s).owc.frozenCause = s.owc.frozenCause := by
  induction l generalizing s with
  | nil => simp [forSlots]
  | cons k rest ih => simp [forSlots, ih, h]

@[simp] theorem forSlots_owc_roles (op : Nat → State → State) (h : ∀ k t, (op k t).owc.roles = t.owc.roles)
    (l : List Nat) (s : State) : (forSlots op l s).owc.roles = s.owc.roles := by
  induction l generalizing s with
  | nil => simp [forSlots]
  | cons k rest ih => simp [forSlots, ih, h]

@[simp] theorem forSlots_owc_policy (op : Nat → State → State) (h : ∀ k t, (op k t).owc.policy = t.owc.policy)
    (l : List Nat) (s : State) : (forSlots op l s).owc.policy = s.owc.policy := by
  induction l generalizing s with
  | nil => simp [forSlots]
  | cons k rest ih => simp [forSlots, ih, h]

@[simp] theorem forSlots_owc_pendingPolicy (op : Nat → State → State) (h : ∀ k t, (op k t).owc.pendingPolicy = t.owc.pendingPolicy)
    (l : List Nat) (s : State) : (forSlots op l s).owc.pendingPolicy = s.owc.pendingPolicy := by
  induction l generalizing s with
  | nil => simp [forSlots]
  | cons k rest ih => simp [forSlots, ih, h]

@[simp] theorem forSlots_owc_contents (op : Nat → State → State) (h : ∀ k t, (op k t).owc.contents = t.owc.contents)
    (l : List Nat) (s : State) : (forSlots op l s).owc.contents = s.owc.contents := by
  induction l generalizing s with
  | nil => simp [forSlots]
  | cons k rest ih => simp [forSlots, ih, h]

@[simp] theorem forSlots_owc_attempt (op : Nat → State → State) (h : ∀ k t, (op k t).owc.attempt = t.owc.attempt)
    (l : List Nat) (s : State) : (forSlots op l s).owc.attempt = s.owc.attempt := by
  induction l generalizing s with
  | nil => simp [forSlots]
  | cons k rest ih => simp [forSlots, ih, h]

@[simp] theorem forSlots_owc_owedReplies (op : Nat → State → State) (h : ∀ k t, (op k t).owc.owedReplies = t.owc.owedReplies)
    (l : List Nat) (s : State) : (forSlots op l s).owc.owedReplies = s.owc.owedReplies := by
  induction l generalizing s with
  | nil => simp [forSlots]
  | cons k rest ih => simp [forSlots, ih, h]

@[simp] theorem forSlots_owc_waitingTransition (op : Nat → State → State) (h : ∀ k t, (op k t).owc.waitingTransition = t.owc.waitingTransition)
    (l : List Nat) (s : State) : (forSlots op l s).owc.waitingTransition = s.owc.waitingTransition := by
  induction l generalizing s with
  | nil => simp [forSlots]
  | cons k rest ih => simp [forSlots, ih, h]

@[simp] theorem forSlots_owc_history (op : Nat → State → State) (h : ∀ k t, (op k t).owc.history = t.owc.history)
    (l : List Nat) (s : State) : (forSlots op l s).owc.history = s.owc.history := by
  induction l generalizing s with
  | nil => simp [forSlots]
  | cons k rest ih => simp [forSlots, ih, h]

@[simp] theorem forSlots_owc_orphans (op : Nat → State → State) (h : ∀ k t, (op k t).owc.orphans = t.owc.orphans)
    (l : List Nat) (s : State) : (forSlots op l s).owc.orphans = s.owc.orphans := by
  induction l generalizing s with
  | nil => simp [forSlots]
  | cons k rest ih => simp [forSlots, ih, h]

@[simp] theorem forSlots_owc_dropped (op : Nat → State → State) (h : ∀ k t, (op k t).owc.dropped = t.owc.dropped)
    (l : List Nat) (s : State) : (forSlots op l s).owc.dropped = s.owc.dropped := by
  induction l generalizing s with
  | nil => simp [forSlots]
  | cons k rest ih => simp [forSlots, ih, h]

@[simp] theorem forSlots_owc_graceTimer (op : Nat → State → State) (h : ∀ k t, (op k t).owc.graceTimer = t.owc.graceTimer)
    (l : List Nat) (s : State) : (forSlots op l s).owc.graceTimer = s.owc.graceTimer := by
  induction l generalizing s with
  | nil => simp [forSlots]
  | cons k rest ih => simp [forSlots, ih, h]

@[simp] theorem forSlots_owc_drainTimer (op : Nat → State → State) (h : ∀ k t, (op k t).owc.drainTimer = t.owc.drainTimer)
    (l : List Nat) (s : State) : (forSlots op l s).owc.drainTimer = s.owc.drainTimer := by
  induction l generalizing s with
  | nil => simp [forSlots]
  | cons k rest ih => simp [forSlots, ih, h]

@[simp] theorem forSlots_owc_drainedPath (op : Nat → State → State) (h : ∀ k t, (op k t).owc.drainedPath = t.owc.drainedPath)
    (l : List Nat) (s : State) : (forSlots op l s).owc.drainedPath = s.owc.drainedPath := by
  induction l generalizing s with
  | nil => simp [forSlots]
  | cons k rest ih => simp [forSlots, ih, h]

@[simp] theorem forSlots_owc_orphansAdded (op : Nat → State → State) (h : ∀ k t, (op k t).owc.orphansAdded = t.owc.orphansAdded)
    (l : List Nat) (s : State) : (forSlots op l s).owc.orphansAdded = s.owc.orphansAdded := by
  induction l generalizing s with
  | nil => simp [forSlots]
  | cons k rest ih => simp [forSlots, ih, h]

@[simp] theorem forSlots_dpt_state (op : Nat → State → State) (h : ∀ k t, (op k t).dpt.state = t.dpt.state)
    (l : List Nat) (s : State) : (forSlots op l s).dpt.state = s.dpt.state := by
  induction l generalizing s with
  | nil => simp [forSlots]
  | cons k rest ih => simp [forSlots, ih, h]

@[simp] theorem forSlots_dpt_cause (op : Nat → State → State) (h : ∀ k t, (op k t).dpt.cause = t.dpt.cause)
    (l : List Nat) (s : State) : (forSlots op l s).dpt.cause = s.dpt.cause := by
  induction l generalizing s with
  | nil => simp [forSlots]
  | cons k rest ih => simp [forSlots, ih, h]

@[simp] theorem forSlots_dpt_identity (op : Nat → State → State) (h : ∀ k t, (op k t).dpt.identity = t.dpt.identity)
    (l : List Nat) (s : State) : (forSlots op l s).dpt.identity = s.dpt.identity := by
  induction l generalizing s with
  | nil => simp [forSlots]
  | cons k rest ih => simp [forSlots, ih, h]

@[simp] theorem forSlots_dpt_referenceMark (op : Nat → State → State) (h : ∀ k t, (op k t).dpt.referenceMark = t.dpt.referenceMark)
    (l : List Nat) (s : State) : (forSlots op l s).dpt.referenceMark = s.dpt.referenceMark := by
  induction l generalizing s with
  | nil => simp [forSlots]
  | cons k rest ih => simp [forSlots, ih, h]

@[simp] theorem forSlots_dpt_slotCount (op : Nat → State → State) (h : ∀ k t, (op k t).dpt.slotCount = t.dpt.slotCount)
    (l : List Nat) (s : State) : (forSlots op l s).dpt.slotCount = s.dpt.slotCount := by
  induction l generalizing s with
  | nil => simp [forSlots]
  | cons k rest ih => simp [forSlots, ih, h]

@[simp] theorem forSlots_dpt_busy (op : Nat → State → State) (h : ∀ k t, (op k t).dpt.busy = t.dpt.busy)
    (l : List Nat) (s : State) : (forSlots op l s).dpt.busy = s.dpt.busy := by
  induction l generalizing s with
  | nil => simp [forSlots]
  | cons k rest ih => simp [forSlots, ih, h]

@[simp] theorem forSlots_dpt_request (op : Nat → State → State) (h : ∀ k t, (op k t).dpt.request = t.dpt.request)
    (l : List Nat) (s : State) : (forSlots op l s).dpt.request = s.dpt.request := by
  induction l generalizing s with
  | nil => simp [forSlots]
  | cons k rest ih => simp [forSlots, ih, h]

@[simp] theorem forSlots_dpt_identifyFailures (op : Nat → State → State) (h : ∀ k t, (op k t).dpt.identifyFailures = t.dpt.identifyFailures)
    (l : List Nat) (s : State) : (forSlots op l s).dpt.identifyFailures = s.dpt.identifyFailures := by
  induction l generalizing s with
  | nil => simp [forSlots]
  | cons k rest ih => simp [forSlots, ih, h]

@[simp] theorem forSlots_dpt_resetTimer (op : Nat → State → State) (h : ∀ k t, (op k t).dpt.resetTimer = t.dpt.resetTimer)
    (l : List Nat) (s : State) : (forSlots op l s).dpt.resetTimer = s.dpt.resetTimer := by
  induction l generalizing s with
  | nil => simp [forSlots]
  | cons k rest ih => simp [forSlots, ih, h]

@[simp] theorem forSlots_dpt_present (op : Nat → State → State) (h : ∀ k t, (op k t).dpt.present = t.dpt.present)
    (l : List Nat) (s : State) : (forSlots op l s).dpt.present = s.dpt.present := by
  induction l generalizing s with
  | nil => simp [forSlots]
  | cons k rest ih => simp [forSlots, ih, h]

@[simp] theorem forSlots_dpt_requests (op : Nat → State → State) (h : ∀ k t, (op k t).dpt.requests = t.dpt.requests)
    (l : List Nat) (s : State) : (forSlots op l s).dpt.requests = s.dpt.requests := by
  induction l generalizing s with
  | nil => simp [forSlots]
  | cons k rest ih => simp [forSlots, ih, h]

@[simp] theorem forSlots_fnu_masks (op : Nat → State → State) (h : ∀ k t, (op k t).fnu.masks = t.fnu.masks)
    (l : List Nat) (s : State) : (forSlots op l s).fnu.masks = s.fnu.masks := by
  induction l generalizing s with
  | nil => simp [forSlots]
  | cons k rest ih => simp [forSlots, ih, h]

@[simp] theorem forSlots_fnu_cursors (op : Nat → State → State) (h : ∀ k t, (op k t).fnu.cursors = t.fnu.cursors)
    (l : List Nat) (s : State) : (forSlots op l s).fnu.cursors = s.fnu.cursors := by
  induction l generalizing s with
  | nil => simp [forSlots]
  | cons k rest ih => simp [forSlots, ih, h]

@[simp] theorem forSlots_fnu_resetCause (op : Nat → State → State) (h : ∀ k t, (op k t).fnu.resetCause = t.fnu.resetCause)
    (l : List Nat) (s : State) : (forSlots op l s).fnu.resetCause = s.fnu.resetCause := by
  induction l generalizing s with
  | nil => simp [forSlots]
  | cons k rest ih => simp [forSlots, ih, h]

@[simp] theorem forSlots_fnu_postedLost (op : Nat → State → State) (h : ∀ k t, (op k t).fnu.postedLost = t.fnu.postedLost)
    (l : List Nat) (s : State) : (forSlots op l s).fnu.postedLost = s.fnu.postedLost := by
  induction l generalizing s with
  | nil => simp [forSlots]
  | cons k rest ih => simp [forSlots, ih, h]

@[simp] theorem forSlots_fnu_deciding (op : Nat → State → State) (h : ∀ k t, (op k t).fnu.deciding = t.fnu.deciding)
    (l : List Nat) (s : State) : (forSlots op l s).fnu.deciding = s.fnu.deciding := by
  induction l generalizing s with
  | nil => simp [forSlots]
  | cons k rest ih => simp [forSlots, ih, h]

@[simp] theorem forSlots_stb_pages (op : Nat → State → State) (h : ∀ k t, (op k t).stb.pages = t.stb.pages)
    (l : List Nat) (s : State) : (forSlots op l s).stb.pages = s.stb.pages := by
  induction l generalizing s with
  | nil => simp [forSlots]
  | cons k rest ih => simp [forSlots, ih, h]

@[simp] theorem forSlots_stb_grants (op : Nat → State → State) (h : ∀ k t, (op k t).stb.grants = t.stb.grants)
    (l : List Nat) (s : State) : (forSlots op l s).stb.grants = s.stb.grants := by
  induction l generalizing s with
  | nil => simp [forSlots]
  | cons k rest ih => simp [forSlots, ih, h]

@[simp] theorem forSlots_link (op : Nat → State → State) (h : ∀ k t, ∀ q, ((op k t).pif.get q).link = (t.pif.get q).link)
    (l : List Nat) (s : State) : ∀ q, ((forSlots op l s).pif.get q).link = (s.pif.get q).link := by
  induction l generalizing s with
  | nil => simp [forSlots]
  | cons k rest ih => simp [forSlots, ih, h]

@[simp] theorem forSlots_rxq (op : Nat → State → State) (h : ∀ k t, ∀ q, ((op k t).pif.get q).rxq = (t.pif.get q).rxq)
    (l : List Nat) (s : State) : ∀ q, ((forSlots op l s).pif.get q).rxq = (s.pif.get q).rxq := by
  induction l generalizing s with
  | nil => simp [forSlots]
  | cons k rest ih => simp [forSlots, ih, h]

@[simp] theorem forSlots_assembler (op : Nat → State → State) (h : ∀ k t, ∀ q, ((op k t).pif.get q).assembler = (t.pif.get q).assembler)
    (l : List Nat) (s : State) : ∀ q, ((forSlots op l s).pif.get q).assembler = (s.pif.get q).assembler := by
  induction l generalizing s with
  | nil => simp [forSlots]
  | cons k rest ih => simp [forSlots, ih, h]

@[simp] theorem forSlots_gapTimer (op : Nat → State → State) (h : ∀ k t, ∀ q, ((op k t).pif.get q).gapTimer = (t.pif.get q).gapTimer)
    (l : List Nat) (s : State) : ∀ q, ((forSlots op l s).pif.get q).gapTimer = (s.pif.get q).gapTimer := by
  induction l generalizing s with
  | nil => simp [forSlots]
  | cons k rest ih => simp [forSlots, ih, h]

@[simp] theorem forSlots_serverHold (op : Nat → State → State) (h : ∀ k t, ∀ q, ((op k t).pif.get q).serverHold = (t.pif.get q).serverHold)
    (l : List Nat) (s : State) : ∀ q, ((forSlots op l s).pif.get q).serverHold = (s.pif.get q).serverHold := by
  induction l generalizing s with
  | nil => simp [forSlots]
  | cons k rest ih => simp [forSlots, ih, h]

@[simp] theorem forSlots_partHold (op : Nat → State → State) (h : ∀ k t, ∀ q, ((op k t).pif.get q).partHold = (t.pif.get q).partHold)
    (l : List Nat) (s : State) : ∀ q, ((forSlots op l s).pif.get q).partHold = (s.pif.get q).partHold := by
  induction l generalizing s with
  | nil => simp [forSlots]
  | cons k rest ih => simp [forSlots, ih, h]

@[simp] theorem forSlots_sent (op : Nat → State → State) (h : ∀ k t, ∀ q, ((op k t).pif.get q).sent = (t.pif.get q).sent)
    (l : List Nat) (s : State) : ∀ q, ((forSlots op l s).pif.get q).sent = (s.pif.get q).sent := by
  induction l generalizing s with
  | nil => simp [forSlots]
  | cons k rest ih => simp [forSlots, ih, h]

end Sys2Proof.Machine
end

