-- ==== Sys2Proof/Laws/FramesFlags.lean ====
section
/-! SUPPORT. What each operation of Machine/Flags.lean leaves as it is. -/

namespace Sys2Proof.Machine

@[simp] theorem raiseIn_frame (p : Path) (flag : Flag) (s : State) :
    (raiseIn p flag s).hmon = s.hmon ∧ (raiseIn p flag s).owc = s.owc ∧ (raiseIn p flag s).adm = s.adm ∧
    (raiseIn p flag s).ift = s.ift ∧ (raiseIn p flag s).stb = s.stb ∧ (raiseIn p flag s).mem = s.mem ∧
    (raiseIn p flag s).dpt = s.dpt ∧ (raiseIn p flag s).pending = s.pending ∧
    (raiseIn p flag s).fnu.masks = s.fnu.masks ∧ (raiseIn p flag s).fnu.cursors = s.fnu.cursors ∧
    (raiseIn p flag s).fnu.resetCause = s.fnu.resetCause ∧ (raiseIn p flag s).fnu.postedLost = s.fnu.postedLost ∧
    (raiseIn p flag s).fnu.deciding = s.fnu.deciding ∧
    (∀ q, ((raiseIn p flag s).pif.get q).link = (s.pif.get q).link) ∧
    (∀ q, ((raiseIn p flag s).pif.get q).rxq = (s.pif.get q).rxq) ∧
    (∀ q, ((raiseIn p flag s).pif.get q).assembler = (s.pif.get q).assembler) ∧
    (∀ q, ((raiseIn p flag s).pif.get q).gapTimer = (s.pif.get q).gapTimer) ∧
    (∀ q, ((raiseIn p flag s).pif.get q).serverHold = (s.pif.get q).serverHold) ∧
    (∀ q, ((raiseIn p flag s).pif.get q).partHold = (s.pif.get q).partHold) ∧
    (∀ q, ((raiseIn p flag s).pif.get q).sent = (s.pif.get q).sent) := by
  unfold raiseIn
  repeat' (first | (simp; done) | split)

@[simp] theorem raiseBoth_frame (flag : Flag) (s : State) :
    (raiseBoth flag s).hmon = s.hmon ∧ (raiseBoth flag s).owc = s.owc ∧ (raiseBoth flag s).adm = s.adm ∧
    (raiseBoth flag s).ift = s.ift ∧ (raiseBoth flag s).stb = s.stb ∧ (raiseBoth flag s).mem = s.mem ∧
    (raiseBoth flag s).dpt = s.dpt ∧ (raiseBoth flag s).pending = s.pending ∧
    (raiseBoth flag s).fnu.masks = s.fnu.masks ∧ (raiseBoth flag s).fnu.cursors = s.fnu.cursors ∧
    (raiseBoth flag s).fnu.resetCause = s.fnu.resetCause ∧ (raiseBoth flag s).fnu.postedLost = s.fnu.postedLost ∧
    (raiseBoth flag s).fnu.deciding = s.fnu.deciding ∧
    (∀ q, ((raiseBoth flag s).pif.get q).link = (s.pif.get q).link) ∧
    (∀ q, ((raiseBoth flag s).pif.get q).rxq = (s.pif.get q).rxq) ∧
    (∀ q, ((raiseBoth flag s).pif.get q).assembler = (s.pif.get q).assembler) ∧
    (∀ q, ((raiseBoth flag s).pif.get q).gapTimer = (s.pif.get q).gapTimer) ∧
    (∀ q, ((raiseBoth flag s).pif.get q).serverHold = (s.pif.get q).serverHold) ∧
    (∀ q, ((raiseBoth flag s).pif.get q).partHold = (s.pif.get q).partHold) ∧
    (∀ q, ((raiseBoth flag s).pif.get q).sent = (s.pif.get q).sent) := by
  simp [raiseBoth]

@[simp] theorem answer_frame (p : Path) (tag : Word) (status : Status) (s : State) :
    (answer p tag status s).hmon = s.hmon ∧ (answer p tag status s).owc = s.owc ∧
    (answer p tag status s).adm = s.adm ∧ (answer p tag status s).ift = s.ift ∧ (answer p tag status s).stb = s.stb ∧
    (answer p tag status s).mem = s.mem ∧ (answer p tag status s).dpt = s.dpt ∧ (answer p tag status s).fnu = s.fnu ∧
    (answer p tag status s).pending = s.pending ∧
    (∀ q, ((answer p tag status s).pif.get q).link = (s.pif.get q).link) ∧
    (∀ q, ((answer p tag status s).pif.get q).rxq = (s.pif.get q).rxq) ∧
    (∀ q, ((answer p tag status s).pif.get q).assembler = (s.pif.get q).assembler) ∧
    (∀ q, ((answer p tag status s).pif.get q).gapTimer = (s.pif.get q).gapTimer) ∧
    (∀ q, ((answer p tag status s).pif.get q).serverHold = (s.pif.get q).serverHold) ∧
    (∀ q, ((answer p tag status s).pif.get q).partHold = (s.pif.get q).partHold) ∧
    (∀ q, ((answer p tag status s).pif.get q).sent = (s.pif.get q).sent) := by
  simp [answer]

end Sys2Proof.Machine
end

