-- ==== Sys2Proof/Laws/FramesStaging.lean ====
section
/-! SUPPORT. What each operation of Machine/Staging.lean leaves as it is. -/

namespace Sys2Proof.Machine

@[simp] theorem State.freeRun_frame (slot offset length : Nat) (s : State) :
    (State.freeRun slot offset length s).pif = s.pif ∧ (State.freeRun slot offset length s).hmon = s.hmon ∧
    (State.freeRun slot offset length s).owc = s.owc ∧ (State.freeRun slot offset length s).adm = s.adm ∧
    (State.freeRun slot offset length s).ift = s.ift ∧ (State.freeRun slot offset length s).mem = s.mem ∧
    (State.freeRun slot offset length s).dpt = s.dpt ∧ (State.freeRun slot offset length s).fnu = s.fnu ∧
    (State.freeRun slot offset length s).pending = s.pending ∧
    (State.freeRun slot offset length s).stb.grants = s.stb.grants := by
  unfold State.freeRun
  repeat' (first | (and_intros <;> rfl) | split)

@[simp] theorem testHold_frame (p : Path) (s : State) :
    (testHold p s).hmon = s.hmon ∧ (testHold p s).owc = s.owc ∧ (testHold p s).adm = s.adm ∧
    (testHold p s).ift = s.ift ∧ (testHold p s).stb = s.stb ∧ (testHold p s).mem = s.mem ∧
    (testHold p s).dpt = s.dpt ∧ (testHold p s).fnu = s.fnu ∧ (testHold p s).pending = s.pending ∧
    (∀ q, ((testHold p s).pif.get q).link = (s.pif.get q).link) ∧
    (∀ q, ((testHold p s).pif.get q).rxq = (s.pif.get q).rxq) ∧
    (∀ q, ((testHold p s).pif.get q).assembler = (s.pif.get q).assembler) ∧
    (∀ q, ((testHold p s).pif.get q).gapTimer = (s.pif.get q).gapTimer) ∧
    (∀ q, ((testHold p s).pif.get q).serverHold = (s.pif.get q).serverHold) ∧
    (∀ q, ((testHold p s).pif.get q).sent = (s.pif.get q).sent) := by
  unfold testHold
  split <;> simp

@[simp] theorem testGo_frame (p : Path) (s : State) :
    (testGo p s).hmon = s.hmon ∧ (testGo p s).owc = s.owc ∧ (testGo p s).adm = s.adm ∧ (testGo p s).ift = s.ift ∧
    (testGo p s).stb = s.stb ∧ (testGo p s).mem = s.mem ∧ (testGo p s).dpt = s.dpt ∧ (testGo p s).fnu = s.fnu ∧
    (testGo p s).pending = s.pending ∧ (∀ q, ((testGo p s).pif.get q).link = (s.pif.get q).link) ∧
    (∀ q, ((testGo p s).pif.get q).rxq = (s.pif.get q).rxq) ∧
    (∀ q, ((testGo p s).pif.get q).assembler = (s.pif.get q).assembler) ∧
    (∀ q, ((testGo p s).pif.get q).gapTimer = (s.pif.get q).gapTimer) ∧
    (∀ q, ((testGo p s).pif.get q).serverHold = (s.pif.get q).serverHold) ∧
    (∀ q, ((testGo p s).pif.get q).sent = (s.pif.get q).sent) := by
  unfold testGo
  split <;> simp

@[simp] theorem testGoAfter_frame (before : State) (p : Path) (s : State) :
    (testGoAfter before p s).hmon = s.hmon ∧ (testGoAfter before p s).owc = s.owc ∧
    (testGoAfter before p s).adm = s.adm ∧ (testGoAfter before p s).ift = s.ift ∧
    (testGoAfter before p s).stb = s.stb ∧ (testGoAfter before p s).mem = s.mem ∧
    (testGoAfter before p s).dpt = s.dpt ∧ (testGoAfter before p s).fnu = s.fnu ∧
    (testGoAfter before p s).pending = s.pending ∧
    (∀ q, ((testGoAfter before p s).pif.get q).link = (s.pif.get q).link) ∧
    (∀ q, ((testGoAfter before p s).pif.get q).rxq = (s.pif.get q).rxq) ∧
    (∀ q, ((testGoAfter before p s).pif.get q).assembler = (s.pif.get q).assembler) ∧
    (∀ q, ((testGoAfter before p s).pif.get q).gapTimer = (s.pif.get q).gapTimer) ∧
    (∀ q, ((testGoAfter before p s).pif.get q).serverHold = (s.pif.get q).serverHold) ∧
    (∀ q, ((testGoAfter before p s).pif.get q).sent = (s.pif.get q).sent) := by
  unfold testGoAfter
  split <;> simp

@[simp] theorem testThresholds_frame (p : Path) (s : State) :
    (testThresholds p s).hmon = s.hmon ∧ (testThresholds p s).owc = s.owc ∧ (testThresholds p s).adm = s.adm ∧
    (testThresholds p s).ift = s.ift ∧ (testThresholds p s).stb = s.stb ∧ (testThresholds p s).mem = s.mem ∧
    (testThresholds p s).dpt = s.dpt ∧ (testThresholds p s).fnu = s.fnu ∧ (testThresholds p s).pending = s.pending ∧
    (∀ q, ((testThresholds p s).pif.get q).link = (s.pif.get q).link) ∧
    (∀ q, ((testThresholds p s).pif.get q).rxq = (s.pif.get q).rxq) ∧
    (∀ q, ((testThresholds p s).pif.get q).assembler = (s.pif.get q).assembler) ∧
    (∀ q, ((testThresholds p s).pif.get q).gapTimer = (s.pif.get q).gapTimer) ∧
    (∀ q, ((testThresholds p s).pif.get q).serverHold = (s.pif.get q).serverHold) ∧
    (∀ q, ((testThresholds p s).pif.get q).sent = (s.pif.get q).sent) := by
  unfold testThresholds
  split <;> simp

@[simp] theorem placeRequest_frame (e : Entry) (s : State) :
    (placeRequest e s).pif = s.pif ∧ (placeRequest e s).hmon = s.hmon ∧ (placeRequest e s).owc = s.owc ∧
    (placeRequest e s).adm = s.adm ∧ (placeRequest e s).ift = s.ift ∧ (placeRequest e s).mem = s.mem ∧
    (placeRequest e s).dpt = s.dpt ∧ (placeRequest e s).fnu = s.fnu ∧ (placeRequest e s).pending = s.pending ∧
    (placeRequest e s).stb.pages = s.stb.pages := by
  unfold placeRequest
  split <;> simp

@[simp] theorem placeRequests_frame (s : State) :
    (placeRequests s).pif = s.pif ∧ (placeRequests s).hmon = s.hmon ∧ (placeRequests s).owc = s.owc ∧
    (placeRequests s).adm = s.adm ∧ (placeRequests s).mem = s.mem ∧ (placeRequests s).dpt = s.dpt ∧
    (placeRequests s).fnu = s.fnu ∧ (placeRequests s).pending = s.pending ∧
    (placeRequests s).stb.pages = s.stb.pages := by
  unfold placeRequests
  generalize s.ift = l
  induction l generalizing s with
  | nil => simp
  | cons e rest ih => simp [ih]

@[simp] theorem allocateRun_frame (slot : Nat) (p : Path) (o : Nat) (l : List Nat) (s : State) :
    (allocateRun slot p o l s).pif = s.pif ∧ (allocateRun slot p o l s).hmon = s.hmon ∧
    (allocateRun slot p o l s).owc = s.owc ∧ (allocateRun slot p o l s).adm = s.adm ∧
    (allocateRun slot p o l s).ift = s.ift ∧ (allocateRun slot p o l s).mem = s.mem ∧
    (allocateRun slot p o l s).dpt = s.dpt ∧ (allocateRun slot p o l s).fnu = s.fnu ∧
    (allocateRun slot p o l s).pending = s.pending ∧ (allocateRun slot p o l s).stb.grants = s.stb.grants := by
  induction l generalizing o s with
  | nil => simp [allocateRun]
  | cons k rest ih => simp [allocateRun, ih, State.allocate]

@[simp] theorem makeGrant_frame (g : GrantRequest) (s : State) :
    (makeGrant g s).hmon = s.hmon ∧ (makeGrant g s).owc = s.owc ∧ (makeGrant g s).adm = s.adm ∧
    (makeGrant g s).mem = s.mem ∧ (makeGrant g s).dpt = s.dpt ∧ (makeGrant g s).fnu = s.fnu ∧
    (makeGrant g s).pending = s.pending ∧ (∀ q, ((makeGrant g s).pif.get q).link = (s.pif.get q).link) ∧
    (∀ q, ((makeGrant g s).pif.get q).rxq = (s.pif.get q).rxq) ∧
    (∀ q, ((makeGrant g s).pif.get q).assembler = (s.pif.get q).assembler) ∧
    (∀ q, ((makeGrant g s).pif.get q).gapTimer = (s.pif.get q).gapTimer) ∧
    (∀ q, ((makeGrant g s).pif.get q).serverHold = (s.pif.get q).serverHold) ∧
    (∀ q, ((makeGrant g s).pif.get q).sent = (s.pif.get q).sent) := by
  unfold makeGrant
  split <;> simp

@[simp] theorem walkFrom_frame (l : List GrantRequest) (full : Both Bool) (s : State) :
    (walkFrom l full s).hmon = s.hmon ∧ (walkFrom l full s).owc = s.owc ∧ (walkFrom l full s).adm = s.adm ∧
    (walkFrom l full s).mem = s.mem ∧ (walkFrom l full s).dpt = s.dpt ∧ (walkFrom l full s).fnu = s.fnu ∧
    (walkFrom l full s).pending = s.pending ∧ (∀ q, ((walkFrom l full s).pif.get q).link = (s.pif.get q).link) ∧
    (∀ q, ((walkFrom l full s).pif.get q).rxq = (s.pif.get q).rxq) ∧
    (∀ q, ((walkFrom l full s).pif.get q).assembler = (s.pif.get q).assembler) ∧
    (∀ q, ((walkFrom l full s).pif.get q).gapTimer = (s.pif.get q).gapTimer) ∧
    (∀ q, ((walkFrom l full s).pif.get q).serverHold = (s.pif.get q).serverHold) ∧
    (∀ q, ((walkFrom l full s).pif.get q).sent = (s.pif.get q).sent) := by
  induction l generalizing full s with
  | nil => simp [walkFrom]
  | cons g rest ih =>
    unfold walkFrom
    repeat' (first | (simp [ih]; done) | split)

@[simp] theorem walkGrants_frame (s : State) :
    (walkGrants s).hmon = s.hmon ∧ (walkGrants s).owc = s.owc ∧ (walkGrants s).adm = s.adm ∧
    (walkGrants s).mem = s.mem ∧ (walkGrants s).dpt = s.dpt ∧ (walkGrants s).fnu = s.fnu ∧
    (walkGrants s).pending = s.pending ∧ (∀ q, ((walkGrants s).pif.get q).link = (s.pif.get q).link) ∧
    (∀ q, ((walkGrants s).pif.get q).rxq = (s.pif.get q).rxq) ∧
    (∀ q, ((walkGrants s).pif.get q).assembler = (s.pif.get q).assembler) ∧
    (∀ q, ((walkGrants s).pif.get q).gapTimer = (s.pif.get q).gapTimer) ∧
    (∀ q, ((walkGrants s).pif.get q).serverHold = (s.pif.get q).serverHold) ∧
    (∀ q, ((walkGrants s).pif.get q).sent = (s.pif.get q).sent) := by
  simp [walkGrants]

end Sys2Proof.Machine
end

