-- ==== Sys2Proof/Laws/FramesDrive.lean ====
section
/-! SUPPORT. What each operation of Machine/Drive.lean leaves as it is. -/

namespace Sys2Proof.Machine

@[simp] theorem issueReserved_frame (s : State) :
    (issueReserved s).pif = s.pif ∧ (issueReserved s).hmon = s.hmon ∧ (issueReserved s).owc = s.owc ∧
    (issueReserved s).adm = s.adm ∧ (issueReserved s).ift = s.ift ∧ (issueReserved s).stb = s.stb ∧
    (issueReserved s).mem = s.mem ∧ (issueReserved s).fnu = s.fnu ∧ (issueReserved s).pending = s.pending ∧
    (issueReserved s).dpt.state = s.dpt.state ∧ (issueReserved s).dpt.cause = s.dpt.cause ∧
    (issueReserved s).dpt.identity = s.dpt.identity ∧ (issueReserved s).dpt.referenceMark = s.dpt.referenceMark ∧
    (issueReserved s).dpt.slotCount = s.dpt.slotCount ∧
    (issueReserved s).dpt.identifyFailures = s.dpt.identifyFailures ∧
    (issueReserved s).dpt.resetTimer = s.dpt.resetTimer ∧ (issueReserved s).dpt.present = s.dpt.present := by
  unfold issueReserved
  repeat' (first | (and_intros <;> rfl) | split)

@[simp] theorem requestBlockOp_frame (op : BlockOp) (s : State) :
    (requestBlockOp op s).pif = s.pif ∧ (requestBlockOp op s).hmon = s.hmon ∧ (requestBlockOp op s).owc = s.owc ∧
    (requestBlockOp op s).adm = s.adm ∧ (requestBlockOp op s).ift = s.ift ∧ (requestBlockOp op s).stb = s.stb ∧
    (requestBlockOp op s).mem = s.mem ∧ (requestBlockOp op s).fnu = s.fnu ∧
    (requestBlockOp op s).pending = s.pending ∧ (requestBlockOp op s).dpt.state = s.dpt.state ∧
    (requestBlockOp op s).dpt.cause = s.dpt.cause ∧ (requestBlockOp op s).dpt.identity = s.dpt.identity ∧
    (requestBlockOp op s).dpt.referenceMark = s.dpt.referenceMark ∧
    (requestBlockOp op s).dpt.slotCount = s.dpt.slotCount ∧
    (requestBlockOp op s).dpt.identifyFailures = s.dpt.identifyFailures ∧
    (requestBlockOp op s).dpt.resetTimer = s.dpt.resetTimer ∧ (requestBlockOp op s).dpt.present = s.dpt.present := by
  unfold requestBlockOp
  split <;> simp

@[simp] theorem issueSegment_frame (driveSlot : Nat) (e : Entry) (run : Run) (s : State) :
    (issueSegment driveSlot e run s).pif = s.pif ∧ (issueSegment driveSlot e run s).hmon = s.hmon ∧
    (issueSegment driveSlot e run s).owc = s.owc ∧ (issueSegment driveSlot e run s).adm = s.adm ∧
    (issueSegment driveSlot e run s).mem = s.mem ∧ (issueSegment driveSlot e run s).fnu = s.fnu ∧
    (issueSegment driveSlot e run s).pending = s.pending ∧ (issueSegment driveSlot e run s).dpt.state = s.dpt.state ∧
    (issueSegment driveSlot e run s).dpt.cause = s.dpt.cause ∧
    (issueSegment driveSlot e run s).dpt.identity = s.dpt.identity ∧
    (issueSegment driveSlot e run s).dpt.referenceMark = s.dpt.referenceMark ∧
    (issueSegment driveSlot e run s).dpt.slotCount = s.dpt.slotCount ∧
    (issueSegment driveSlot e run s).dpt.request = s.dpt.request ∧
    (issueSegment driveSlot e run s).dpt.identifyFailures = s.dpt.identifyFailures ∧
    (issueSegment driveSlot e run s).dpt.resetTimer = s.dpt.resetTimer ∧
    (issueSegment driveSlot e run s).dpt.present = s.dpt.present ∧
    (issueSegment driveSlot e run s).stb.grants = s.stb.grants := by
  unfold issueSegment
  repeat' (first | (and_intros <;> rfl) | split)

theorem arbiterGift_frame {s t : State} (h : arbiterGift s = some t) :
    (t).hmon = s.hmon ∧ (t).owc = s.owc ∧ (t).adm = s.adm ∧ (t).mem = s.mem ∧ (t).fnu = s.fnu ∧
    (t).pending = s.pending ∧ (t).dpt.state = s.dpt.state ∧ (t).dpt.cause = s.dpt.cause ∧
    (t).dpt.identity = s.dpt.identity ∧ (t).dpt.referenceMark = s.dpt.referenceMark ∧
    (t).dpt.slotCount = s.dpt.slotCount ∧ (t).dpt.request = s.dpt.request ∧
    (t).dpt.identifyFailures = s.dpt.identifyFailures ∧ (t).dpt.resetTimer = s.dpt.resetTimer ∧
    (t).dpt.present = s.dpt.present ∧ (∀ q, ((t).pif.get q).link = (s.pif.get q).link) ∧
    (∀ q, ((t).pif.get q).rxq = (s.pif.get q).rxq) ∧ (∀ q, ((t).pif.get q).assembler = (s.pif.get q).assembler) ∧
    (∀ q, ((t).pif.get q).gapTimer = (s.pif.get q).gapTimer) ∧
    (∀ q, ((t).pif.get q).serverHold = (s.pif.get q).serverHold) ∧
    (∀ q, ((t).pif.get q).sent = (s.pif.get q).sent) := by
  unfold arbiterGift at h
  repeat' (first | (simp at h; done) | (simp at h; subst h; simp; done) | split at h)

@[simp] theorem arbiterRuns_frame (k : Nat) (s : State) :
    (arbiterRuns k s).hmon = s.hmon ∧ (arbiterRuns k s).owc = s.owc ∧ (arbiterRuns k s).adm = s.adm ∧
    (arbiterRuns k s).mem = s.mem ∧ (arbiterRuns k s).fnu = s.fnu ∧ (arbiterRuns k s).pending = s.pending ∧
    (arbiterRuns k s).dpt.state = s.dpt.state ∧ (arbiterRuns k s).dpt.cause = s.dpt.cause ∧
    (arbiterRuns k s).dpt.identity = s.dpt.identity ∧ (arbiterRuns k s).dpt.referenceMark = s.dpt.referenceMark ∧
    (arbiterRuns k s).dpt.slotCount = s.dpt.slotCount ∧ (arbiterRuns k s).dpt.request = s.dpt.request ∧
    (arbiterRuns k s).dpt.identifyFailures = s.dpt.identifyFailures ∧
    (arbiterRuns k s).dpt.resetTimer = s.dpt.resetTimer ∧ (arbiterRuns k s).dpt.present = s.dpt.present ∧
    (∀ q, ((arbiterRuns k s).pif.get q).link = (s.pif.get q).link) ∧
    (∀ q, ((arbiterRuns k s).pif.get q).rxq = (s.pif.get q).rxq) ∧
    (∀ q, ((arbiterRuns k s).pif.get q).assembler = (s.pif.get q).assembler) ∧
    (∀ q, ((arbiterRuns k s).pif.get q).gapTimer = (s.pif.get q).gapTimer) ∧
    (∀ q, ((arbiterRuns k s).pif.get q).serverHold = (s.pif.get q).serverHold) ∧
    (∀ q, ((arbiterRuns k s).pif.get q).sent = (s.pif.get q).sent) := by
  induction k generalizing s with
  | zero => simp [arbiterRuns]
  | succ n ih =>
    unfold arbiterRuns
    split
    · rename_i t h
      simp [ih, arbiterGift_frame h]
    · simp

@[simp] theorem runArbiter_frame (s : State) :
    (runArbiter s).hmon = s.hmon ∧ (runArbiter s).owc = s.owc ∧ (runArbiter s).adm = s.adm ∧
    (runArbiter s).mem = s.mem ∧ (runArbiter s).fnu = s.fnu ∧ (runArbiter s).pending = s.pending ∧
    (runArbiter s).dpt.state = s.dpt.state ∧ (runArbiter s).dpt.cause = s.dpt.cause ∧
    (runArbiter s).dpt.identity = s.dpt.identity ∧ (runArbiter s).dpt.referenceMark = s.dpt.referenceMark ∧
    (runArbiter s).dpt.slotCount = s.dpt.slotCount ∧ (runArbiter s).dpt.request = s.dpt.request ∧
    (runArbiter s).dpt.identifyFailures = s.dpt.identifyFailures ∧ (runArbiter s).dpt.resetTimer = s.dpt.resetTimer ∧
    (runArbiter s).dpt.present = s.dpt.present ∧ (∀ q, ((runArbiter s).pif.get q).link = (s.pif.get q).link) ∧
    (∀ q, ((runArbiter s).pif.get q).rxq = (s.pif.get q).rxq) ∧
    (∀ q, ((runArbiter s).pif.get q).assembler = (s.pif.get q).assembler) ∧
    (∀ q, ((runArbiter s).pif.get q).gapTimer = (s.pif.get q).gapTimer) ∧
    (∀ q, ((runArbiter s).pif.get q).serverHold = (s.pif.get q).serverHold) ∧
    (∀ q, ((runArbiter s).pif.get q).sent = (s.pif.get q).sent) := by
  simp [runArbiter]

@[simp] theorem startIdentify_frame (s : State) :
    (startIdentify s).pif = s.pif ∧ (startIdentify s).hmon = s.hmon ∧ (startIdentify s).owc = s.owc ∧
    (startIdentify s).adm = s.adm ∧ (startIdentify s).ift = s.ift ∧ (startIdentify s).stb = s.stb ∧
    (startIdentify s).mem = s.mem ∧ (startIdentify s).fnu = s.fnu ∧ (startIdentify s).pending = s.pending ∧
    (startIdentify s).dpt.cause = s.dpt.cause ∧ (startIdentify s).dpt.identity = s.dpt.identity ∧
    (startIdentify s).dpt.referenceMark = s.dpt.referenceMark ∧ (startIdentify s).dpt.slotCount = s.dpt.slotCount ∧
    (startIdentify s).dpt.request = s.dpt.request ∧ (startIdentify s).dpt.identifyFailures = s.dpt.identifyFailures ∧
    (startIdentify s).dpt.resetTimer = s.dpt.resetTimer ∧ (startIdentify s).dpt.present = s.dpt.present := by
  unfold startIdentify
  repeat' (first | (and_intros <;> rfl) | split)

end Sys2Proof.Machine
end

