-- ==== Sys2Proof/Laws/FramesOwnership.lean ====
section
/-! SUPPORT. What each operation of Machine/Ownership.lean leaves as it is. -/

namespace Sys2Proof.Machine

@[simp] theorem sendNotice_frame (p : Path) (s : State) :
    (sendNotice p s).hmon = s.hmon ∧ (sendNotice p s).owc = s.owc ∧ (sendNotice p s).adm = s.adm ∧
    (sendNotice p s).ift = s.ift ∧ (sendNotice p s).stb = s.stb ∧ (sendNotice p s).mem = s.mem ∧
    (sendNotice p s).dpt = s.dpt ∧ (sendNotice p s).fnu = s.fnu ∧ (sendNotice p s).pending = s.pending ∧
    (∀ q, ((sendNotice p s).pif.get q).link = (s.pif.get q).link) ∧
    (∀ q, ((sendNotice p s).pif.get q).rxq = (s.pif.get q).rxq) ∧
    (∀ q, ((sendNotice p s).pif.get q).assembler = (s.pif.get q).assembler) ∧
    (∀ q, ((sendNotice p s).pif.get q).gapTimer = (s.pif.get q).gapTimer) ∧
    (∀ q, ((sendNotice p s).pif.get q).serverHold = (s.pif.get q).serverHold) ∧
    (∀ q, ((sendNotice p s).pif.get q).partHold = (s.pif.get q).partHold) ∧
    (∀ q, ((sendNotice p s).pif.get q).sent = (s.pif.get q).sent) := by
  simp [sendNotice]

@[simp] theorem sendNotices_frame (s : State) :
    (sendNotices s).hmon = s.hmon ∧ (sendNotices s).owc = s.owc ∧ (sendNotices s).adm = s.adm ∧
    (sendNotices s).ift = s.ift ∧ (sendNotices s).stb = s.stb ∧ (sendNotices s).mem = s.mem ∧
    (sendNotices s).dpt = s.dpt ∧ (sendNotices s).fnu = s.fnu ∧ (sendNotices s).pending = s.pending ∧
    (∀ q, ((sendNotices s).pif.get q).link = (s.pif.get q).link) ∧
    (∀ q, ((sendNotices s).pif.get q).rxq = (s.pif.get q).rxq) ∧
    (∀ q, ((sendNotices s).pif.get q).assembler = (s.pif.get q).assembler) ∧
    (∀ q, ((sendNotices s).pif.get q).gapTimer = (s.pif.get q).gapTimer) ∧
    (∀ q, ((sendNotices s).pif.get q).serverHold = (s.pif.get q).serverHold) ∧
    (∀ q, ((sendNotices s).pif.get q).partHold = (s.pif.get q).partHold) ∧
    (∀ q, ((sendNotices s).pif.get q).sent = (s.pif.get q).sent) := by
  simp [sendNotices]

@[simp] theorem produceReply_frame (status : Status) (r : OwedReply) (s : State) :
    (produceReply status r s).hmon = s.hmon ∧ (produceReply status r s).owc = s.owc ∧
    (produceReply status r s).adm = s.adm ∧ (produceReply status r s).ift = s.ift ∧
    (produceReply status r s).stb = s.stb ∧ (produceReply status r s).mem = s.mem ∧
    (produceReply status r s).dpt = s.dpt ∧ (produceReply status r s).fnu = s.fnu ∧
    (produceReply status r s).pending = s.pending ∧
    (∀ q, ((produceReply status r s).pif.get q).link = (s.pif.get q).link) ∧
    (∀ q, ((produceReply status r s).pif.get q).rxq = (s.pif.get q).rxq) ∧
    (∀ q, ((produceReply status r s).pif.get q).assembler = (s.pif.get q).assembler) ∧
    (∀ q, ((produceReply status r s).pif.get q).gapTimer = (s.pif.get q).gapTimer) ∧
    (∀ q, ((produceReply status r s).pif.get q).serverHold = (s.pif.get q).serverHold) ∧
    (∀ q, ((produceReply status r s).pif.get q).partHold = (s.pif.get q).partHold) ∧
    (∀ q, ((produceReply status r s).pif.get q).sent = (s.pif.get q).sent) := by
  simp [produceReply]

@[simp] theorem addOrphan_frame (r : OrphanRecord) (s : State) :
    (addOrphan r s).hmon = s.hmon ∧ (addOrphan r s).adm = s.adm ∧ (addOrphan r s).ift = s.ift ∧
    (addOrphan r s).stb = s.stb ∧ (addOrphan r s).mem = s.mem ∧ (addOrphan r s).dpt = s.dpt ∧
    (addOrphan r s).pending = s.pending ∧ (addOrphan r s).owc.state = s.owc.state ∧
    (addOrphan r s).owc.owner = s.owc.owner ∧ (addOrphan r s).owc.epoch = s.owc.epoch ∧
    (addOrphan r s).owc.commitCount = s.owc.commitCount ∧ (addOrphan r s).owc.drainStage = s.owc.drainStage ∧
    (addOrphan r s).owc.drainCause = s.owc.drainCause ∧ (addOrphan r s).owc.successor = s.owc.successor ∧
    (addOrphan r s).owc.purpose = s.owc.purpose ∧ (addOrphan r s).owc.frozenCause = s.owc.frozenCause ∧
    (addOrphan r s).owc.roles = s.owc.roles ∧ (addOrphan r s).owc.policy = s.owc.policy ∧
    (addOrphan r s).owc.pendingPolicy = s.owc.pendingPolicy ∧ (addOrphan r s).owc.contents = s.owc.contents ∧
    (addOrphan r s).owc.attempt = s.owc.attempt ∧ (addOrphan r s).owc.owedReplies = s.owc.owedReplies ∧
    (addOrphan r s).owc.waitingTransition = s.owc.waitingTransition ∧ (addOrphan r s).owc.history = s.owc.history ∧
    (addOrphan r s).owc.graceTimer = s.owc.graceTimer ∧ (addOrphan r s).owc.drainTimer = s.owc.drainTimer ∧
    (addOrphan r s).owc.drainedPath = s.owc.drainedPath ∧ (addOrphan r s).fnu.masks = s.fnu.masks ∧
    (addOrphan r s).fnu.cursors = s.fnu.cursors ∧ (addOrphan r s).fnu.resetCause = s.fnu.resetCause ∧
    (addOrphan r s).fnu.postedLost = s.fnu.postedLost ∧ (addOrphan r s).fnu.deciding = s.fnu.deciding ∧
    (∀ q, ((addOrphan r s).pif.get q).link = (s.pif.get q).link) ∧
    (∀ q, ((addOrphan r s).pif.get q).rxq = (s.pif.get q).rxq) ∧
    (∀ q, ((addOrphan r s).pif.get q).assembler = (s.pif.get q).assembler) ∧
    (∀ q, ((addOrphan r s).pif.get q).gapTimer = (s.pif.get q).gapTimer) ∧
    (∀ q, ((addOrphan r s).pif.get q).serverHold = (s.pif.get q).serverHold) ∧
    (∀ q, ((addOrphan r s).pif.get q).partHold = (s.pif.get q).partHold) ∧
    (∀ q, ((addOrphan r s).pif.get q).sent = (s.pif.get q).sent) := by
  simp [addOrphan]

@[simp] theorem beginCommit_frame (purpose : Purpose) (c : Contents) (s : State) :
    (beginCommit purpose c s).pif = s.pif ∧ (beginCommit purpose c s).hmon = s.hmon ∧
    (beginCommit purpose c s).adm = s.adm ∧ (beginCommit purpose c s).ift = s.ift ∧
    (beginCommit purpose c s).stb = s.stb ∧ (beginCommit purpose c s).fnu = s.fnu ∧
    (beginCommit purpose c s).pending = s.pending ∧ (beginCommit purpose c s).owc.state = s.owc.state ∧
    (beginCommit purpose c s).owc.owner = s.owc.owner ∧ (beginCommit purpose c s).owc.epoch = s.owc.epoch ∧
    (beginCommit purpose c s).owc.commitCount = s.owc.commitCount ∧
    (beginCommit purpose c s).owc.drainStage = s.owc.drainStage ∧
    (beginCommit purpose c s).owc.drainCause = s.owc.drainCause ∧
    (beginCommit purpose c s).owc.successor = s.owc.successor ∧
    (beginCommit purpose c s).owc.frozenCause = s.owc.frozenCause ∧
    (beginCommit purpose c s).owc.roles = s.owc.roles ∧ (beginCommit purpose c s).owc.policy = s.owc.policy ∧
    (beginCommit purpose c s).owc.pendingPolicy = s.owc.pendingPolicy ∧
    (beginCommit purpose c s).owc.owedReplies = s.owc.owedReplies ∧
    (beginCommit purpose c s).owc.history = s.owc.history ∧ (beginCommit purpose c s).owc.orphans = s.owc.orphans ∧
    (beginCommit purpose c s).owc.dropped = s.owc.dropped ∧
    (beginCommit purpose c s).owc.graceTimer = s.owc.graceTimer ∧
    (beginCommit purpose c s).owc.drainTimer = s.owc.drainTimer ∧
    (beginCommit purpose c s).owc.drainedPath = s.owc.drainedPath ∧
    (beginCommit purpose c s).owc.orphansAdded = s.owc.orphansAdded ∧
    (beginCommit purpose c s).dpt.state = s.dpt.state ∧ (beginCommit purpose c s).dpt.cause = s.dpt.cause ∧
    (beginCommit purpose c s).dpt.identity = s.dpt.identity ∧
    (beginCommit purpose c s).dpt.referenceMark = s.dpt.referenceMark ∧
    (beginCommit purpose c s).dpt.slotCount = s.dpt.slotCount ∧
    (beginCommit purpose c s).dpt.identifyFailures = s.dpt.identifyFailures ∧
    (beginCommit purpose c s).dpt.resetTimer = s.dpt.resetTimer ∧
    (beginCommit purpose c s).dpt.present = s.dpt.present := by
  simp [beginCommit]

@[simp] theorem beginTransition_frame (purpose : Purpose) (s : State) :
    (beginTransition purpose s).pif = s.pif ∧ (beginTransition purpose s).hmon = s.hmon ∧
    (beginTransition purpose s).adm = s.adm ∧ (beginTransition purpose s).ift = s.ift ∧
    (beginTransition purpose s).stb = s.stb ∧ (beginTransition purpose s).fnu = s.fnu ∧
    (beginTransition purpose s).pending = s.pending ∧ (beginTransition purpose s).owc.state = s.owc.state ∧
    (beginTransition purpose s).owc.owner = s.owc.owner ∧ (beginTransition purpose s).owc.epoch = s.owc.epoch ∧
    (beginTransition purpose s).owc.commitCount = s.owc.commitCount ∧
    (beginTransition purpose s).owc.drainStage = s.owc.drainStage ∧
    (beginTransition purpose s).owc.drainCause = s.owc.drainCause ∧
    (beginTransition purpose s).owc.successor = s.owc.successor ∧
    (beginTransition purpose s).owc.frozenCause = s.owc.frozenCause ∧
    (beginTransition purpose s).owc.roles = s.owc.roles ∧ (beginTransition purpose s).owc.policy = s.owc.policy ∧
    (beginTransition purpose s).owc.pendingPolicy = s.owc.pendingPolicy ∧
    (beginTransition purpose s).owc.owedReplies = s.owc.owedReplies ∧
    (beginTransition purpose s).owc.history = s.owc.history ∧
    (beginTransition purpose s).owc.orphans = s.owc.orphans ∧
    (beginTransition purpose s).owc.dropped = s.owc.dropped ∧
    (beginTransition purpose s).owc.graceTimer = s.owc.graceTimer ∧
    (beginTransition purpose s).owc.drainTimer = s.owc.drainTimer ∧
    (beginTransition purpose s).owc.drainedPath = s.owc.drainedPath ∧
    (beginTransition purpose s).owc.orphansAdded = s.owc.orphansAdded ∧
    (beginTransition purpose s).dpt.state = s.dpt.state ∧ (beginTransition purpose s).dpt.cause = s.dpt.cause ∧
    (beginTransition purpose s).dpt.identity = s.dpt.identity ∧
    (beginTransition purpose s).dpt.referenceMark = s.dpt.referenceMark ∧
    (beginTransition purpose s).dpt.slotCount = s.dpt.slotCount ∧
    (beginTransition purpose s).dpt.identifyFailures = s.dpt.identifyFailures ∧
    (beginTransition purpose s).dpt.resetTimer = s.dpt.resetTimer ∧
    (beginTransition purpose s).dpt.present = s.dpt.present := by
  unfold beginTransition
  split <;> simp

@[simp] theorem endDrain_frame (cause : DrainCause) (drained : Path) (s : State) :
    (endDrain cause drained s).pif = s.pif ∧ (endDrain cause drained s).hmon = s.hmon ∧
    (endDrain cause drained s).adm = s.adm ∧ (endDrain cause drained s).ift = s.ift ∧
    (endDrain cause drained s).stb = s.stb ∧ (endDrain cause drained s).fnu = s.fnu ∧
    (endDrain cause drained s).pending = s.pending ∧ (endDrain cause drained s).owc.owner = s.owc.owner ∧
    (endDrain cause drained s).owc.epoch = s.owc.epoch ∧
    (endDrain cause drained s).owc.commitCount = s.owc.commitCount ∧
    (endDrain cause drained s).owc.drainStage = s.owc.drainStage ∧
    (endDrain cause drained s).owc.drainCause = s.owc.drainCause ∧
    (endDrain cause drained s).owc.frozenCause = s.owc.frozenCause ∧
    (endDrain cause drained s).owc.policy = s.owc.policy ∧
    (endDrain cause drained s).owc.pendingPolicy = s.owc.pendingPolicy ∧
    (endDrain cause drained s).owc.owedReplies = s.owc.owedReplies ∧
    (endDrain cause drained s).owc.history = s.owc.history ∧ (endDrain cause drained s).owc.orphans = s.owc.orphans ∧
    (endDrain cause drained s).owc.dropped = s.owc.dropped ∧
    (endDrain cause drained s).owc.graceTimer = s.owc.graceTimer ∧
    (endDrain cause drained s).owc.drainedPath = s.owc.drainedPath ∧
    (endDrain cause drained s).owc.orphansAdded = s.owc.orphansAdded ∧
    (endDrain cause drained s).dpt.state = s.dpt.state ∧ (endDrain cause drained s).dpt.cause = s.dpt.cause ∧
    (endDrain cause drained s).dpt.identity = s.dpt.identity ∧
    (endDrain cause drained s).dpt.referenceMark = s.dpt.referenceMark ∧
    (endDrain cause drained s).dpt.slotCount = s.dpt.slotCount ∧
    (endDrain cause drained s).dpt.identifyFailures = s.dpt.identifyFailures ∧
    (endDrain cause drained s).dpt.resetTimer = s.dpt.resetTimer ∧
    (endDrain cause drained s).dpt.present = s.dpt.present := by
  simp [endDrain, refreshRoles]

@[simp] theorem checkDrainEnd_frame (s : State) :
    (checkDrainEnd s).pif = s.pif ∧ (checkDrainEnd s).hmon = s.hmon ∧ (checkDrainEnd s).adm = s.adm ∧
    (checkDrainEnd s).ift = s.ift ∧ (checkDrainEnd s).stb = s.stb ∧ (checkDrainEnd s).fnu = s.fnu ∧
    (checkDrainEnd s).pending = s.pending ∧ (checkDrainEnd s).owc.owner = s.owc.owner ∧
    (checkDrainEnd s).owc.epoch = s.owc.epoch ∧ (checkDrainEnd s).owc.commitCount = s.owc.commitCount ∧
    (checkDrainEnd s).owc.drainStage = s.owc.drainStage ∧ (checkDrainEnd s).owc.drainCause = s.owc.drainCause ∧
    (checkDrainEnd s).owc.frozenCause = s.owc.frozenCause ∧ (checkDrainEnd s).owc.policy = s.owc.policy ∧
    (checkDrainEnd s).owc.pendingPolicy = s.owc.pendingPolicy ∧
    (checkDrainEnd s).owc.owedReplies = s.owc.owedReplies ∧ (checkDrainEnd s).owc.history = s.owc.history ∧
    (checkDrainEnd s).owc.orphans = s.owc.orphans ∧ (checkDrainEnd s).owc.dropped = s.owc.dropped ∧
    (checkDrainEnd s).owc.graceTimer = s.owc.graceTimer ∧ (checkDrainEnd s).owc.drainedPath = s.owc.drainedPath ∧
    (checkDrainEnd s).owc.orphansAdded = s.owc.orphansAdded ∧ (checkDrainEnd s).dpt.state = s.dpt.state ∧
    (checkDrainEnd s).dpt.cause = s.dpt.cause ∧ (checkDrainEnd s).dpt.identity = s.dpt.identity ∧
    (checkDrainEnd s).dpt.referenceMark = s.dpt.referenceMark ∧ (checkDrainEnd s).dpt.slotCount = s.dpt.slotCount ∧
    (checkDrainEnd s).dpt.identifyFailures = s.dpt.identifyFailures ∧
    (checkDrainEnd s).dpt.resetTimer = s.dpt.resetTimer ∧ (checkDrainEnd s).dpt.present = s.dpt.present := by
  unfold checkDrainEnd
  repeat' (first | (simp; done) | split)

end Sys2Proof.Machine
end

