-- ==== Sys2Proof/Laws/FramesInFlight.lean ====
section
/-! SUPPORT. What each operation of Machine/InFlight.lean leaves as it is. -/

namespace Sys2Proof.Machine

@[simp] theorem offerReadData_frame (p : Path) (s : State) :
    (offerReadData p s).hmon = s.hmon ∧ (offerReadData p s).owc = s.owc ∧ (offerReadData p s).adm = s.adm ∧
    (offerReadData p s).ift = s.ift ∧ (offerReadData p s).stb = s.stb ∧ (offerReadData p s).mem = s.mem ∧
    (offerReadData p s).dpt = s.dpt ∧ (offerReadData p s).fnu = s.fnu ∧ (offerReadData p s).pending = s.pending ∧
    (∀ q, ((offerReadData p s).pif.get q).link = (s.pif.get q).link) ∧
    (∀ q, ((offerReadData p s).pif.get q).rxq = (s.pif.get q).rxq) ∧
    (∀ q, ((offerReadData p s).pif.get q).assembler = (s.pif.get q).assembler) ∧
    (∀ q, ((offerReadData p s).pif.get q).gapTimer = (s.pif.get q).gapTimer) ∧
    (∀ q, ((offerReadData p s).pif.get q).serverHold = (s.pif.get q).serverHold) ∧
    (∀ q, ((offerReadData p s).pif.get q).partHold = (s.pif.get q).partHold) ∧
    (∀ q, ((offerReadData p s).pif.get q).sent = (s.pif.get q).sent) := by
  unfold offerReadData
  repeat' (first | (simp; done) | split)

@[simp] theorem follow_frame (before s : State) :
    (follow before s).hmon = s.hmon ∧ (follow before s).owc = s.owc ∧ (follow before s).adm = s.adm ∧
    (follow before s).mem = s.mem ∧ (follow before s).fnu = s.fnu ∧ (follow before s).pending = s.pending ∧
    (follow before s).dpt.state = s.dpt.state ∧ (follow before s).dpt.cause = s.dpt.cause ∧
    (follow before s).dpt.identity = s.dpt.identity ∧ (follow before s).dpt.referenceMark = s.dpt.referenceMark ∧
    (follow before s).dpt.slotCount = s.dpt.slotCount ∧ (follow before s).dpt.request = s.dpt.request ∧
    (follow before s).dpt.identifyFailures = s.dpt.identifyFailures ∧
    (follow before s).dpt.resetTimer = s.dpt.resetTimer ∧ (follow before s).dpt.present = s.dpt.present ∧
    (∀ q, ((follow before s).pif.get q).link = (s.pif.get q).link) ∧
    (∀ q, ((follow before s).pif.get q).rxq = (s.pif.get q).rxq) ∧
    (∀ q, ((follow before s).pif.get q).assembler = (s.pif.get q).assembler) ∧
    (∀ q, ((follow before s).pif.get q).gapTimer = (s.pif.get q).gapTimer) ∧
    (∀ q, ((follow before s).pif.get q).serverHold = (s.pif.get q).serverHold) ∧
    (∀ q, ((follow before s).pif.get q).sent = (s.pif.get q).sent) := by
  simp [follow]

@[simp] theorem endEntry_frame (slot : Nat) (st : EndStatus) (s : State) :
    (endEntry slot st s).pif = s.pif ∧ (endEntry slot st s).hmon = s.hmon ∧ (endEntry slot st s).owc = s.owc ∧
    (endEntry slot st s).adm = s.adm ∧ (endEntry slot st s).mem = s.mem ∧ (endEntry slot st s).dpt = s.dpt ∧
    (endEntry slot st s).fnu = s.fnu ∧ (endEntry slot st s).pending = s.pending := by
  simp [endEntry]

@[simp] theorem decideEnd_frame (st : EndStatus) (slot : Nat) (s : State) :
    (decideEnd st slot s).pif = s.pif ∧ (decideEnd st slot s).hmon = s.hmon ∧ (decideEnd st slot s).owc = s.owc ∧
    (decideEnd st slot s).adm = s.adm ∧ (decideEnd st slot s).mem = s.mem ∧ (decideEnd st slot s).dpt = s.dpt ∧
    (decideEnd st slot s).fnu = s.fnu ∧ (decideEnd st slot s).pending = s.pending := by
  unfold decideEnd
  repeat' (first | (and_intros <;> rfl) | split)

@[simp] theorem discardFetched_frame (slot : Nat) (s : State) :
    (discardFetched slot s).pif = s.pif ∧ (discardFetched slot s).hmon = s.hmon ∧
    (discardFetched slot s).owc = s.owc ∧ (discardFetched slot s).adm = s.adm ∧ (discardFetched slot s).ift = s.ift ∧
    (discardFetched slot s).mem = s.mem ∧ (discardFetched slot s).dpt = s.dpt ∧ (discardFetched slot s).fnu = s.fnu ∧
    (discardFetched slot s).pending = s.pending ∧ (discardFetched slot s).stb.grants = s.stb.grants := by
  unfold discardFetched
  repeat' (first | (and_intros <;> rfl) | split)

@[simp] theorem dropEntry_frame (slot : Nat) (s : State) :
    (dropEntry slot s).pif = s.pif ∧ (dropEntry slot s).hmon = s.hmon ∧ (dropEntry slot s).owc = s.owc ∧
    (dropEntry slot s).adm = s.adm ∧ (dropEntry slot s).mem = s.mem ∧ (dropEntry slot s).dpt = s.dpt ∧
    (dropEntry slot s).fnu = s.fnu ∧ (dropEntry slot s).pending = s.pending := by
  simp [dropEntry]

@[simp] theorem finalReply_frame (e : Entry) (status : Status) (s : State) :
    (finalReply e status s).hmon = s.hmon ∧ (finalReply e status s).owc = s.owc ∧
    (finalReply e status s).adm = s.adm ∧ (finalReply e status s).mem = s.mem ∧ (finalReply e status s).dpt = s.dpt ∧
    (finalReply e status s).fnu = s.fnu ∧ (finalReply e status s).pending = s.pending ∧
    (∀ q, ((finalReply e status s).pif.get q).link = (s.pif.get q).link) ∧
    (∀ q, ((finalReply e status s).pif.get q).rxq = (s.pif.get q).rxq) ∧
    (∀ q, ((finalReply e status s).pif.get q).assembler = (s.pif.get q).assembler) ∧
    (∀ q, ((finalReply e status s).pif.get q).gapTimer = (s.pif.get q).gapTimer) ∧
    (∀ q, ((finalReply e status s).pif.get q).serverHold = (s.pif.get q).serverHold) ∧
    (∀ q, ((finalReply e status s).pif.get q).partHold = (s.pif.get q).partHold) ∧
    (∀ q, ((finalReply e status s).pif.get q).sent = (s.pif.get q).sent) := by
  unfold finalReply
  split <;> simp

@[simp] theorem reportOrphan_frame (e : Entry) (outcome : Outcome) (s : State) :
    (reportOrphan e outcome s).hmon = s.hmon ∧ (reportOrphan e outcome s).adm = s.adm ∧
    (reportOrphan e outcome s).ift = s.ift ∧ (reportOrphan e outcome s).stb = s.stb ∧
    (reportOrphan e outcome s).mem = s.mem ∧ (reportOrphan e outcome s).dpt = s.dpt ∧
    (reportOrphan e outcome s).pending = s.pending ∧ (reportOrphan e outcome s).owc.state = s.owc.state ∧
    (reportOrphan e outcome s).owc.owner = s.owc.owner ∧ (reportOrphan e outcome s).owc.epoch = s.owc.epoch ∧
    (reportOrphan e outcome s).owc.commitCount = s.owc.commitCount ∧
    (reportOrphan e outcome s).owc.drainStage = s.owc.drainStage ∧
    (reportOrphan e outcome s).owc.drainCause = s.owc.drainCause ∧
    (reportOrphan e outcome s).owc.successor = s.owc.successor ∧
    (reportOrphan e outcome s).owc.purpose = s.owc.purpose ∧
    (reportOrphan e outcome s).owc.frozenCause = s.owc.frozenCause ∧
    (reportOrphan e outcome s).owc.roles = s.owc.roles ∧ (reportOrphan e outcome s).owc.policy = s.owc.policy ∧
    (reportOrphan e outcome s).owc.pendingPolicy = s.owc.pendingPolicy ∧
    (reportOrphan e outcome s).owc.contents = s.owc.contents ∧
    (reportOrphan e outcome s).owc.attempt = s.owc.attempt ∧
    (reportOrphan e outcome s).owc.owedReplies = s.owc.owedReplies ∧
    (reportOrphan e outcome s).owc.waitingTransition = s.owc.waitingTransition ∧
    (reportOrphan e outcome s).owc.history = s.owc.history ∧
    (reportOrphan e outcome s).owc.graceTimer = s.owc.graceTimer ∧
    (reportOrphan e outcome s).owc.drainTimer = s.owc.drainTimer ∧
    (reportOrphan e outcome s).owc.drainedPath = s.owc.drainedPath ∧
    (reportOrphan e outcome s).fnu.masks = s.fnu.masks ∧ (reportOrphan e outcome s).fnu.cursors = s.fnu.cursors ∧
    (reportOrphan e outcome s).fnu.resetCause = s.fnu.resetCause ∧
    (reportOrphan e outcome s).fnu.postedLost = s.fnu.postedLost ∧
    (reportOrphan e outcome s).fnu.deciding = s.fnu.deciding ∧
    (∀ q, ((reportOrphan e outcome s).pif.get q).link = (s.pif.get q).link) ∧
    (∀ q, ((reportOrphan e outcome s).pif.get q).rxq = (s.pif.get q).rxq) ∧
    (∀ q, ((reportOrphan e outcome s).pif.get q).assembler = (s.pif.get q).assembler) ∧
    (∀ q, ((reportOrphan e outcome s).pif.get q).gapTimer = (s.pif.get q).gapTimer) ∧
    (∀ q, ((reportOrphan e outcome s).pif.get q).serverHold = (s.pif.get q).serverHold) ∧
    (∀ q, ((reportOrphan e outcome s).pif.get q).partHold = (s.pif.get q).partHold) ∧
    (∀ q, ((reportOrphan e outcome s).pif.get q).sent = (s.pif.get q).sent) := by
  unfold reportOrphan
  split <;> simp

@[simp] theorem makeReport_frame (e : Entry) (s : State) :
    (makeReport e s).hmon = s.hmon ∧ (makeReport e s).adm = s.adm ∧ (makeReport e s).mem = s.mem ∧
    (makeReport e s).dpt = s.dpt ∧ (makeReport e s).pending = s.pending ∧ (makeReport e s).owc.state = s.owc.state ∧
    (makeReport e s).owc.owner = s.owc.owner ∧ (makeReport e s).owc.epoch = s.owc.epoch ∧
    (makeReport e s).owc.commitCount = s.owc.commitCount ∧ (makeReport e s).owc.drainStage = s.owc.drainStage ∧
    (makeReport e s).owc.drainCause = s.owc.drainCause ∧ (makeReport e s).owc.successor = s.owc.successor ∧
    (makeReport e s).owc.purpose = s.owc.purpose ∧ (makeReport e s).owc.frozenCause = s.owc.frozenCause ∧
    (makeReport e s).owc.roles = s.owc.roles ∧ (makeReport e s).owc.policy = s.owc.policy ∧
    (makeReport e s).owc.pendingPolicy = s.owc.pendingPolicy ∧ (makeReport e s).owc.contents = s.owc.contents ∧
    (makeReport e s).owc.attempt = s.owc.attempt ∧ (makeReport e s).owc.owedReplies = s.owc.owedReplies ∧
    (makeReport e s).owc.waitingTransition = s.owc.waitingTransition ∧ (makeReport e s).owc.history = s.owc.history ∧
    (makeReport e s).owc.graceTimer = s.owc.graceTimer ∧ (makeReport e s).owc.drainTimer = s.owc.drainTimer ∧
    (makeReport e s).owc.drainedPath = s.owc.drainedPath ∧ (makeReport e s).fnu.masks = s.fnu.masks ∧
    (makeReport e s).fnu.cursors = s.fnu.cursors ∧ (makeReport e s).fnu.resetCause = s.fnu.resetCause ∧
    (makeReport e s).fnu.postedLost = s.fnu.postedLost ∧ (makeReport e s).fnu.deciding = s.fnu.deciding ∧
    (∀ q, ((makeReport e s).pif.get q).link = (s.pif.get q).link) ∧
    (∀ q, ((makeReport e s).pif.get q).rxq = (s.pif.get q).rxq) ∧
    (∀ q, ((makeReport e s).pif.get q).assembler = (s.pif.get q).assembler) ∧
    (∀ q, ((makeReport e s).pif.get q).gapTimer = (s.pif.get q).gapTimer) ∧
    (∀ q, ((makeReport e s).pif.get q).serverHold = (s.pif.get q).serverHold) ∧
    (∀ q, ((makeReport e s).pif.get q).partHold = (s.pif.get q).partHold) ∧
    (∀ q, ((makeReport e s).pif.get q).sent = (s.pif.get q).sent) := by
  unfold makeReport
  repeat' (first | (simp; done) | split)

@[simp] theorem reportSlot_frame (slot : Nat) (s : State) :
    (reportSlot slot s).hmon = s.hmon ∧ (reportSlot slot s).adm = s.adm ∧ (reportSlot slot s).mem = s.mem ∧
    (reportSlot slot s).dpt = s.dpt ∧ (reportSlot slot s).pending = s.pending ∧
    (reportSlot slot s).owc.state = s.owc.state ∧ (reportSlot slot s).owc.owner = s.owc.owner ∧
    (reportSlot slot s).owc.epoch = s.owc.epoch ∧ (reportSlot slot s).owc.commitCount = s.owc.commitCount ∧
    (reportSlot slot s).owc.drainStage = s.owc.drainStage ∧ (reportSlot slot s).owc.drainCause = s.owc.drainCause ∧
    (reportSlot slot s).owc.successor = s.owc.successor ∧ (reportSlot slot s).owc.purpose = s.owc.purpose ∧
    (reportSlot slot s).owc.frozenCause = s.owc.frozenCause ∧ (reportSlot slot s).owc.roles = s.owc.roles ∧
    (reportSlot slot s).owc.policy = s.owc.policy ∧ (reportSlot slot s).owc.pendingPolicy = s.owc.pendingPolicy ∧
    (reportSlot slot s).owc.contents = s.owc.contents ∧ (reportSlot slot s).owc.attempt = s.owc.attempt ∧
    (reportSlot slot s).owc.owedReplies = s.owc.owedReplies ∧
    (reportSlot slot s).owc.waitingTransition = s.owc.waitingTransition ∧
    (reportSlot slot s).owc.history = s.owc.history ∧ (reportSlot slot s).owc.graceTimer = s.owc.graceTimer ∧
    (reportSlot slot s).owc.drainTimer = s.owc.drainTimer ∧ (reportSlot slot s).owc.drainedPath = s.owc.drainedPath ∧
    (reportSlot slot s).fnu.masks = s.fnu.masks ∧ (reportSlot slot s).fnu.cursors = s.fnu.cursors ∧
    (reportSlot slot s).fnu.resetCause = s.fnu.resetCause ∧ (reportSlot slot s).fnu.postedLost = s.fnu.postedLost ∧
    (reportSlot slot s).fnu.deciding = s.fnu.deciding ∧
    (∀ q, ((reportSlot slot s).pif.get q).link = (s.pif.get q).link) ∧
    (∀ q, ((reportSlot slot s).pif.get q).rxq = (s.pif.get q).rxq) ∧
    (∀ q, ((reportSlot slot s).pif.get q).assembler = (s.pif.get q).assembler) ∧
    (∀ q, ((reportSlot slot s).pif.get q).gapTimer = (s.pif.get q).gapTimer) ∧
    (∀ q, ((reportSlot slot s).pif.get q).serverHold = (s.pif.get q).serverHold) ∧
    (∀ q, ((reportSlot slot s).pif.get q).partHold = (s.pif.get q).partHold) ∧
    (∀ q, ((reportSlot slot s).pif.get q).sent = (s.pif.get q).sent) := by
  unfold reportSlot
  repeat' (first | (simp; done) | split)

@[simp] theorem reportAll_frame (s : State) :
    (reportAll s).hmon = s.hmon ∧ (reportAll s).adm = s.adm ∧ (reportAll s).mem = s.mem ∧ (reportAll s).dpt = s.dpt ∧
    (reportAll s).pending = s.pending ∧ (reportAll s).owc.state = s.owc.state ∧
    (reportAll s).owc.owner = s.owc.owner ∧ (reportAll s).owc.epoch = s.owc.epoch ∧
    (reportAll s).owc.commitCount = s.owc.commitCount ∧ (reportAll s).owc.drainStage = s.owc.drainStage ∧
    (reportAll s).owc.drainCause = s.owc.drainCause ∧ (reportAll s).owc.successor = s.owc.successor ∧
    (reportAll s).owc.purpose = s.owc.purpose ∧ (reportAll s).owc.frozenCause = s.owc.frozenCause ∧
    (reportAll s).owc.roles = s.owc.roles ∧ (reportAll s).owc.policy = s.owc.policy ∧
    (reportAll s).owc.pendingPolicy = s.owc.pendingPolicy ∧ (reportAll s).owc.contents = s.owc.contents ∧
    (reportAll s).owc.attempt = s.owc.attempt ∧ (reportAll s).owc.owedReplies = s.owc.owedReplies ∧
    (reportAll s).owc.waitingTransition = s.owc.waitingTransition ∧ (reportAll s).owc.history = s.owc.history ∧
    (reportAll s).owc.graceTimer = s.owc.graceTimer ∧ (reportAll s).owc.drainTimer = s.owc.drainTimer ∧
    (reportAll s).owc.drainedPath = s.owc.drainedPath ∧ (reportAll s).fnu.masks = s.fnu.masks ∧
    (reportAll s).fnu.cursors = s.fnu.cursors ∧ (reportAll s).fnu.resetCause = s.fnu.resetCause ∧
    (reportAll s).fnu.postedLost = s.fnu.postedLost ∧ (reportAll s).fnu.deciding = s.fnu.deciding ∧
    (∀ q, ((reportAll s).pif.get q).link = (s.pif.get q).link) ∧
    (∀ q, ((reportAll s).pif.get q).rxq = (s.pif.get q).rxq) ∧
    (∀ q, ((reportAll s).pif.get q).assembler = (s.pif.get q).assembler) ∧
    (∀ q, ((reportAll s).pif.get q).gapTimer = (s.pif.get q).gapTimer) ∧
    (∀ q, ((reportAll s).pif.get q).serverHold = (s.pif.get q).serverHold) ∧
    (∀ q, ((reportAll s).pif.get q).partHold = (s.pif.get q).partHold) ∧
    (∀ q, ((reportAll s).pif.get q).sent = (s.pif.get q).sent) := by
  simp [reportAll]

@[simp] theorem conclude_frame (before s : State) :
    (conclude before s).hmon = s.hmon ∧ (conclude before s).adm = s.adm ∧ (conclude before s).pending = s.pending ∧
    (conclude before s).owc.owner = s.owc.owner ∧ (conclude before s).owc.epoch = s.owc.epoch ∧
    (conclude before s).owc.commitCount = s.owc.commitCount ∧ (conclude before s).owc.drainStage = s.owc.drainStage ∧
    (conclude before s).owc.drainCause = s.owc.drainCause ∧ (conclude before s).owc.frozenCause = s.owc.frozenCause ∧
    (conclude before s).owc.policy = s.owc.policy ∧ (conclude before s).owc.pendingPolicy = s.owc.pendingPolicy ∧
    (conclude before s).owc.owedReplies = s.owc.owedReplies ∧ (conclude before s).owc.history = s.owc.history ∧
    (conclude before s).owc.graceTimer = s.owc.graceTimer ∧ (conclude before s).owc.drainedPath = s.owc.drainedPath ∧
    (conclude before s).dpt.state = s.dpt.state ∧ (conclude before s).dpt.cause = s.dpt.cause ∧
    (conclude before s).dpt.identity = s.dpt.identity ∧ (conclude before s).dpt.referenceMark = s.dpt.referenceMark ∧
    (conclude before s).dpt.slotCount = s.dpt.slotCount ∧
    (conclude before s).dpt.identifyFailures = s.dpt.identifyFailures ∧
    (conclude before s).dpt.resetTimer = s.dpt.resetTimer ∧ (conclude before s).dpt.present = s.dpt.present ∧
    (conclude before s).fnu.masks = s.fnu.masks ∧ (conclude before s).fnu.cursors = s.fnu.cursors ∧
    (conclude before s).fnu.resetCause = s.fnu.resetCause ∧ (conclude before s).fnu.postedLost = s.fnu.postedLost ∧
    (conclude before s).fnu.deciding = s.fnu.deciding ∧
    (∀ q, ((conclude before s).pif.get q).link = (s.pif.get q).link) ∧
    (∀ q, ((conclude before s).pif.get q).rxq = (s.pif.get q).rxq) ∧
    (∀ q, ((conclude before s).pif.get q).assembler = (s.pif.get q).assembler) ∧
    (∀ q, ((conclude before s).pif.get q).gapTimer = (s.pif.get q).gapTimer) ∧
    (∀ q, ((conclude before s).pif.get q).serverHold = (s.pif.get q).serverHold) ∧
    (∀ q, ((conclude before s).pif.get q).sent = (s.pif.get q).sent) := by
  simp [conclude]

@[simp] theorem enterWaiting_frame (p : Path) (s : State) :
    (enterWaiting p s).hmon = s.hmon ∧ (enterWaiting p s).owc = s.owc ∧ (enterWaiting p s).adm = s.adm ∧
    (enterWaiting p s).mem = s.mem ∧ (enterWaiting p s).dpt = s.dpt ∧ (enterWaiting p s).fnu = s.fnu ∧
    (enterWaiting p s).pending = s.pending ∧ (∀ q, ((enterWaiting p s).pif.get q).link = (s.pif.get q).link) ∧
    (∀ q, ((enterWaiting p s).pif.get q).rxq = (s.pif.get q).rxq) ∧
    (∀ q, ((enterWaiting p s).pif.get q).assembler = (s.pif.get q).assembler) ∧
    (∀ q, ((enterWaiting p s).pif.get q).gapTimer = (s.pif.get q).gapTimer) ∧
    (∀ q, ((enterWaiting p s).pif.get q).serverHold = (s.pif.get q).serverHold) ∧
    (∀ q, ((enterWaiting p s).pif.get q).partHold = (s.pif.get q).partHold) ∧
    (∀ q, ((enterWaiting p s).pif.get q).sent = (s.pif.get q).sent) := by
  unfold enterWaiting
  split <;> simp

@[simp] theorem countZeroProgress_frame (slot : Nat) (s : State) :
    (countZeroProgress slot s).pif = s.pif ∧ (countZeroProgress slot s).hmon = s.hmon ∧
    (countZeroProgress slot s).owc = s.owc ∧ (countZeroProgress slot s).adm = s.adm ∧
    (countZeroProgress slot s).mem = s.mem ∧ (countZeroProgress slot s).dpt = s.dpt ∧
    (countZeroProgress slot s).fnu = s.fnu ∧ (countZeroProgress slot s).pending = s.pending := by
  unfold countZeroProgress
  repeat' (first | (simp; done) | split)

@[simp] theorem dropOutstanding_frame (slot driveSlot : Nat) (s : State) :
    (dropOutstanding slot driveSlot s).pif = s.pif ∧ (dropOutstanding slot driveSlot s).hmon = s.hmon ∧
    (dropOutstanding slot driveSlot s).owc = s.owc ∧ (dropOutstanding slot driveSlot s).adm = s.adm ∧
    (dropOutstanding slot driveSlot s).stb = s.stb ∧ (dropOutstanding slot driveSlot s).mem = s.mem ∧
    (dropOutstanding slot driveSlot s).dpt = s.dpt ∧ (dropOutstanding slot driveSlot s).fnu = s.fnu ∧
    (dropOutstanding slot driveSlot s).pending = s.pending := by
  simp [dropOutstanding]

@[simp] theorem placeBlocks_frame (slot o : Nat) (l : List (List Byte)) (s : State) :
    (placeBlocks slot o l s).pif = s.pif ∧ (placeBlocks slot o l s).hmon = s.hmon ∧
    (placeBlocks slot o l s).owc = s.owc ∧ (placeBlocks slot o l s).adm = s.adm ∧
    (placeBlocks slot o l s).ift = s.ift ∧ (placeBlocks slot o l s).stb = s.stb ∧
    (placeBlocks slot o l s).dpt = s.dpt ∧ (placeBlocks slot o l s).fnu = s.fnu ∧
    (placeBlocks slot o l s).pending = s.pending := by
  induction l generalizing o s with
  | nil => simp [placeBlocks]
  | cons k rest ih =>
    unfold placeBlocks
    split <;> simp [ih]

@[simp] theorem countDone_frame (e : Entry) (offset done : Nat) (blocks : List (List Byte)) (s : State) :
    (countDone e offset done blocks s).pif = s.pif ∧ (countDone e offset done blocks s).hmon = s.hmon ∧
    (countDone e offset done blocks s).owc = s.owc ∧ (countDone e offset done blocks s).adm = s.adm ∧
    (countDone e offset done blocks s).dpt = s.dpt ∧ (countDone e offset done blocks s).fnu = s.fnu ∧
    (countDone e offset done blocks s).pending = s.pending := by
  unfold countDone
  split
  · simp
  · first | simp | rfl
  · dsimp only
    split <;> simp

@[simp] theorem returnUndone_frame (e : Entry) (offset length : Nat) (s : State) :
    (returnUndone e offset length s).pif = s.pif ∧ (returnUndone e offset length s).hmon = s.hmon ∧
    (returnUndone e offset length s).owc = s.owc ∧ (returnUndone e offset length s).adm = s.adm ∧
    (returnUndone e offset length s).mem = s.mem ∧ (returnUndone e offset length s).dpt = s.dpt ∧
    (returnUndone e offset length s).fnu = s.fnu ∧ (returnUndone e offset length s).pending = s.pending ∧
    (returnUndone e offset length s).stb.grants = s.stb.grants := by
  unfold returnUndone
  repeat' (first | (and_intros <;> rfl) | split)

@[simp] theorem finishIfDone_frame (slot : Nat) (s : State) :
    (finishIfDone slot s).pif = s.pif ∧ (finishIfDone slot s).hmon = s.hmon ∧ (finishIfDone slot s).owc = s.owc ∧
    (finishIfDone slot s).adm = s.adm ∧ (finishIfDone slot s).mem = s.mem ∧ (finishIfDone slot s).dpt = s.dpt ∧
    (finishIfDone slot s).fnu = s.fnu ∧ (finishIfDone slot s).pending = s.pending := by
  unfold finishIfDone
  repeat' (first | (and_intros <;> rfl) | split)

@[simp] theorem completeBlocks_frame (e : Entry) (offset length : Nat) (cls : CompletionClass) (done : Nat) (blocks : List (List Byte)) (s : State) :
    (completeBlocks e offset length cls done blocks s).pif = s.pif ∧
    (completeBlocks e offset length cls done blocks s).hmon = s.hmon ∧
    (completeBlocks e offset length cls done blocks s).owc = s.owc ∧
    (completeBlocks e offset length cls done blocks s).adm = s.adm ∧
    (completeBlocks e offset length cls done blocks s).dpt = s.dpt ∧
    (completeBlocks e offset length cls done blocks s).fnu = s.fnu ∧
    (completeBlocks e offset length cls done blocks s).pending = s.pending := by
  unfold completeBlocks
  dsimp only
  repeat' (first | (simp; done) | split)

@[simp] theorem completeFlush_frame (e : Entry) (cls : CompletionClass) (s : State) :
    (completeFlush e cls s).pif = s.pif ∧ (completeFlush e cls s).hmon = s.hmon ∧
    (completeFlush e cls s).owc = s.owc ∧ (completeFlush e cls s).adm = s.adm ∧ (completeFlush e cls s).mem = s.mem ∧
    (completeFlush e cls s).dpt = s.dpt ∧ (completeFlush e cls s).fnu = s.fnu ∧
    (completeFlush e cls s).pending = s.pending := by
  unfold completeFlush
  split <;> simp

@[simp] theorem takeCompletion_frame (slot driveSlot offset length : Nat) (cls : CompletionClass) (done : Nat) (blocks : List (List Byte)) (s : State) :
    (takeCompletion slot driveSlot offset length cls done blocks s).pif = s.pif ∧
    (takeCompletion slot driveSlot offset length cls done blocks s).hmon = s.hmon ∧
    (takeCompletion slot driveSlot offset length cls done blocks s).owc = s.owc ∧
    (takeCompletion slot driveSlot offset length cls done blocks s).adm = s.adm ∧
    (takeCompletion slot driveSlot offset length cls done blocks s).dpt = s.dpt ∧
    (takeCompletion slot driveSlot offset length cls done blocks s).fnu = s.fnu ∧
    (takeCompletion slot driveSlot offset length cls done blocks s).pending = s.pending := by
  unfold takeCompletion
  dsimp only
  repeat' (first | (simp; done) | split)

@[simp] theorem abortSegments_frame (slot : Nat) (l : List Segment) (s : State) :
    (abortSegments slot l s).pif = s.pif ∧ (abortSegments slot l s).hmon = s.hmon ∧
    (abortSegments slot l s).owc = s.owc ∧ (abortSegments slot l s).adm = s.adm ∧
    (abortSegments slot l s).mem = s.mem ∧ (abortSegments slot l s).dpt = s.dpt ∧
    (abortSegments slot l s).fnu = s.fnu ∧ (abortSegments slot l s).pending = s.pending ∧
    (abortSegments slot l s).stb.grants = s.stb.grants := by
  induction l generalizing s with
  | nil => simp [abortSegments]
  | cons k rest ih =>
    unfold abortSegments
    dsimp only
    split <;> simp [ih]

@[simp] theorem abortEntry_frame (slot : Nat) (s : State) :
    (abortEntry slot s).pif = s.pif ∧ (abortEntry slot s).hmon = s.hmon ∧ (abortEntry slot s).owc = s.owc ∧
    (abortEntry slot s).adm = s.adm ∧ (abortEntry slot s).mem = s.mem ∧ (abortEntry slot s).dpt = s.dpt ∧
    (abortEntry slot s).fnu = s.fnu ∧ (abortEntry slot s).pending = s.pending := by
  unfold abortEntry
  repeat' (first | (simp; done) | split)

@[simp] theorem failSegments_frame (slot : Nat) (l : List Segment) (s : State) :
    (failSegments slot l s).pif = s.pif ∧ (failSegments slot l s).hmon = s.hmon ∧
    (failSegments slot l s).owc = s.owc ∧ (failSegments slot l s).adm = s.adm ∧ (failSegments slot l s).mem = s.mem ∧
    (failSegments slot l s).dpt = s.dpt ∧ (failSegments slot l s).fnu = s.fnu ∧
    (failSegments slot l s).pending = s.pending ∧ (failSegments slot l s).stb.grants = s.stb.grants := by
  induction l generalizing s with
  | nil => simp [failSegments]
  | cons k rest ih => simp [failSegments, ih]

@[simp] theorem failEntry_frame (slot : Nat) (s : State) :
    (failEntry slot s).pif = s.pif ∧ (failEntry slot s).hmon = s.hmon ∧ (failEntry slot s).owc = s.owc ∧
    (failEntry slot s).adm = s.adm ∧ (failEntry slot s).mem = s.mem ∧ (failEntry slot s).dpt = s.dpt ∧
    (failEntry slot s).fnu = s.fnu ∧ (failEntry slot s).pending = s.pending := by
  unfold failEntry
  split <;> simp

end Sys2Proof.Machine
end

