-- ==== Sys2Proof/Laws/FramesTakeover.lean ====
section
/-! SUPPORT. What each operation of Machine/Takeover.lean leaves as it is. -/

namespace Sys2Proof.Machine

@[simp] theorem answerFenced_frame (p : Path) (s : State) (f : QueuedFrame) :
    (answerFenced p s f).hmon = s.hmon ∧ (answerFenced p s f).owc = s.owc ∧ (answerFenced p s f).adm = s.adm ∧
    (answerFenced p s f).ift = s.ift ∧ (answerFenced p s f).stb = s.stb ∧ (answerFenced p s f).mem = s.mem ∧
    (answerFenced p s f).dpt = s.dpt ∧ (answerFenced p s f).fnu = s.fnu ∧ (answerFenced p s f).pending = s.pending ∧
    (∀ q, ((answerFenced p s f).pif.get q).link = (s.pif.get q).link) ∧
    (∀ q, ((answerFenced p s f).pif.get q).rxq = (s.pif.get q).rxq) ∧
    (∀ q, ((answerFenced p s f).pif.get q).assembler = (s.pif.get q).assembler) ∧
    (∀ q, ((answerFenced p s f).pif.get q).gapTimer = (s.pif.get q).gapTimer) ∧
    (∀ q, ((answerFenced p s f).pif.get q).serverHold = (s.pif.get q).serverHold) ∧
    (∀ q, ((answerFenced p s f).pif.get q).partHold = (s.pif.get q).partHold) ∧
    (∀ q, ((answerFenced p s f).pif.get q).sent = (s.pif.get q).sent) := by
  cases f <;> simp [answerFenced]

@[simp] theorem withdrawPathReadData_frame (p : Path) (s : State) :
    (withdrawPathReadData p s).hmon = s.hmon ∧ (withdrawPathReadData p s).owc = s.owc ∧
    (withdrawPathReadData p s).adm = s.adm ∧ (withdrawPathReadData p s).ift = s.ift ∧
    (withdrawPathReadData p s).mem = s.mem ∧ (withdrawPathReadData p s).dpt = s.dpt ∧
    (withdrawPathReadData p s).fnu = s.fnu ∧ (withdrawPathReadData p s).pending = s.pending ∧
    (withdrawPathReadData p s).stb.grants = s.stb.grants ∧
    (∀ q, ((withdrawPathReadData p s).pif.get q).link = (s.pif.get q).link) ∧
    (∀ q, ((withdrawPathReadData p s).pif.get q).rxq = (s.pif.get q).rxq) ∧
    (∀ q, ((withdrawPathReadData p s).pif.get q).assembler = (s.pif.get q).assembler) ∧
    (∀ q, ((withdrawPathReadData p s).pif.get q).gapTimer = (s.pif.get q).gapTimer) ∧
    (∀ q, ((withdrawPathReadData p s).pif.get q).serverHold = (s.pif.get q).serverHold) ∧
    (∀ q, ((withdrawPathReadData p s).pif.get q).partHold = (s.pif.get q).partHold) ∧
    (∀ q, ((withdrawPathReadData p s).pif.get q).sent = (s.pif.get q).sent) := by
  unfold withdrawPathReadData
  rcases (s.pif.get p).sendingPage with _ | page <;> simp [detachPage]

@[simp] theorem fenceEntry_frame (slot : Nat) (s : State) :
    (fenceEntry slot s).hmon = s.hmon ∧ (fenceEntry slot s).owc = s.owc ∧ (fenceEntry slot s).adm = s.adm ∧
    (fenceEntry slot s).mem = s.mem ∧ (fenceEntry slot s).dpt = s.dpt ∧ (fenceEntry slot s).fnu = s.fnu ∧
    (fenceEntry slot s).pending = s.pending ∧ (∀ q, ((fenceEntry slot s).pif.get q).link = (s.pif.get q).link) ∧
    (∀ q, ((fenceEntry slot s).pif.get q).rxq = (s.pif.get q).rxq) ∧
    (∀ q, ((fenceEntry slot s).pif.get q).assembler = (s.pif.get q).assembler) ∧
    (∀ q, ((fenceEntry slot s).pif.get q).gapTimer = (s.pif.get q).gapTimer) ∧
    (∀ q, ((fenceEntry slot s).pif.get q).serverHold = (s.pif.get q).serverHold) ∧
    (∀ q, ((fenceEntry slot s).pif.get q).partHold = (s.pif.get q).partHold) ∧
    (∀ q, ((fenceEntry slot s).pif.get q).sent = (s.pif.get q).sent) := by
  unfold fenceEntry
  repeat' (first | (simp; done) | split)

theorem answeredFenced_frame (p : Path) (l : List QueuedFrame) (s : State) :
    (l.foldl (answerFenced p) s).hmon = s.hmon ∧ (l.foldl (answerFenced p) s).adm = s.adm ∧
    (l.foldl (answerFenced p) s).mem = s.mem ∧ (l.foldl (answerFenced p) s).dpt = s.dpt ∧
    (l.foldl (answerFenced p) s).pending = s.pending ∧ (l.foldl (answerFenced p) s).owc.state = s.owc.state ∧
    (l.foldl (answerFenced p) s).owc.owner = s.owc.owner ∧ (l.foldl (answerFenced p) s).owc.epoch = s.owc.epoch ∧
    (l.foldl (answerFenced p) s).owc.commitCount = s.owc.commitCount ∧
    (l.foldl (answerFenced p) s).owc.drainStage = s.owc.drainStage ∧
    (l.foldl (answerFenced p) s).owc.drainCause = s.owc.drainCause ∧
    (l.foldl (answerFenced p) s).owc.successor = s.owc.successor ∧
    (l.foldl (answerFenced p) s).owc.purpose = s.owc.purpose ∧
    (l.foldl (answerFenced p) s).owc.frozenCause = s.owc.frozenCause ∧
    (l.foldl (answerFenced p) s).owc.policy = s.owc.policy ∧
    (l.foldl (answerFenced p) s).owc.pendingPolicy = s.owc.pendingPolicy ∧
    (l.foldl (answerFenced p) s).owc.contents = s.owc.contents ∧
    (l.foldl (answerFenced p) s).owc.attempt = s.owc.attempt ∧
    (l.foldl (answerFenced p) s).owc.owedReplies = s.owc.owedReplies ∧
    (l.foldl (answerFenced p) s).owc.waitingTransition = s.owc.waitingTransition ∧
    (l.foldl (answerFenced p) s).owc.history = s.owc.history ∧
    (l.foldl (answerFenced p) s).owc.graceTimer = s.owc.graceTimer ∧
    (l.foldl (answerFenced p) s).owc.drainTimer = s.owc.drainTimer ∧
    (l.foldl (answerFenced p) s).owc.drainedPath = s.owc.drainedPath ∧
    (l.foldl (answerFenced p) s).fnu.masks = s.fnu.masks ∧ (l.foldl (answerFenced p) s).fnu.cursors = s.fnu.cursors ∧
    (l.foldl (answerFenced p) s).fnu.resetCause = s.fnu.resetCause ∧
    (l.foldl (answerFenced p) s).fnu.postedLost = s.fnu.postedLost ∧
    (l.foldl (answerFenced p) s).fnu.deciding = s.fnu.deciding ∧
    (∀ q, ((l.foldl (answerFenced p) s).pif.get q).link = (s.pif.get q).link) ∧
    (∀ q, ((l.foldl (answerFenced p) s).pif.get q).assembler = (s.pif.get q).assembler) ∧
    (∀ q, ((l.foldl (answerFenced p) s).pif.get q).gapTimer = (s.pif.get q).gapTimer) ∧
    (∀ q, ((l.foldl (answerFenced p) s).pif.get q).serverHold = (s.pif.get q).serverHold) ∧
    (∀ q, ((l.foldl (answerFenced p) s).pif.get q).partHold = (s.pif.get q).partHold) ∧
    (∀ q, ((l.foldl (answerFenced p) s).pif.get q).sent = (s.pif.get q).sent) := by
  induction l generalizing s with
  | nil => simp
  | cons a rest ih => simp [ih]

@[simp] theorem fence_frame (p : Path) (s : State) :
    (fence p s).hmon = s.hmon ∧ (fence p s).adm = s.adm ∧ (fence p s).mem = s.mem ∧ (fence p s).dpt = s.dpt ∧
    (fence p s).pending = s.pending ∧ (fence p s).owc.state = s.owc.state ∧ (fence p s).owc.owner = s.owc.owner ∧
    (fence p s).owc.epoch = s.owc.epoch ∧ (fence p s).owc.commitCount = s.owc.commitCount ∧
    (fence p s).owc.drainStage = s.owc.drainStage ∧ (fence p s).owc.drainCause = s.owc.drainCause ∧
    (fence p s).owc.successor = s.owc.successor ∧ (fence p s).owc.purpose = s.owc.purpose ∧
    (fence p s).owc.frozenCause = s.owc.frozenCause ∧ (fence p s).owc.policy = s.owc.policy ∧
    (fence p s).owc.pendingPolicy = s.owc.pendingPolicy ∧ (fence p s).owc.contents = s.owc.contents ∧
    (fence p s).owc.attempt = s.owc.attempt ∧ (fence p s).owc.owedReplies = s.owc.owedReplies ∧
    (fence p s).owc.waitingTransition = s.owc.waitingTransition ∧ (fence p s).owc.history = s.owc.history ∧
    (fence p s).owc.graceTimer = s.owc.graceTimer ∧ (fence p s).owc.drainTimer = s.owc.drainTimer ∧
    (fence p s).owc.drainedPath = s.owc.drainedPath ∧ (fence p s).fnu.masks = s.fnu.masks ∧
    (fence p s).fnu.cursors = s.fnu.cursors ∧ (fence p s).fnu.resetCause = s.fnu.resetCause ∧
    (fence p s).fnu.postedLost = s.fnu.postedLost ∧ (fence p s).fnu.deciding = s.fnu.deciding ∧
    (∀ q, ((fence p s).pif.get q).link = (s.pif.get q).link) ∧
    (∀ q, ((fence p s).pif.get q).assembler = (s.pif.get q).assembler) ∧
    (∀ q, ((fence p s).pif.get q).gapTimer = (s.pif.get q).gapTimer) ∧
    (∀ q, ((fence p s).pif.get q).serverHold = (s.pif.get q).serverHold) ∧
    (∀ q, ((fence p s).pif.get q).partHold = (s.pif.get q).partHold) ∧
    (∀ q, ((fence p s).pif.get q).sent = (s.pif.get q).sent) := by
  simp [fence, answeredFenced_frame, setRole]

@[simp] theorem beginFencedDrain_frame (cause : DrainCause) (owner : Path) (s : State) :
    (beginFencedDrain cause owner s).hmon = s.hmon ∧ (beginFencedDrain cause owner s).adm = s.adm ∧
    (beginFencedDrain cause owner s).pending = s.pending ∧ (beginFencedDrain cause owner s).owc.epoch = s.owc.epoch ∧
    (beginFencedDrain cause owner s).owc.commitCount = s.owc.commitCount ∧
    (beginFencedDrain cause owner s).owc.frozenCause = s.owc.frozenCause ∧
    (beginFencedDrain cause owner s).owc.policy = s.owc.policy ∧
    (beginFencedDrain cause owner s).owc.pendingPolicy = s.owc.pendingPolicy ∧
    (beginFencedDrain cause owner s).owc.owedReplies = s.owc.owedReplies ∧
    (beginFencedDrain cause owner s).owc.history = s.owc.history ∧
    (beginFencedDrain cause owner s).dpt.state = s.dpt.state ∧
    (beginFencedDrain cause owner s).dpt.cause = s.dpt.cause ∧
    (beginFencedDrain cause owner s).dpt.identity = s.dpt.identity ∧
    (beginFencedDrain cause owner s).dpt.referenceMark = s.dpt.referenceMark ∧
    (beginFencedDrain cause owner s).dpt.slotCount = s.dpt.slotCount ∧
    (beginFencedDrain cause owner s).dpt.identifyFailures = s.dpt.identifyFailures ∧
    (beginFencedDrain cause owner s).dpt.resetTimer = s.dpt.resetTimer ∧
    (beginFencedDrain cause owner s).dpt.present = s.dpt.present ∧
    (beginFencedDrain cause owner s).fnu.masks = s.fnu.masks ∧
    (beginFencedDrain cause owner s).fnu.cursors = s.fnu.cursors ∧
    (beginFencedDrain cause owner s).fnu.resetCause = s.fnu.resetCause ∧
    (beginFencedDrain cause owner s).fnu.postedLost = s.fnu.postedLost ∧
    (beginFencedDrain cause owner s).fnu.deciding = s.fnu.deciding ∧
    (∀ q, ((beginFencedDrain cause owner s).pif.get q).link = (s.pif.get q).link) ∧
    (∀ q, ((beginFencedDrain cause owner s).pif.get q).assembler = (s.pif.get q).assembler) ∧
    (∀ q, ((beginFencedDrain cause owner s).pif.get q).gapTimer = (s.pif.get q).gapTimer) ∧
    (∀ q, ((beginFencedDrain cause owner s).pif.get q).serverHold = (s.pif.get q).serverHold) ∧
    (∀ q, ((beginFencedDrain cause owner s).pif.get q).sent = (s.pif.get q).sent) := by
  simp [beginFencedDrain, refreshRoles, startDrainTimer]

@[simp] theorem beginReleaseDrain_frame (cause : DrainCause) (releaser : Path) (successor : Option Path) (s : State) :
    (beginReleaseDrain cause releaser successor s).hmon = s.hmon ∧
    (beginReleaseDrain cause releaser successor s).adm = s.adm ∧
    (beginReleaseDrain cause releaser successor s).pending = s.pending ∧
    (beginReleaseDrain cause releaser successor s).owc.epoch = s.owc.epoch ∧
    (beginReleaseDrain cause releaser successor s).owc.commitCount = s.owc.commitCount ∧
    (beginReleaseDrain cause releaser successor s).owc.frozenCause = s.owc.frozenCause ∧
    (beginReleaseDrain cause releaser successor s).owc.policy = s.owc.policy ∧
    (beginReleaseDrain cause releaser successor s).owc.pendingPolicy = s.owc.pendingPolicy ∧
    (beginReleaseDrain cause releaser successor s).owc.owedReplies = s.owc.owedReplies ∧
    (beginReleaseDrain cause releaser successor s).owc.history = s.owc.history ∧
    (beginReleaseDrain cause releaser successor s).dpt.state = s.dpt.state ∧
    (beginReleaseDrain cause releaser successor s).dpt.cause = s.dpt.cause ∧
    (beginReleaseDrain cause releaser successor s).dpt.identity = s.dpt.identity ∧
    (beginReleaseDrain cause releaser successor s).dpt.referenceMark = s.dpt.referenceMark ∧
    (beginReleaseDrain cause releaser successor s).dpt.slotCount = s.dpt.slotCount ∧
    (beginReleaseDrain cause releaser successor s).dpt.identifyFailures = s.dpt.identifyFailures ∧
    (beginReleaseDrain cause releaser successor s).dpt.resetTimer = s.dpt.resetTimer ∧
    (beginReleaseDrain cause releaser successor s).dpt.present = s.dpt.present ∧
    (beginReleaseDrain cause releaser successor s).fnu.masks = s.fnu.masks ∧
    (beginReleaseDrain cause releaser successor s).fnu.cursors = s.fnu.cursors ∧
    (beginReleaseDrain cause releaser successor s).fnu.resetCause = s.fnu.resetCause ∧
    (beginReleaseDrain cause releaser successor s).fnu.postedLost = s.fnu.postedLost ∧
    (beginReleaseDrain cause releaser successor s).fnu.deciding = s.fnu.deciding ∧
    (∀ q, ((beginReleaseDrain cause releaser successor s).pif.get q).link = (s.pif.get q).link) ∧
    (∀ q, ((beginReleaseDrain cause releaser successor s).pif.get q).rxq = (s.pif.get q).rxq) ∧
    (∀ q, ((beginReleaseDrain cause releaser successor s).pif.get q).assembler = (s.pif.get q).assembler) ∧
    (∀ q, ((beginReleaseDrain cause releaser successor s).pif.get q).gapTimer = (s.pif.get q).gapTimer) ∧
    (∀ q, ((beginReleaseDrain cause releaser successor s).pif.get q).serverHold = (s.pif.get q).serverHold) ∧
    (∀ q, ((beginReleaseDrain cause releaser successor s).pif.get q).sent = (s.pif.get q).sent) := by
  simp [beginReleaseDrain, refreshRoles, startDrainTimer]

@[simp] theorem ownerLost_frame (p : Path) (s : State) :
    (ownerLost p s).hmon = s.hmon ∧ (ownerLost p s).adm = s.adm ∧ (ownerLost p s).pending = s.pending ∧
    (ownerLost p s).owc.epoch = s.owc.epoch ∧ (ownerLost p s).owc.commitCount = s.owc.commitCount ∧
    (ownerLost p s).owc.frozenCause = s.owc.frozenCause ∧ (ownerLost p s).owc.policy = s.owc.policy ∧
    (ownerLost p s).owc.pendingPolicy = s.owc.pendingPolicy ∧ (ownerLost p s).owc.owedReplies = s.owc.owedReplies ∧
    (ownerLost p s).owc.history = s.owc.history ∧ (ownerLost p s).dpt.state = s.dpt.state ∧
    (ownerLost p s).dpt.cause = s.dpt.cause ∧ (ownerLost p s).dpt.identity = s.dpt.identity ∧
    (ownerLost p s).dpt.referenceMark = s.dpt.referenceMark ∧ (ownerLost p s).dpt.slotCount = s.dpt.slotCount ∧
    (ownerLost p s).dpt.identifyFailures = s.dpt.identifyFailures ∧
    (ownerLost p s).dpt.resetTimer = s.dpt.resetTimer ∧ (ownerLost p s).dpt.present = s.dpt.present ∧
    (ownerLost p s).fnu.masks = s.fnu.masks ∧ (ownerLost p s).fnu.cursors = s.fnu.cursors ∧
    (ownerLost p s).fnu.resetCause = s.fnu.resetCause ∧ (ownerLost p s).fnu.postedLost = s.fnu.postedLost ∧
    (ownerLost p s).fnu.deciding = s.fnu.deciding ∧ (∀ q, ((ownerLost p s).pif.get q).link = (s.pif.get q).link) ∧
    (∀ q, ((ownerLost p s).pif.get q).assembler = (s.pif.get q).assembler) ∧
    (∀ q, ((ownerLost p s).pif.get q).gapTimer = (s.pif.get q).gapTimer) ∧
    (∀ q, ((ownerLost p s).pif.get q).serverHold = (s.pif.get q).serverHold) ∧
    (∀ q, ((ownerLost p s).pif.get q).sent = (s.pif.get q).sent) := by
  unfold ownerLost
  repeat' (first | (simp [refreshRoles]; done) | split)

@[simp] theorem ownerHealthy_frame (p : Path) (s : State) :
    (ownerHealthy p s).pif = s.pif ∧ (ownerHealthy p s).hmon = s.hmon ∧ (ownerHealthy p s).adm = s.adm ∧
    (ownerHealthy p s).ift = s.ift ∧ (ownerHealthy p s).stb = s.stb ∧ (ownerHealthy p s).mem = s.mem ∧
    (ownerHealthy p s).dpt = s.dpt ∧ (ownerHealthy p s).fnu = s.fnu ∧ (ownerHealthy p s).pending = s.pending ∧
    (ownerHealthy p s).owc.owner = s.owc.owner ∧ (ownerHealthy p s).owc.epoch = s.owc.epoch ∧
    (ownerHealthy p s).owc.commitCount = s.owc.commitCount ∧ (ownerHealthy p s).owc.drainStage = s.owc.drainStage ∧
    (ownerHealthy p s).owc.drainCause = s.owc.drainCause ∧ (ownerHealthy p s).owc.successor = s.owc.successor ∧
    (ownerHealthy p s).owc.purpose = s.owc.purpose ∧ (ownerHealthy p s).owc.frozenCause = s.owc.frozenCause ∧
    (ownerHealthy p s).owc.policy = s.owc.policy ∧ (ownerHealthy p s).owc.pendingPolicy = s.owc.pendingPolicy ∧
    (ownerHealthy p s).owc.contents = s.owc.contents ∧ (ownerHealthy p s).owc.attempt = s.owc.attempt ∧
    (ownerHealthy p s).owc.owedReplies = s.owc.owedReplies ∧
    (ownerHealthy p s).owc.waitingTransition = s.owc.waitingTransition ∧
    (ownerHealthy p s).owc.history = s.owc.history ∧ (ownerHealthy p s).owc.orphans = s.owc.orphans ∧
    (ownerHealthy p s).owc.dropped = s.owc.dropped ∧ (ownerHealthy p s).owc.drainTimer = s.owc.drainTimer ∧
    (ownerHealthy p s).owc.drainedPath = s.owc.drainedPath ∧
    (ownerHealthy p s).owc.orphansAdded = s.owc.orphansAdded := by
  unfold ownerHealthy
  repeat' (first | (and_intros <;> rfl) | split)

end Sys2Proof.Machine
end

