-- ==== Sys2Proof/Laws/FramesHealth.lean ====
section
/-! SUPPORT. What each operation of Machine/Health.lean leaves as it is. -/

namespace Sys2Proof.Machine

@[simp] theorem reportHealth_frame (p : Path) (old new : Health) (s : State) :
    (reportHealth p old new s).hmon = s.hmon ∧ (reportHealth p old new s).adm = s.adm ∧
    (reportHealth p old new s).pending = s.pending ∧ (reportHealth p old new s).owc.epoch = s.owc.epoch ∧
    (reportHealth p old new s).owc.commitCount = s.owc.commitCount ∧
    (reportHealth p old new s).owc.frozenCause = s.owc.frozenCause ∧
    (reportHealth p old new s).owc.policy = s.owc.policy ∧
    (reportHealth p old new s).owc.pendingPolicy = s.owc.pendingPolicy ∧
    (reportHealth p old new s).owc.owedReplies = s.owc.owedReplies ∧
    (reportHealth p old new s).owc.history = s.owc.history ∧ (reportHealth p old new s).dpt.state = s.dpt.state ∧
    (reportHealth p old new s).dpt.cause = s.dpt.cause ∧ (reportHealth p old new s).dpt.identity = s.dpt.identity ∧
    (reportHealth p old new s).dpt.referenceMark = s.dpt.referenceMark ∧
    (reportHealth p old new s).dpt.slotCount = s.dpt.slotCount ∧
    (reportHealth p old new s).dpt.identifyFailures = s.dpt.identifyFailures ∧
    (reportHealth p old new s).dpt.resetTimer = s.dpt.resetTimer ∧
    (reportHealth p old new s).dpt.present = s.dpt.present ∧ (reportHealth p old new s).fnu.masks = s.fnu.masks ∧
    (reportHealth p old new s).fnu.cursors = s.fnu.cursors ∧
    (reportHealth p old new s).fnu.resetCause = s.fnu.resetCause ∧
    (reportHealth p old new s).fnu.postedLost = s.fnu.postedLost ∧
    (reportHealth p old new s).fnu.deciding = s.fnu.deciding ∧
    (∀ q, ((reportHealth p old new s).pif.get q).link = (s.pif.get q).link) ∧
    (∀ q, ((reportHealth p old new s).pif.get q).assembler = (s.pif.get q).assembler) ∧
    (∀ q, ((reportHealth p old new s).pif.get q).gapTimer = (s.pif.get q).gapTimer) ∧
    (∀ q, ((reportHealth p old new s).pif.get q).serverHold = (s.pif.get q).serverHold) ∧
    (∀ q, ((reportHealth p old new s).pif.get q).sent = (s.pif.get q).sent) := by
  unfold reportHealth
  repeat' (first | (simp; done) | split)

@[simp] theorem judgeHealth_frame (p : Path) (s : State) :
    (judgeHealth p s).pif = s.pif ∧ (judgeHealth p s).owc = s.owc ∧ (judgeHealth p s).adm = s.adm ∧
    (judgeHealth p s).ift = s.ift ∧ (judgeHealth p s).stb = s.stb ∧ (judgeHealth p s).mem = s.mem ∧
    (judgeHealth p s).dpt = s.dpt ∧ (judgeHealth p s).fnu = s.fnu ∧ (judgeHealth p s).pending = s.pending := by
  simp [judgeHealth]

@[simp] theorem reportChange_frame (p : Path) (old : Health) (s : State) :
    (reportChange p old s).hmon = s.hmon ∧ (reportChange p old s).adm = s.adm ∧
    (reportChange p old s).pending = s.pending ∧ (reportChange p old s).owc.epoch = s.owc.epoch ∧
    (reportChange p old s).owc.commitCount = s.owc.commitCount ∧
    (reportChange p old s).owc.frozenCause = s.owc.frozenCause ∧
    (reportChange p old s).owc.policy = s.owc.policy ∧
    (reportChange p old s).owc.pendingPolicy = s.owc.pendingPolicy ∧
    (reportChange p old s).owc.owedReplies = s.owc.owedReplies ∧ (reportChange p old s).owc.history = s.owc.history ∧
    (reportChange p old s).dpt.state = s.dpt.state ∧ (reportChange p old s).dpt.cause = s.dpt.cause ∧
    (reportChange p old s).dpt.identity = s.dpt.identity ∧
    (reportChange p old s).dpt.referenceMark = s.dpt.referenceMark ∧
    (reportChange p old s).dpt.slotCount = s.dpt.slotCount ∧
    (reportChange p old s).dpt.identifyFailures = s.dpt.identifyFailures ∧
    (reportChange p old s).dpt.resetTimer = s.dpt.resetTimer ∧ (reportChange p old s).dpt.present = s.dpt.present ∧
    (reportChange p old s).fnu.masks = s.fnu.masks ∧ (reportChange p old s).fnu.cursors = s.fnu.cursors ∧
    (reportChange p old s).fnu.resetCause = s.fnu.resetCause ∧
    (reportChange p old s).fnu.postedLost = s.fnu.postedLost ∧
    (reportChange p old s).fnu.deciding = s.fnu.deciding ∧
    (∀ q, ((reportChange p old s).pif.get q).link = (s.pif.get q).link) ∧
    (∀ q, ((reportChange p old s).pif.get q).assembler = (s.pif.get q).assembler) ∧
    (∀ q, ((reportChange p old s).pif.get q).gapTimer = (s.pif.get q).gapTimer) ∧
    (∀ q, ((reportChange p old s).pif.get q).serverHold = (s.pif.get q).serverHold) ∧
    (∀ q, ((reportChange p old s).pif.get q).sent = (s.pif.get q).sent) := by
  unfold reportChange
  split <;> simp

@[simp] theorem reevaluate_frame (p : Path) (s : State) :
    (reevaluate p s).adm = s.adm ∧ (reevaluate p s).pending = s.pending ∧ (reevaluate p s).owc.epoch = s.owc.epoch ∧
    (reevaluate p s).owc.commitCount = s.owc.commitCount ∧ (reevaluate p s).owc.frozenCause = s.owc.frozenCause ∧
    (reevaluate p s).owc.policy = s.owc.policy ∧ (reevaluate p s).owc.pendingPolicy = s.owc.pendingPolicy ∧
    (reevaluate p s).owc.owedReplies = s.owc.owedReplies ∧ (reevaluate p s).owc.history = s.owc.history ∧
    (reevaluate p s).dpt.state = s.dpt.state ∧ (reevaluate p s).dpt.cause = s.dpt.cause ∧
    (reevaluate p s).dpt.identity = s.dpt.identity ∧ (reevaluate p s).dpt.referenceMark = s.dpt.referenceMark ∧
    (reevaluate p s).dpt.slotCount = s.dpt.slotCount ∧
    (reevaluate p s).dpt.identifyFailures = s.dpt.identifyFailures ∧
    (reevaluate p s).dpt.resetTimer = s.dpt.resetTimer ∧ (reevaluate p s).dpt.present = s.dpt.present ∧
    (reevaluate p s).fnu.masks = s.fnu.masks ∧ (reevaluate p s).fnu.cursors = s.fnu.cursors ∧
    (reevaluate p s).fnu.resetCause = s.fnu.resetCause ∧ (reevaluate p s).fnu.postedLost = s.fnu.postedLost ∧
    (reevaluate p s).fnu.deciding = s.fnu.deciding ∧ (∀ q, ((reevaluate p s).pif.get q).link = (s.pif.get q).link) ∧
    (∀ q, ((reevaluate p s).pif.get q).assembler = (s.pif.get q).assembler) ∧
    (∀ q, ((reevaluate p s).pif.get q).gapTimer = (s.pif.get q).gapTimer) ∧
    (∀ q, ((reevaluate p s).pif.get q).serverHold = (s.pif.get q).serverHold) ∧
    (∀ q, ((reevaluate p s).pif.get q).sent = (s.pif.get q).sent) := by
  simp [reevaluate]

@[simp] theorem reevaluateBoth_frame (s : State) :
    (reevaluateBoth s).adm = s.adm ∧ (reevaluateBoth s).pending = s.pending ∧
    (reevaluateBoth s).owc.epoch = s.owc.epoch ∧
    (reevaluateBoth s).owc.commitCount = s.owc.commitCount ∧ (reevaluateBoth s).owc.frozenCause = s.owc.frozenCause ∧
    (reevaluateBoth s).owc.policy = s.owc.policy ∧ (reevaluateBoth s).owc.pendingPolicy = s.owc.pendingPolicy ∧
    (reevaluateBoth s).owc.owedReplies = s.owc.owedReplies ∧ (reevaluateBoth s).owc.history = s.owc.history ∧
    (reevaluateBoth s).dpt.state = s.dpt.state ∧ (reevaluateBoth s).dpt.cause = s.dpt.cause ∧
    (reevaluateBoth s).dpt.identity = s.dpt.identity ∧ (reevaluateBoth s).dpt.referenceMark = s.dpt.referenceMark ∧
    (reevaluateBoth s).dpt.slotCount = s.dpt.slotCount ∧
    (reevaluateBoth s).dpt.identifyFailures = s.dpt.identifyFailures ∧
    (reevaluateBoth s).dpt.resetTimer = s.dpt.resetTimer ∧ (reevaluateBoth s).dpt.present = s.dpt.present ∧
    (reevaluateBoth s).fnu.masks = s.fnu.masks ∧ (reevaluateBoth s).fnu.cursors = s.fnu.cursors ∧
    (reevaluateBoth s).fnu.resetCause = s.fnu.resetCause ∧ (reevaluateBoth s).fnu.postedLost = s.fnu.postedLost ∧
    (reevaluateBoth s).fnu.deciding = s.fnu.deciding ∧
    (∀ q, ((reevaluateBoth s).pif.get q).link = (s.pif.get q).link) ∧
    (∀ q, ((reevaluateBoth s).pif.get q).assembler = (s.pif.get q).assembler) ∧
    (∀ q, ((reevaluateBoth s).pif.get q).gapTimer = (s.pif.get q).gapTimer) ∧
    (∀ q, ((reevaluateBoth s).pif.get q).serverHold = (s.pif.get q).serverHold) ∧
    (∀ q, ((reevaluateBoth s).pif.get q).sent = (s.pif.get q).sent) := by
  simp [reevaluateBoth]

@[simp] theorem applyScore_frame (p : Path) (score : Nat) (s : State) :
    (applyScore p score s).adm = s.adm ∧ (applyScore p score s).pending = s.pending ∧
    (applyScore p score s).owc.epoch = s.owc.epoch ∧ (applyScore p score s).owc.commitCount = s.owc.commitCount ∧
    (applyScore p score s).owc.frozenCause = s.owc.frozenCause ∧ (applyScore p score s).owc.policy = s.owc.policy ∧
    (applyScore p score s).owc.pendingPolicy = s.owc.pendingPolicy ∧
    (applyScore p score s).owc.owedReplies = s.owc.owedReplies ∧ (applyScore p score s).owc.history = s.owc.history ∧
    (applyScore p score s).dpt.state = s.dpt.state ∧ (applyScore p score s).dpt.cause = s.dpt.cause ∧
    (applyScore p score s).dpt.identity = s.dpt.identity ∧
    (applyScore p score s).dpt.referenceMark = s.dpt.referenceMark ∧
    (applyScore p score s).dpt.slotCount = s.dpt.slotCount ∧
    (applyScore p score s).dpt.identifyFailures = s.dpt.identifyFailures ∧
    (applyScore p score s).dpt.resetTimer = s.dpt.resetTimer ∧ (applyScore p score s).dpt.present = s.dpt.present ∧
    (applyScore p score s).fnu.masks = s.fnu.masks ∧ (applyScore p score s).fnu.cursors = s.fnu.cursors ∧
    (applyScore p score s).fnu.resetCause = s.fnu.resetCause ∧
    (applyScore p score s).fnu.postedLost = s.fnu.postedLost ∧ (applyScore p score s).fnu.deciding = s.fnu.deciding ∧
    (∀ q, ((applyScore p score s).pif.get q).link = (s.pif.get q).link) ∧
    (∀ q, ((applyScore p score s).pif.get q).assembler = (s.pif.get q).assembler) ∧
    (∀ q, ((applyScore p score s).pif.get q).gapTimer = (s.pif.get q).gapTimer) ∧
    (∀ q, ((applyScore p score s).pif.get q).serverHold = (s.pif.get q).serverHold) ∧
    (∀ q, ((applyScore p score s).pif.get q).sent = (s.pif.get q).sent) := by
  unfold applyScore
  split <;> simp

@[simp] theorem linkError_frame (p : Path) (s : State) :
    (linkError p s).adm = s.adm ∧ (linkError p s).pending = s.pending ∧ (linkError p s).owc.epoch = s.owc.epoch ∧
    (linkError p s).owc.commitCount = s.owc.commitCount ∧ (linkError p s).owc.frozenCause = s.owc.frozenCause ∧
    (linkError p s).owc.policy = s.owc.policy ∧ (linkError p s).owc.pendingPolicy = s.owc.pendingPolicy ∧
    (linkError p s).owc.owedReplies = s.owc.owedReplies ∧ (linkError p s).owc.history = s.owc.history ∧
    (linkError p s).dpt.state = s.dpt.state ∧ (linkError p s).dpt.cause = s.dpt.cause ∧
    (linkError p s).dpt.identity = s.dpt.identity ∧ (linkError p s).dpt.referenceMark = s.dpt.referenceMark ∧
    (linkError p s).dpt.slotCount = s.dpt.slotCount ∧ (linkError p s).dpt.identifyFailures = s.dpt.identifyFailures ∧
    (linkError p s).dpt.resetTimer = s.dpt.resetTimer ∧ (linkError p s).dpt.present = s.dpt.present ∧
    (linkError p s).fnu.masks = s.fnu.masks ∧ (linkError p s).fnu.cursors = s.fnu.cursors ∧
    (linkError p s).fnu.resetCause = s.fnu.resetCause ∧ (linkError p s).fnu.postedLost = s.fnu.postedLost ∧
    (linkError p s).fnu.deciding = s.fnu.deciding ∧ (∀ q, ((linkError p s).pif.get q).link = (s.pif.get q).link) ∧
    (∀ q, ((linkError p s).pif.get q).assembler = (s.pif.get q).assembler) ∧
    (∀ q, ((linkError p s).pif.get q).gapTimer = (s.pif.get q).gapTimer) ∧
    (∀ q, ((linkError p s).pif.get q).serverHold = (s.pif.get q).serverHold) ∧
    (∀ q, ((linkError p s).pif.get q).sent = (s.pif.get q).sent) := by
  simp [linkError]

@[simp] theorem takePulse_frame (p : Path) (s : State) :
    (takePulse p s).adm = s.adm ∧ (takePulse p s).pending = s.pending ∧ (takePulse p s).owc.epoch = s.owc.epoch ∧
    (takePulse p s).owc.commitCount = s.owc.commitCount ∧ (takePulse p s).owc.frozenCause = s.owc.frozenCause ∧
    (takePulse p s).owc.policy = s.owc.policy ∧ (takePulse p s).owc.pendingPolicy = s.owc.pendingPolicy ∧
    (takePulse p s).owc.owedReplies = s.owc.owedReplies ∧ (takePulse p s).owc.history = s.owc.history ∧
    (takePulse p s).dpt.state = s.dpt.state ∧ (takePulse p s).dpt.cause = s.dpt.cause ∧
    (takePulse p s).dpt.identity = s.dpt.identity ∧ (takePulse p s).dpt.referenceMark = s.dpt.referenceMark ∧
    (takePulse p s).dpt.slotCount = s.dpt.slotCount ∧ (takePulse p s).dpt.identifyFailures = s.dpt.identifyFailures ∧
    (takePulse p s).dpt.resetTimer = s.dpt.resetTimer ∧ (takePulse p s).dpt.present = s.dpt.present ∧
    (takePulse p s).fnu.masks = s.fnu.masks ∧ (takePulse p s).fnu.cursors = s.fnu.cursors ∧
    (takePulse p s).fnu.resetCause = s.fnu.resetCause ∧ (takePulse p s).fnu.postedLost = s.fnu.postedLost ∧
    (takePulse p s).fnu.deciding = s.fnu.deciding ∧ (∀ q, ((takePulse p s).pif.get q).link = (s.pif.get q).link) ∧
    (∀ q, ((takePulse p s).pif.get q).assembler = (s.pif.get q).assembler) ∧
    (∀ q, ((takePulse p s).pif.get q).gapTimer = (s.pif.get q).gapTimer) ∧
    (∀ q, ((takePulse p s).pif.get q).serverHold = (s.pif.get q).serverHold) ∧
    (∀ q, ((takePulse p s).pif.get q).sent = (s.pif.get q).sent) := by
  unfold takePulse
  dsimp only
  split <;> simp

@[simp] theorem nextWindow_frame (p : Path) (s : State) :
    (nextWindow p s).pif = s.pif ∧ (nextWindow p s).owc = s.owc ∧ (nextWindow p s).adm = s.adm ∧
    (nextWindow p s).ift = s.ift ∧ (nextWindow p s).stb = s.stb ∧ (nextWindow p s).mem = s.mem ∧
    (nextWindow p s).dpt = s.dpt ∧ (nextWindow p s).fnu = s.fnu ∧ (nextWindow p s).pending = s.pending := by
  simp [nextWindow]

end Sys2Proof.Machine
end

