-- ==== Sys2Proof/Laws/FramesCommit.lean ====
section
/-! SUPPORT. What each operation of Machine/Commit.lean leaves as it is. -/

namespace Sys2Proof.Machine

@[simp] theorem takeEffect_frame (r : PolicyRecord) (s : State) :
    (takeEffect r s).adm = s.adm ∧ (takeEffect r s).pending = s.pending ∧ (takeEffect r s).owc.epoch = s.owc.epoch ∧
    (takeEffect r s).owc.commitCount = s.owc.commitCount ∧ (takeEffect r s).owc.frozenCause = s.owc.frozenCause ∧
    (takeEffect r s).owc.pendingPolicy = s.owc.pendingPolicy ∧ (takeEffect r s).owc.owedReplies = s.owc.owedReplies ∧
    (takeEffect r s).owc.history = s.owc.history ∧ (takeEffect r s).dpt.state = s.dpt.state ∧
    (takeEffect r s).dpt.cause = s.dpt.cause ∧ (takeEffect r s).dpt.identity = s.dpt.identity ∧
    (takeEffect r s).dpt.referenceMark = s.dpt.referenceMark ∧ (takeEffect r s).dpt.slotCount = s.dpt.slotCount ∧
    (takeEffect r s).dpt.identifyFailures = s.dpt.identifyFailures ∧
    (takeEffect r s).dpt.resetTimer = s.dpt.resetTimer ∧ (takeEffect r s).dpt.present = s.dpt.present ∧
    (takeEffect r s).fnu.masks = s.fnu.masks ∧ (takeEffect r s).fnu.cursors = s.fnu.cursors ∧
    (takeEffect r s).fnu.resetCause = s.fnu.resetCause ∧ (takeEffect r s).fnu.postedLost = s.fnu.postedLost ∧
    (takeEffect r s).fnu.deciding = s.fnu.deciding ∧ (∀ q, ((takeEffect r s).pif.get q).link = (s.pif.get q).link) ∧
    (∀ q, ((takeEffect r s).pif.get q).assembler = (s.pif.get q).assembler) ∧
    (∀ q, ((takeEffect r s).pif.get q).gapTimer = (s.pif.get q).gapTimer) ∧
    (∀ q, ((takeEffect r s).pif.get q).serverHold = (s.pif.get q).serverHold) ∧
    (∀ q, ((takeEffect r s).pif.get q).sent = (s.pif.get q).sent) := by
  simp [takeEffect, refreshRoles]

@[simp] theorem settleReplies_frame (o : Owc) (l : List OwedReply) (s : State) :
    (settleReplies o l s).hmon = s.hmon ∧ (settleReplies o l s).owc = s.owc ∧ (settleReplies o l s).adm = s.adm ∧
    (settleReplies o l s).ift = s.ift ∧ (settleReplies o l s).stb = s.stb ∧ (settleReplies o l s).mem = s.mem ∧
    (settleReplies o l s).dpt = s.dpt ∧ (settleReplies o l s).fnu = s.fnu ∧
    (settleReplies o l s).pending = s.pending ∧ (∀ q, ((settleReplies o l s).pif.get q).link = (s.pif.get q).link) ∧
    (∀ q, ((settleReplies o l s).pif.get q).rxq = (s.pif.get q).rxq) ∧
    (∀ q, ((settleReplies o l s).pif.get q).assembler = (s.pif.get q).assembler) ∧
    (∀ q, ((settleReplies o l s).pif.get q).gapTimer = (s.pif.get q).gapTimer) ∧
    (∀ q, ((settleReplies o l s).pif.get q).serverHold = (s.pif.get q).serverHold) ∧
    (∀ q, ((settleReplies o l s).pif.get q).partHold = (s.pif.get q).partHold) ∧
    (∀ q, ((settleReplies o l s).pif.get q).sent = (s.pif.get q).sent) := by
  induction l generalizing s with
  | nil => simp [settleReplies]
  | cons k rest ih => simp [settleReplies, ih]

@[simp] theorem enterFrozen_frame (cause : FrozenCause) (s : State) :
    (enterFrozen cause s).hmon = s.hmon ∧ (enterFrozen cause s).adm = s.adm ∧ (enterFrozen cause s).ift = s.ift ∧
    (enterFrozen cause s).stb = s.stb ∧ (enterFrozen cause s).mem = s.mem ∧ (enterFrozen cause s).dpt = s.dpt ∧
    (enterFrozen cause s).pending = s.pending ∧ (enterFrozen cause s).owc.epoch = s.owc.epoch ∧
    (enterFrozen cause s).owc.commitCount = s.owc.commitCount ∧ (enterFrozen cause s).owc.policy = s.owc.policy ∧
    (enterFrozen cause s).owc.history = s.owc.history ∧ (enterFrozen cause s).owc.orphans = s.owc.orphans ∧
    (enterFrozen cause s).owc.dropped = s.owc.dropped ∧ (enterFrozen cause s).fnu.masks = s.fnu.masks ∧
    (enterFrozen cause s).fnu.cursors = s.fnu.cursors ∧ (enterFrozen cause s).fnu.resetCause = s.fnu.resetCause ∧
    (enterFrozen cause s).fnu.postedLost = s.fnu.postedLost ∧ (enterFrozen cause s).fnu.deciding = s.fnu.deciding ∧
    (∀ q, ((enterFrozen cause s).pif.get q).link = (s.pif.get q).link) ∧
    (∀ q, ((enterFrozen cause s).pif.get q).rxq = (s.pif.get q).rxq) ∧
    (∀ q, ((enterFrozen cause s).pif.get q).assembler = (s.pif.get q).assembler) ∧
    (∀ q, ((enterFrozen cause s).pif.get q).gapTimer = (s.pif.get q).gapTimer) ∧
    (∀ q, ((enterFrozen cause s).pif.get q).serverHold = (s.pif.get q).serverHold) ∧
    (∀ q, ((enterFrozen cause s).pif.get q).partHold = (s.pif.get q).partHold) ∧
    (∀ q, ((enterFrozen cause s).pif.get q).sent = (s.pif.get q).sent) := by
  unfold enterFrozen
  repeat' (first | (simp [refreshRoles]; done) | split)

@[simp] theorem enterLoading_frame (s : State) :
    (enterLoading s).pif = s.pif ∧ (enterLoading s).hmon = s.hmon ∧ (enterLoading s).adm = s.adm ∧
    (enterLoading s).ift = s.ift ∧ (enterLoading s).stb = s.stb ∧ (enterLoading s).mem = s.mem ∧
    (enterLoading s).dpt = s.dpt ∧ (enterLoading s).fnu = s.fnu ∧ (enterLoading s).pending = s.pending ∧
    (enterLoading s).owc.epoch = s.owc.epoch ∧ (enterLoading s).owc.commitCount = s.owc.commitCount ∧
    (enterLoading s).owc.policy = s.owc.policy ∧ (enterLoading s).owc.history = s.owc.history ∧
    (enterLoading s).owc.orphans = s.owc.orphans ∧ (enterLoading s).owc.dropped = s.owc.dropped := by
  unfold enterLoading
  repeat' (first | (and_intros <;> rfl) | split)

@[simp] theorem beginLoad_frame (s : State) :
    (beginLoad s).pif = s.pif ∧ (beginLoad s).hmon = s.hmon ∧ (beginLoad s).adm = s.adm ∧ (beginLoad s).ift = s.ift ∧
    (beginLoad s).stb = s.stb ∧ (beginLoad s).mem = s.mem ∧ (beginLoad s).fnu = s.fnu ∧
    (beginLoad s).pending = s.pending ∧ (beginLoad s).owc.state = s.owc.state ∧
    (beginLoad s).owc.owner = s.owc.owner ∧ (beginLoad s).owc.epoch = s.owc.epoch ∧
    (beginLoad s).owc.commitCount = s.owc.commitCount ∧ (beginLoad s).owc.drainStage = s.owc.drainStage ∧
    (beginLoad s).owc.drainCause = s.owc.drainCause ∧ (beginLoad s).owc.successor = s.owc.successor ∧
    (beginLoad s).owc.purpose = s.owc.purpose ∧ (beginLoad s).owc.frozenCause = s.owc.frozenCause ∧
    (beginLoad s).owc.roles = s.owc.roles ∧ (beginLoad s).owc.policy = s.owc.policy ∧
    (beginLoad s).owc.pendingPolicy = s.owc.pendingPolicy ∧ (beginLoad s).owc.contents = s.owc.contents ∧
    (beginLoad s).owc.owedReplies = s.owc.owedReplies ∧
    (beginLoad s).owc.waitingTransition = s.owc.waitingTransition ∧ (beginLoad s).owc.history = s.owc.history ∧
    (beginLoad s).owc.orphans = s.owc.orphans ∧ (beginLoad s).owc.dropped = s.owc.dropped ∧
    (beginLoad s).owc.graceTimer = s.owc.graceTimer ∧ (beginLoad s).owc.drainTimer = s.owc.drainTimer ∧
    (beginLoad s).owc.drainedPath = s.owc.drainedPath ∧ (beginLoad s).owc.orphansAdded = s.owc.orphansAdded ∧
    (beginLoad s).dpt.state = s.dpt.state ∧ (beginLoad s).dpt.cause = s.dpt.cause ∧
    (beginLoad s).dpt.identity = s.dpt.identity ∧ (beginLoad s).dpt.referenceMark = s.dpt.referenceMark ∧
    (beginLoad s).dpt.slotCount = s.dpt.slotCount ∧ (beginLoad s).dpt.identifyFailures = s.dpt.identifyFailures ∧
    (beginLoad s).dpt.resetTimer = s.dpt.resetTimer ∧ (beginLoad s).dpt.present = s.dpt.present := by
  simp [beginLoad]

@[simp] theorem driveReady_frame (s : State) :
    (driveReady s).pif = s.pif ∧ (driveReady s).hmon = s.hmon ∧ (driveReady s).adm = s.adm ∧
    (driveReady s).ift = s.ift ∧ (driveReady s).stb = s.stb ∧ (driveReady s).mem = s.mem ∧
    (driveReady s).fnu = s.fnu ∧ (driveReady s).pending = s.pending ∧ (driveReady s).owc.epoch = s.owc.epoch ∧
    (driveReady s).owc.commitCount = s.owc.commitCount ∧ (driveReady s).owc.policy = s.owc.policy ∧
    (driveReady s).owc.history = s.owc.history ∧ (driveReady s).owc.orphans = s.owc.orphans ∧
    (driveReady s).owc.dropped = s.owc.dropped ∧ (driveReady s).dpt.state = s.dpt.state ∧
    (driveReady s).dpt.cause = s.dpt.cause ∧ (driveReady s).dpt.identity = s.dpt.identity ∧
    (driveReady s).dpt.referenceMark = s.dpt.referenceMark ∧ (driveReady s).dpt.slotCount = s.dpt.slotCount ∧
    (driveReady s).dpt.identifyFailures = s.dpt.identifyFailures ∧ (driveReady s).dpt.resetTimer = s.dpt.resetTimer ∧
    (driveReady s).dpt.present = s.dpt.present := by
  unfold driveReady
  repeat' (first | (simp; done) | split)

@[simp] theorem loadBad_frame (s : State) :
    (loadBad s).adm = s.adm ∧ (loadBad s).pending = s.pending ∧ (loadBad s).owc.epoch = s.owc.epoch ∧
    (loadBad s).owc.commitCount = s.owc.commitCount ∧ (loadBad s).dpt.state = s.dpt.state ∧
    (loadBad s).dpt.cause = s.dpt.cause ∧ (loadBad s).dpt.identity = s.dpt.identity ∧
    (loadBad s).dpt.referenceMark = s.dpt.referenceMark ∧ (loadBad s).dpt.slotCount = s.dpt.slotCount ∧
    (loadBad s).dpt.identifyFailures = s.dpt.identifyFailures ∧ (loadBad s).dpt.resetTimer = s.dpt.resetTimer ∧
    (loadBad s).dpt.present = s.dpt.present ∧ (loadBad s).fnu.masks = s.fnu.masks ∧
    (loadBad s).fnu.cursors = s.fnu.cursors ∧ (loadBad s).fnu.resetCause = s.fnu.resetCause ∧
    (loadBad s).fnu.postedLost = s.fnu.postedLost ∧ (loadBad s).fnu.deciding = s.fnu.deciding ∧
    (∀ q, ((loadBad s).pif.get q).link = (s.pif.get q).link) ∧
    (∀ q, ((loadBad s).pif.get q).assembler = (s.pif.get q).assembler) ∧
    (∀ q, ((loadBad s).pif.get q).gapTimer = (s.pif.get q).gapTimer) ∧
    (∀ q, ((loadBad s).pif.get q).serverHold = (s.pif.get q).serverHold) ∧
    (∀ q, ((loadBad s).pif.get q).sent = (s.pif.get q).sent) := by
  simp [loadBad, refreshRoles, addHistory]

@[simp] theorem reportIfOwnerLost_frame (s : State) :
    (reportIfOwnerLost s).hmon = s.hmon ∧ (reportIfOwnerLost s).adm = s.adm ∧
    (reportIfOwnerLost s).pending = s.pending ∧ (reportIfOwnerLost s).owc.epoch = s.owc.epoch ∧
    (reportIfOwnerLost s).owc.commitCount = s.owc.commitCount ∧
    (reportIfOwnerLost s).owc.frozenCause = s.owc.frozenCause ∧ (reportIfOwnerLost s).owc.policy = s.owc.policy ∧
    (reportIfOwnerLost s).owc.pendingPolicy = s.owc.pendingPolicy ∧
    (reportIfOwnerLost s).owc.owedReplies = s.owc.owedReplies ∧ (reportIfOwnerLost s).owc.history = s.owc.history ∧
    (reportIfOwnerLost s).dpt.state = s.dpt.state ∧ (reportIfOwnerLost s).dpt.cause = s.dpt.cause ∧
    (reportIfOwnerLost s).dpt.identity = s.dpt.identity ∧
    (reportIfOwnerLost s).dpt.referenceMark = s.dpt.referenceMark ∧
    (reportIfOwnerLost s).dpt.slotCount = s.dpt.slotCount ∧
    (reportIfOwnerLost s).dpt.identifyFailures = s.dpt.identifyFailures ∧
    (reportIfOwnerLost s).dpt.resetTimer = s.dpt.resetTimer ∧ (reportIfOwnerLost s).dpt.present = s.dpt.present ∧
    (reportIfOwnerLost s).fnu.masks = s.fnu.masks ∧ (reportIfOwnerLost s).fnu.cursors = s.fnu.cursors ∧
    (reportIfOwnerLost s).fnu.resetCause = s.fnu.resetCause ∧
    (reportIfOwnerLost s).fnu.postedLost = s.fnu.postedLost ∧ (reportIfOwnerLost s).fnu.deciding = s.fnu.deciding ∧
    (∀ q, ((reportIfOwnerLost s).pif.get q).link = (s.pif.get q).link) ∧
    (∀ q, ((reportIfOwnerLost s).pif.get q).assembler = (s.pif.get q).assembler) ∧
    (∀ q, ((reportIfOwnerLost s).pif.get q).gapTimer = (s.pif.get q).gapTimer) ∧
    (∀ q, ((reportIfOwnerLost s).pif.get q).serverHold = (s.pif.get q).serverHold) ∧
    (∀ q, ((reportIfOwnerLost s).pif.get q).sent = (s.pif.get q).sent) := by
  unfold reportIfOwnerLost
  repeat' (first | (simp; done) | split)

@[simp] theorem loadGood_frame (owner : Option Path) (epoch : Word) (count : CommitCount) (r : PolicyRecord) (s : State) :
    (loadGood owner epoch count r s).adm = s.adm ∧ (loadGood owner epoch count r s).pending = s.pending ∧
    (loadGood owner epoch count r s).owc.frozenCause = s.owc.frozenCause ∧
    (loadGood owner epoch count r s).owc.pendingPolicy = s.owc.pendingPolicy ∧
    (loadGood owner epoch count r s).owc.owedReplies = s.owc.owedReplies ∧
    (loadGood owner epoch count r s).dpt.state = s.dpt.state ∧
    (loadGood owner epoch count r s).dpt.cause = s.dpt.cause ∧
    (loadGood owner epoch count r s).dpt.identity = s.dpt.identity ∧
    (loadGood owner epoch count r s).dpt.referenceMark = s.dpt.referenceMark ∧
    (loadGood owner epoch count r s).dpt.slotCount = s.dpt.slotCount ∧
    (loadGood owner epoch count r s).dpt.identifyFailures = s.dpt.identifyFailures ∧
    (loadGood owner epoch count r s).dpt.resetTimer = s.dpt.resetTimer ∧
    (loadGood owner epoch count r s).dpt.present = s.dpt.present ∧
    (loadGood owner epoch count r s).fnu.masks = s.fnu.masks ∧
    (loadGood owner epoch count r s).fnu.cursors = s.fnu.cursors ∧
    (loadGood owner epoch count r s).fnu.resetCause = s.fnu.resetCause ∧
    (loadGood owner epoch count r s).fnu.postedLost = s.fnu.postedLost ∧
    (loadGood owner epoch count r s).fnu.deciding = s.fnu.deciding ∧
    (∀ q, ((loadGood owner epoch count r s).pif.get q).link = (s.pif.get q).link) ∧
    (∀ q, ((loadGood owner epoch count r s).pif.get q).assembler = (s.pif.get q).assembler) ∧
    (∀ q, ((loadGood owner epoch count r s).pif.get q).gapTimer = (s.pif.get q).gapTimer) ∧
    (∀ q, ((loadGood owner epoch count r s).pif.get q).serverHold = (s.pif.get q).serverHold) ∧
    (∀ q, ((loadGood owner epoch count r s).pif.get q).sent = (s.pif.get q).sent) := by
  simp [loadGood, refreshRoles, addHistory]

@[simp] theorem completeLoad_frame (s : State) :
    (completeLoad s).adm = s.adm ∧ (completeLoad s).pending = s.pending ∧ (completeLoad s).dpt.state = s.dpt.state ∧
    (completeLoad s).dpt.cause = s.dpt.cause ∧ (completeLoad s).dpt.identity = s.dpt.identity ∧
    (completeLoad s).dpt.referenceMark = s.dpt.referenceMark ∧ (completeLoad s).dpt.slotCount = s.dpt.slotCount ∧
    (completeLoad s).dpt.identifyFailures = s.dpt.identifyFailures ∧
    (completeLoad s).dpt.resetTimer = s.dpt.resetTimer ∧ (completeLoad s).dpt.present = s.dpt.present ∧
    (completeLoad s).fnu.masks = s.fnu.masks ∧ (completeLoad s).fnu.cursors = s.fnu.cursors ∧
    (completeLoad s).fnu.resetCause = s.fnu.resetCause ∧ (completeLoad s).fnu.postedLost = s.fnu.postedLost ∧
    (completeLoad s).fnu.deciding = s.fnu.deciding ∧ (∀ q, ((completeLoad s).pif.get q).link = (s.pif.get q).link) ∧
    (∀ q, ((completeLoad s).pif.get q).assembler = (s.pif.get q).assembler) ∧
    (∀ q, ((completeLoad s).pif.get q).gapTimer = (s.pif.get q).gapTimer) ∧
    (∀ q, ((completeLoad s).pif.get q).serverHold = (s.pif.get q).serverHold) ∧
    (∀ q, ((completeLoad s).pif.get q).sent = (s.pif.get q).sent) := by
  unfold completeLoad
  split <;> simp

@[simp] theorem attemptFailed_frame (op : BlockOp) (s : State) :
    (attemptFailed op s).adm = s.adm ∧ (attemptFailed op s).pending = s.pending ∧
    (attemptFailed op s).owc.epoch = s.owc.epoch ∧ (attemptFailed op s).owc.commitCount = s.owc.commitCount ∧
    (attemptFailed op s).dpt.state = s.dpt.state ∧ (attemptFailed op s).dpt.cause = s.dpt.cause ∧
    (attemptFailed op s).dpt.identity = s.dpt.identity ∧
    (attemptFailed op s).dpt.referenceMark = s.dpt.referenceMark ∧
    (attemptFailed op s).dpt.slotCount = s.dpt.slotCount ∧
    (attemptFailed op s).dpt.identifyFailures = s.dpt.identifyFailures ∧
    (attemptFailed op s).dpt.resetTimer = s.dpt.resetTimer ∧ (attemptFailed op s).dpt.present = s.dpt.present ∧
    (attemptFailed op s).fnu.masks = s.fnu.masks ∧ (attemptFailed op s).fnu.cursors = s.fnu.cursors ∧
    (attemptFailed op s).fnu.resetCause = s.fnu.resetCause ∧ (attemptFailed op s).fnu.postedLost = s.fnu.postedLost ∧
    (attemptFailed op s).fnu.deciding = s.fnu.deciding ∧
    (∀ q, ((attemptFailed op s).pif.get q).link = (s.pif.get q).link) ∧
    (∀ q, ((attemptFailed op s).pif.get q).assembler = (s.pif.get q).assembler) ∧
    (∀ q, ((attemptFailed op s).pif.get q).gapTimer = (s.pif.get q).gapTimer) ∧
    (∀ q, ((attemptFailed op s).pif.get q).serverHold = (s.pif.get q).serverHold) ∧
    (∀ q, ((attemptFailed op s).pif.get q).sent = (s.pif.get q).sent) := by
  unfold attemptFailed
  repeat' (first | (simp; done) | split)

@[simp] theorem replyFor_frame (purpose : Purpose) (c : Contents) (s : State) :
    (replyFor purpose c s).hmon = s.hmon ∧ (replyFor purpose c s).adm = s.adm ∧ (replyFor purpose c s).ift = s.ift ∧
    (replyFor purpose c s).stb = s.stb ∧ (replyFor purpose c s).mem = s.mem ∧ (replyFor purpose c s).dpt = s.dpt ∧
    (replyFor purpose c s).fnu = s.fnu ∧ (replyFor purpose c s).pending = s.pending ∧
    (replyFor purpose c s).owc.state = s.owc.state ∧ (replyFor purpose c s).owc.owner = s.owc.owner ∧
    (replyFor purpose c s).owc.epoch = s.owc.epoch ∧ (replyFor purpose c s).owc.commitCount = s.owc.commitCount ∧
    (replyFor purpose c s).owc.drainStage = s.owc.drainStage ∧
    (replyFor purpose c s).owc.drainCause = s.owc.drainCause ∧
    (replyFor purpose c s).owc.successor = s.owc.successor ∧ (replyFor purpose c s).owc.purpose = s.owc.purpose ∧
    (replyFor purpose c s).owc.frozenCause = s.owc.frozenCause ∧ (replyFor purpose c s).owc.roles = s.owc.roles ∧
    (replyFor purpose c s).owc.policy = s.owc.policy ∧
    (replyFor purpose c s).owc.pendingPolicy = s.owc.pendingPolicy ∧
    (replyFor purpose c s).owc.contents = s.owc.contents ∧ (replyFor purpose c s).owc.attempt = s.owc.attempt ∧
    (replyFor purpose c s).owc.waitingTransition = s.owc.waitingTransition ∧
    (replyFor purpose c s).owc.history = s.owc.history ∧ (replyFor purpose c s).owc.orphans = s.owc.orphans ∧
    (replyFor purpose c s).owc.dropped = s.owc.dropped ∧ (replyFor purpose c s).owc.graceTimer = s.owc.graceTimer ∧
    (replyFor purpose c s).owc.drainTimer = s.owc.drainTimer ∧
    (replyFor purpose c s).owc.drainedPath = s.owc.drainedPath ∧
    (replyFor purpose c s).owc.orphansAdded = s.owc.orphansAdded ∧
    (∀ q, ((replyFor purpose c s).pif.get q).link = (s.pif.get q).link) ∧
    (∀ q, ((replyFor purpose c s).pif.get q).rxq = (s.pif.get q).rxq) ∧
    (∀ q, ((replyFor purpose c s).pif.get q).assembler = (s.pif.get q).assembler) ∧
    (∀ q, ((replyFor purpose c s).pif.get q).gapTimer = (s.pif.get q).gapTimer) ∧
    (∀ q, ((replyFor purpose c s).pif.get q).serverHold = (s.pif.get q).serverHold) ∧
    (∀ q, ((replyFor purpose c s).pif.get q).partHold = (s.pif.get q).partHold) ∧
    (∀ q, ((replyFor purpose c s).pif.get q).sent = (s.pif.get q).sent) := by
  unfold replyFor
  split <;> simp

@[simp] theorem beginWaiting_frame (s : State) :
    (beginWaiting s).pif = s.pif ∧ (beginWaiting s).hmon = s.hmon ∧ (beginWaiting s).adm = s.adm ∧
    (beginWaiting s).ift = s.ift ∧ (beginWaiting s).stb = s.stb ∧ (beginWaiting s).fnu = s.fnu ∧
    (beginWaiting s).pending = s.pending ∧ (beginWaiting s).owc.state = s.owc.state ∧
    (beginWaiting s).owc.owner = s.owc.owner ∧ (beginWaiting s).owc.epoch = s.owc.epoch ∧
    (beginWaiting s).owc.commitCount = s.owc.commitCount ∧ (beginWaiting s).owc.drainStage = s.owc.drainStage ∧
    (beginWaiting s).owc.drainCause = s.owc.drainCause ∧ (beginWaiting s).owc.successor = s.owc.successor ∧
    (beginWaiting s).owc.frozenCause = s.owc.frozenCause ∧ (beginWaiting s).owc.roles = s.owc.roles ∧
    (beginWaiting s).owc.policy = s.owc.policy ∧ (beginWaiting s).owc.pendingPolicy = s.owc.pendingPolicy ∧
    (beginWaiting s).owc.owedReplies = s.owc.owedReplies ∧ (beginWaiting s).owc.history = s.owc.history ∧
    (beginWaiting s).owc.orphans = s.owc.orphans ∧ (beginWaiting s).owc.dropped = s.owc.dropped ∧
    (beginWaiting s).owc.graceTimer = s.owc.graceTimer ∧ (beginWaiting s).owc.drainTimer = s.owc.drainTimer ∧
    (beginWaiting s).owc.drainedPath = s.owc.drainedPath ∧ (beginWaiting s).owc.orphansAdded = s.owc.orphansAdded ∧
    (beginWaiting s).dpt.state = s.dpt.state ∧ (beginWaiting s).dpt.cause = s.dpt.cause ∧
    (beginWaiting s).dpt.identity = s.dpt.identity ∧ (beginWaiting s).dpt.referenceMark = s.dpt.referenceMark ∧
    (beginWaiting s).dpt.slotCount = s.dpt.slotCount ∧
    (beginWaiting s).dpt.identifyFailures = s.dpt.identifyFailures ∧
    (beginWaiting s).dpt.resetTimer = s.dpt.resetTimer ∧ (beginWaiting s).dpt.present = s.dpt.present := by
  unfold beginWaiting
  repeat' (first | (simp; done) | split)

@[simp] theorem policyStep_frame (purpose : Purpose) (s : State) :
    (policyStep purpose s).adm = s.adm ∧ (policyStep purpose s).pending = s.pending ∧
    (policyStep purpose s).owc.epoch = s.owc.epoch ∧ (policyStep purpose s).owc.commitCount = s.owc.commitCount ∧
    (policyStep purpose s).owc.frozenCause = s.owc.frozenCause ∧
    (policyStep purpose s).owc.owedReplies = s.owc.owedReplies ∧ (policyStep purpose s).owc.history = s.owc.history ∧
    (policyStep purpose s).dpt.state = s.dpt.state ∧ (policyStep purpose s).dpt.cause = s.dpt.cause ∧
    (policyStep purpose s).dpt.identity = s.dpt.identity ∧
    (policyStep purpose s).dpt.referenceMark = s.dpt.referenceMark ∧
    (policyStep purpose s).dpt.slotCount = s.dpt.slotCount ∧
    (policyStep purpose s).dpt.identifyFailures = s.dpt.identifyFailures ∧
    (policyStep purpose s).dpt.resetTimer = s.dpt.resetTimer ∧ (policyStep purpose s).dpt.present = s.dpt.present ∧
    (policyStep purpose s).fnu.masks = s.fnu.masks ∧ (policyStep purpose s).fnu.cursors = s.fnu.cursors ∧
    (policyStep purpose s).fnu.resetCause = s.fnu.resetCause ∧
    (policyStep purpose s).fnu.postedLost = s.fnu.postedLost ∧ (policyStep purpose s).fnu.deciding = s.fnu.deciding ∧
    (∀ q, ((policyStep purpose s).pif.get q).link = (s.pif.get q).link) ∧
    (∀ q, ((policyStep purpose s).pif.get q).assembler = (s.pif.get q).assembler) ∧
    (∀ q, ((policyStep purpose s).pif.get q).gapTimer = (s.pif.get q).gapTimer) ∧
    (∀ q, ((policyStep purpose s).pif.get q).serverHold = (s.pif.get q).serverHold) ∧
    (∀ q, ((policyStep purpose s).pif.get q).sent = (s.pif.get q).sent) := by
  unfold policyStep
  repeat' (first | (simp; done) | split)

@[simp] theorem historyStep_frame (before : Owc) (purpose : Purpose) (c : Contents) (s : State) :
    (historyStep before purpose c s).pif = s.pif ∧ (historyStep before purpose c s).hmon = s.hmon ∧
    (historyStep before purpose c s).adm = s.adm ∧ (historyStep before purpose c s).ift = s.ift ∧
    (historyStep before purpose c s).stb = s.stb ∧ (historyStep before purpose c s).mem = s.mem ∧
    (historyStep before purpose c s).dpt = s.dpt ∧ (historyStep before purpose c s).fnu = s.fnu ∧
    (historyStep before purpose c s).pending = s.pending ∧ (historyStep before purpose c s).owc.state = s.owc.state ∧
    (historyStep before purpose c s).owc.owner = s.owc.owner ∧
    (historyStep before purpose c s).owc.epoch = s.owc.epoch ∧
    (historyStep before purpose c s).owc.commitCount = s.owc.commitCount ∧
    (historyStep before purpose c s).owc.drainStage = s.owc.drainStage ∧
    (historyStep before purpose c s).owc.drainCause = s.owc.drainCause ∧
    (historyStep before purpose c s).owc.successor = s.owc.successor ∧
    (historyStep before purpose c s).owc.purpose = s.owc.purpose ∧
    (historyStep before purpose c s).owc.frozenCause = s.owc.frozenCause ∧
    (historyStep before purpose c s).owc.roles = s.owc.roles ∧
    (historyStep before purpose c s).owc.policy = s.owc.policy ∧
    (historyStep before purpose c s).owc.pendingPolicy = s.owc.pendingPolicy ∧
    (historyStep before purpose c s).owc.contents = s.owc.contents ∧
    (historyStep before purpose c s).owc.attempt = s.owc.attempt ∧
    (historyStep before purpose c s).owc.owedReplies = s.owc.owedReplies ∧
    (historyStep before purpose c s).owc.waitingTransition = s.owc.waitingTransition ∧
    (historyStep before purpose c s).owc.orphans = s.owc.orphans ∧
    (historyStep before purpose c s).owc.dropped = s.owc.dropped ∧
    (historyStep before purpose c s).owc.graceTimer = s.owc.graceTimer ∧
    (historyStep before purpose c s).owc.drainTimer = s.owc.drainTimer ∧
    (historyStep before purpose c s).owc.drainedPath = s.owc.drainedPath ∧
    (historyStep before purpose c s).owc.orphansAdded = s.owc.orphansAdded := by
  unfold historyStep
  repeat' (first | (and_intros <;> rfl) | split)

@[simp] theorem commitSuccess_frame (purpose : Purpose) (c : Contents) (s : State) :
    (commitSuccess purpose c s).adm = s.adm ∧ (commitSuccess purpose c s).pending = s.pending ∧
    (commitSuccess purpose c s).dpt.state = s.dpt.state ∧ (commitSuccess purpose c s).dpt.cause = s.dpt.cause ∧
    (commitSuccess purpose c s).dpt.identity = s.dpt.identity ∧
    (commitSuccess purpose c s).dpt.referenceMark = s.dpt.referenceMark ∧
    (commitSuccess purpose c s).dpt.slotCount = s.dpt.slotCount ∧
    (commitSuccess purpose c s).dpt.identifyFailures = s.dpt.identifyFailures ∧
    (commitSuccess purpose c s).dpt.resetTimer = s.dpt.resetTimer ∧
    (commitSuccess purpose c s).dpt.present = s.dpt.present ∧ (commitSuccess purpose c s).fnu.masks = s.fnu.masks ∧
    (commitSuccess purpose c s).fnu.cursors = s.fnu.cursors ∧
    (commitSuccess purpose c s).fnu.resetCause = s.fnu.resetCause ∧
    (commitSuccess purpose c s).fnu.postedLost = s.fnu.postedLost ∧
    (commitSuccess purpose c s).fnu.deciding = s.fnu.deciding ∧
    (∀ q, ((commitSuccess purpose c s).pif.get q).link = (s.pif.get q).link) ∧
    (∀ q, ((commitSuccess purpose c s).pif.get q).assembler = (s.pif.get q).assembler) ∧
    (∀ q, ((commitSuccess purpose c s).pif.get q).gapTimer = (s.pif.get q).gapTimer) ∧
    (∀ q, ((commitSuccess purpose c s).pif.get q).serverHold = (s.pif.get q).serverHold) ∧
    (∀ q, ((commitSuccess purpose c s).pif.get q).sent = (s.pif.get q).sent) := by
  unfold commitSuccess
  split <;> simp

@[simp] theorem operationSucceeded_frame (op : BlockOp) (s : State) :
    (operationSucceeded op s).adm = s.adm ∧ (operationSucceeded op s).pending = s.pending ∧
    (operationSucceeded op s).dpt.state = s.dpt.state ∧ (operationSucceeded op s).dpt.cause = s.dpt.cause ∧
    (operationSucceeded op s).dpt.identity = s.dpt.identity ∧
    (operationSucceeded op s).dpt.referenceMark = s.dpt.referenceMark ∧
    (operationSucceeded op s).dpt.slotCount = s.dpt.slotCount ∧
    (operationSucceeded op s).dpt.identifyFailures = s.dpt.identifyFailures ∧
    (operationSucceeded op s).dpt.resetTimer = s.dpt.resetTimer ∧
    (operationSucceeded op s).dpt.present = s.dpt.present ∧ (operationSucceeded op s).fnu.masks = s.fnu.masks ∧
    (operationSucceeded op s).fnu.cursors = s.fnu.cursors ∧
    (operationSucceeded op s).fnu.resetCause = s.fnu.resetCause ∧
    (operationSucceeded op s).fnu.postedLost = s.fnu.postedLost ∧
    (operationSucceeded op s).fnu.deciding = s.fnu.deciding ∧
    (∀ q, ((operationSucceeded op s).pif.get q).link = (s.pif.get q).link) ∧
    (∀ q, ((operationSucceeded op s).pif.get q).assembler = (s.pif.get q).assembler) ∧
    (∀ q, ((operationSucceeded op s).pif.get q).gapTimer = (s.pif.get q).gapTimer) ∧
    (∀ q, ((operationSucceeded op s).pif.get q).serverHold = (s.pif.get q).serverHold) ∧
    (∀ q, ((operationSucceeded op s).pif.get q).sent = (s.pif.get q).sent) := by
  unfold operationSucceeded
  repeat' (first | (simp; done) | split)

@[simp] theorem operationFailed_frame (op : BlockOp) (s : State) :
    (operationFailed op s).adm = s.adm ∧ (operationFailed op s).pending = s.pending ∧
    (operationFailed op s).owc.epoch = s.owc.epoch ∧ (operationFailed op s).owc.commitCount = s.owc.commitCount ∧
    (operationFailed op s).dpt.state = s.dpt.state ∧ (operationFailed op s).dpt.cause = s.dpt.cause ∧
    (operationFailed op s).dpt.identity = s.dpt.identity ∧
    (operationFailed op s).dpt.referenceMark = s.dpt.referenceMark ∧
    (operationFailed op s).dpt.slotCount = s.dpt.slotCount ∧
    (operationFailed op s).dpt.identifyFailures = s.dpt.identifyFailures ∧
    (operationFailed op s).dpt.resetTimer = s.dpt.resetTimer ∧ (operationFailed op s).dpt.present = s.dpt.present ∧
    (operationFailed op s).fnu.masks = s.fnu.masks ∧ (operationFailed op s).fnu.cursors = s.fnu.cursors ∧
    (operationFailed op s).fnu.resetCause = s.fnu.resetCause ∧
    (operationFailed op s).fnu.postedLost = s.fnu.postedLost ∧ (operationFailed op s).fnu.deciding = s.fnu.deciding ∧
    (∀ q, ((operationFailed op s).pif.get q).link = (s.pif.get q).link) ∧
    (∀ q, ((operationFailed op s).pif.get q).assembler = (s.pif.get q).assembler) ∧
    (∀ q, ((operationFailed op s).pif.get q).gapTimer = (s.pif.get q).gapTimer) ∧
    (∀ q, ((operationFailed op s).pif.get q).serverHold = (s.pif.get q).serverHold) ∧
    (∀ q, ((operationFailed op s).pif.get q).sent = (s.pif.get q).sent) := by
  unfold operationFailed
  repeat' (first | (simp; done) | split)

end Sys2Proof.Machine
end

