-- ==== Sys2Proof/Laws/FramesDriveFaults.lean ====
section
/-! SUPPORT. What each operation of Machine/DriveFaults.lean leaves as it is. -/

namespace Sys2Proof.Machine

@[simp] theorem beginReset_frame (s : State) :
    (beginReset s).adm = s.adm ∧ (beginReset s).pending = s.pending ∧ (beginReset s).owc.epoch = s.owc.epoch ∧
    (beginReset s).owc.commitCount = s.owc.commitCount ∧ (beginReset s).dpt.cause = s.dpt.cause ∧
    (beginReset s).dpt.identity = s.dpt.identity ∧ (beginReset s).dpt.referenceMark = s.dpt.referenceMark ∧
    (beginReset s).dpt.slotCount = s.dpt.slotCount ∧ (beginReset s).dpt.identifyFailures = s.dpt.identifyFailures ∧
    (beginReset s).dpt.present = s.dpt.present ∧ (beginReset s).fnu.masks = s.fnu.masks ∧
    (beginReset s).fnu.cursors = s.fnu.cursors ∧ (beginReset s).fnu.resetCause = s.fnu.resetCause ∧
    (beginReset s).fnu.postedLost = s.fnu.postedLost ∧ (beginReset s).fnu.deciding = s.fnu.deciding ∧
    (∀ q, ((beginReset s).pif.get q).link = (s.pif.get q).link) ∧
    (∀ q, ((beginReset s).pif.get q).assembler = (s.pif.get q).assembler) ∧
    (∀ q, ((beginReset s).pif.get q).gapTimer = (s.pif.get q).gapTimer) ∧
    (∀ q, ((beginReset s).pif.get q).serverHold = (s.pif.get q).serverHold) ∧
    (∀ q, ((beginReset s).pif.get q).sent = (s.pif.get q).sent) := by
  unfold beginReset
  dsimp only
  cases s.operationAtDrive <;> simp [Dpt.startReset]

@[simp] theorem requestReset_frame (s : State) :
    (requestReset s).adm = s.adm ∧ (requestReset s).pending = s.pending ∧ (requestReset s).owc.epoch = s.owc.epoch ∧
    (requestReset s).owc.commitCount = s.owc.commitCount ∧ (requestReset s).dpt.cause = s.dpt.cause ∧
    (requestReset s).dpt.identity = s.dpt.identity ∧ (requestReset s).dpt.referenceMark = s.dpt.referenceMark ∧
    (requestReset s).dpt.slotCount = s.dpt.slotCount ∧
    (requestReset s).dpt.identifyFailures = s.dpt.identifyFailures ∧ (requestReset s).dpt.present = s.dpt.present ∧
    (requestReset s).fnu.masks = s.fnu.masks ∧ (requestReset s).fnu.cursors = s.fnu.cursors ∧
    (requestReset s).fnu.resetCause = s.fnu.resetCause ∧ (requestReset s).fnu.postedLost = s.fnu.postedLost ∧
    (requestReset s).fnu.deciding = s.fnu.deciding ∧ (∀ q, ((requestReset s).pif.get q).link = (s.pif.get q).link) ∧
    (∀ q, ((requestReset s).pif.get q).assembler = (s.pif.get q).assembler) ∧
    (∀ q, ((requestReset s).pif.get q).gapTimer = (s.pif.get q).gapTimer) ∧
    (∀ q, ((requestReset s).pif.get q).serverHold = (s.pif.get q).serverHold) ∧
    (∀ q, ((requestReset s).pif.get q).sent = (s.pif.get q).sent) := by
  unfold requestReset
  split <;> simp

@[simp] theorem giveUp_frame (state : DriveState) (cause : DriveCause) (s : State) :
    (giveUp state cause s).hmon = s.hmon ∧ (giveUp state cause s).adm = s.adm ∧
    (giveUp state cause s).pending = s.pending ∧ (giveUp state cause s).owc.epoch = s.owc.epoch ∧
    (giveUp state cause s).owc.commitCount = s.owc.commitCount ∧ (giveUp state cause s).owc.policy = s.owc.policy ∧
    (giveUp state cause s).owc.history = s.owc.history ∧ (giveUp state cause s).dpt.identity = s.dpt.identity ∧
    (giveUp state cause s).dpt.referenceMark = s.dpt.referenceMark ∧
    (giveUp state cause s).dpt.slotCount = s.dpt.slotCount ∧
    (giveUp state cause s).dpt.identifyFailures = s.dpt.identifyFailures ∧
    (giveUp state cause s).dpt.present = s.dpt.present ∧ (giveUp state cause s).fnu.masks = s.fnu.masks ∧
    (giveUp state cause s).fnu.cursors = s.fnu.cursors ∧ (giveUp state cause s).fnu.resetCause = s.fnu.resetCause ∧
    (giveUp state cause s).fnu.postedLost = s.fnu.postedLost ∧ (giveUp state cause s).fnu.deciding = s.fnu.deciding ∧
    (∀ q, ((giveUp state cause s).pif.get q).link = (s.pif.get q).link) ∧
    (∀ q, ((giveUp state cause s).pif.get q).rxq = (s.pif.get q).rxq) ∧
    (∀ q, ((giveUp state cause s).pif.get q).assembler = (s.pif.get q).assembler) ∧
    (∀ q, ((giveUp state cause s).pif.get q).gapTimer = (s.pif.get q).gapTimer) ∧
    (∀ q, ((giveUp state cause s).pif.get q).serverHold = (s.pif.get q).serverHold) ∧
    (∀ q, ((giveUp state cause s).pif.get q).sent = (s.pif.get q).sent) := by
  simp [giveUp]

@[simp] theorem enterReady_frame (i : Identity) (s : State) :
    (enterReady i s).hmon = s.hmon ∧ (enterReady i s).adm = s.adm ∧ (enterReady i s).mem = s.mem ∧
    (enterReady i s).fnu = s.fnu ∧ (enterReady i s).pending = s.pending ∧ (enterReady i s).owc.epoch = s.owc.epoch ∧
    (enterReady i s).owc.commitCount = s.owc.commitCount ∧ (enterReady i s).owc.policy = s.owc.policy ∧
    (enterReady i s).owc.history = s.owc.history ∧ (enterReady i s).owc.orphans = s.owc.orphans ∧
    (enterReady i s).owc.dropped = s.owc.dropped ∧ (enterReady i s).dpt.resetTimer = s.dpt.resetTimer ∧
    (enterReady i s).dpt.present = s.dpt.present ∧ (∀ q, ((enterReady i s).pif.get q).link = (s.pif.get q).link) ∧
    (∀ q, ((enterReady i s).pif.get q).rxq = (s.pif.get q).rxq) ∧
    (∀ q, ((enterReady i s).pif.get q).assembler = (s.pif.get q).assembler) ∧
    (∀ q, ((enterReady i s).pif.get q).gapTimer = (s.pif.get q).gapTimer) ∧
    (∀ q, ((enterReady i s).pif.get q).serverHold = (s.pif.get q).serverHold) ∧
    (∀ q, ((enterReady i s).pif.get q).sent = (s.pif.get q).sent) := by
  simp [enterReady]

@[simp] theorem judgeIdentify_frame (i : Identity) (s : State) :
    (judgeIdentify i s).hmon = s.hmon ∧ (judgeIdentify i s).adm = s.adm ∧ (judgeIdentify i s).pending = s.pending ∧
    (judgeIdentify i s).owc.epoch = s.owc.epoch ∧ (judgeIdentify i s).owc.commitCount = s.owc.commitCount ∧
    (judgeIdentify i s).owc.policy = s.owc.policy ∧ (judgeIdentify i s).owc.history = s.owc.history ∧
    (judgeIdentify i s).dpt.present = s.dpt.present ∧ (judgeIdentify i s).fnu.masks = s.fnu.masks ∧
    (judgeIdentify i s).fnu.cursors = s.fnu.cursors ∧ (judgeIdentify i s).fnu.resetCause = s.fnu.resetCause ∧
    (judgeIdentify i s).fnu.postedLost = s.fnu.postedLost ∧ (judgeIdentify i s).fnu.deciding = s.fnu.deciding ∧
    (∀ q, ((judgeIdentify i s).pif.get q).link = (s.pif.get q).link) ∧
    (∀ q, ((judgeIdentify i s).pif.get q).rxq = (s.pif.get q).rxq) ∧
    (∀ q, ((judgeIdentify i s).pif.get q).assembler = (s.pif.get q).assembler) ∧
    (∀ q, ((judgeIdentify i s).pif.get q).gapTimer = (s.pif.get q).gapTimer) ∧
    (∀ q, ((judgeIdentify i s).pif.get q).serverHold = (s.pif.get q).serverHold) ∧
    (∀ q, ((judgeIdentify i s).pif.get q).sent = (s.pif.get q).sent) := by
  unfold judgeIdentify
  repeat' (first | (simp; done) | split)

@[simp] theorem raiseMedia_frame (status : DriveStatus) (s : State) :
    (raiseMedia status s).hmon = s.hmon ∧ (raiseMedia status s).owc = s.owc ∧ (raiseMedia status s).adm = s.adm ∧
    (raiseMedia status s).ift = s.ift ∧ (raiseMedia status s).stb = s.stb ∧ (raiseMedia status s).mem = s.mem ∧
    (raiseMedia status s).dpt = s.dpt ∧ (raiseMedia status s).pending = s.pending ∧
    (raiseMedia status s).fnu.masks = s.fnu.masks ∧ (raiseMedia status s).fnu.cursors = s.fnu.cursors ∧
    (raiseMedia status s).fnu.resetCause = s.fnu.resetCause ∧
    (raiseMedia status s).fnu.postedLost = s.fnu.postedLost ∧ (raiseMedia status s).fnu.deciding = s.fnu.deciding ∧
    (∀ q, ((raiseMedia status s).pif.get q).link = (s.pif.get q).link) ∧
    (∀ q, ((raiseMedia status s).pif.get q).rxq = (s.pif.get q).rxq) ∧
    (∀ q, ((raiseMedia status s).pif.get q).assembler = (s.pif.get q).assembler) ∧
    (∀ q, ((raiseMedia status s).pif.get q).gapTimer = (s.pif.get q).gapTimer) ∧
    (∀ q, ((raiseMedia status s).pif.get q).serverHold = (s.pif.get q).serverHold) ∧
    (∀ q, ((raiseMedia status s).pif.get q).partHold = (s.pif.get q).partHold) ∧
    (∀ q, ((raiseMedia status s).pif.get q).sent = (s.pif.get q).sent) := by
  unfold raiseMedia
  split <;> simp

@[simp] theorem acceptSegment_frame (slot entry offset length : Nat) (op : Op) (status : DriveStatus) (done : Nat) (blocks : List (List Byte)) (s : State) :
    (acceptSegment slot entry offset length op status done blocks s).hmon = s.hmon ∧
    (acceptSegment slot entry offset length op status done blocks s).adm = s.adm ∧
    (acceptSegment slot entry offset length op status done blocks s).pending = s.pending ∧
    (acceptSegment slot entry offset length op status done blocks s).owc.owner = s.owc.owner ∧
    (acceptSegment slot entry offset length op status done blocks s).owc.epoch = s.owc.epoch ∧
    (acceptSegment slot entry offset length op status done blocks s).owc.commitCount = s.owc.commitCount ∧
    (acceptSegment slot entry offset length op status done blocks s).owc.drainStage = s.owc.drainStage ∧
    (acceptSegment slot entry offset length op status done blocks s).owc.drainCause = s.owc.drainCause ∧
    (acceptSegment slot entry offset length op status done blocks s).owc.frozenCause = s.owc.frozenCause ∧
    (acceptSegment slot entry offset length op status done blocks s).owc.policy = s.owc.policy ∧
    (acceptSegment slot entry offset length op status done blocks s).owc.pendingPolicy = s.owc.pendingPolicy ∧
    (acceptSegment slot entry offset length op status done blocks s).owc.owedReplies = s.owc.owedReplies ∧
    (acceptSegment slot entry offset length op status done blocks s).owc.history = s.owc.history ∧
    (acceptSegment slot entry offset length op status done blocks s).owc.graceTimer = s.owc.graceTimer ∧
    (acceptSegment slot entry offset length op status done blocks s).owc.drainedPath = s.owc.drainedPath ∧
    (acceptSegment slot entry offset length op status done blocks s).fnu.masks = s.fnu.masks ∧
    (acceptSegment slot entry offset length op status done blocks s).fnu.cursors = s.fnu.cursors ∧
    (acceptSegment slot entry offset length op status done blocks s).fnu.resetCause = s.fnu.resetCause ∧
    (acceptSegment slot entry offset length op status done blocks s).fnu.postedLost = s.fnu.postedLost ∧
    (acceptSegment slot entry offset length op status done blocks s).fnu.deciding = s.fnu.deciding ∧
    (∀ q, ((acceptSegment slot entry offset length op status done blocks s).pif.get q).link = (s.pif.get q).link) ∧
    (∀ q, ((acceptSegment slot entry offset length op status done blocks s).pif.get q).rxq = (s.pif.get q).rxq) ∧
    (∀ q, ((acceptSegment slot entry offset length op status done blocks s).pif.get q).assembler = (s.pif.get q).assembler) ∧
    (∀ q, ((acceptSegment slot entry offset length op status done blocks s).pif.get q).gapTimer = (s.pif.get q).gapTimer) ∧
    (∀ q, ((acceptSegment slot entry offset length op status done blocks s).pif.get q).serverHold = (s.pif.get q).serverHold) ∧
    (∀ q, ((acceptSegment slot entry offset length op status done blocks s).pif.get q).sent = (s.pif.get q).sent) := by
  simp [acceptSegment]

@[simp] theorem takeReadyIndication_frame (s : State) :
    (takeReadyIndication s).pif = s.pif ∧ (takeReadyIndication s).hmon = s.hmon ∧
    (takeReadyIndication s).owc = s.owc ∧ (takeReadyIndication s).adm = s.adm ∧ (takeReadyIndication s).ift = s.ift ∧
    (takeReadyIndication s).stb = s.stb ∧ (takeReadyIndication s).mem = s.mem ∧ (takeReadyIndication s).fnu = s.fnu ∧
    (takeReadyIndication s).pending = s.pending ∧ (takeReadyIndication s).dpt.cause = s.dpt.cause ∧
    (takeReadyIndication s).dpt.identity = s.dpt.identity ∧
    (takeReadyIndication s).dpt.referenceMark = s.dpt.referenceMark ∧
    (takeReadyIndication s).dpt.slotCount = s.dpt.slotCount ∧ (takeReadyIndication s).dpt.request = s.dpt.request ∧
    (takeReadyIndication s).dpt.identifyFailures = s.dpt.identifyFailures ∧
    (takeReadyIndication s).dpt.present = s.dpt.present := by
  unfold takeReadyIndication
  split <;> simp

@[simp] theorem resetExpired_frame (s : State) :
    (resetExpired s).hmon = s.hmon ∧ (resetExpired s).adm = s.adm ∧ (resetExpired s).pending = s.pending ∧
    (resetExpired s).owc.epoch = s.owc.epoch ∧ (resetExpired s).owc.commitCount = s.owc.commitCount ∧
    (resetExpired s).owc.policy = s.owc.policy ∧ (resetExpired s).owc.history = s.owc.history ∧
    (resetExpired s).dpt.identity = s.dpt.identity ∧ (resetExpired s).dpt.referenceMark = s.dpt.referenceMark ∧
    (resetExpired s).dpt.slotCount = s.dpt.slotCount ∧
    (resetExpired s).dpt.identifyFailures = s.dpt.identifyFailures ∧ (resetExpired s).dpt.present = s.dpt.present ∧
    (resetExpired s).fnu.masks = s.fnu.masks ∧ (resetExpired s).fnu.cursors = s.fnu.cursors ∧
    (resetExpired s).fnu.resetCause = s.fnu.resetCause ∧ (resetExpired s).fnu.postedLost = s.fnu.postedLost ∧
    (resetExpired s).fnu.deciding = s.fnu.deciding ∧ (∀ q, ((resetExpired s).pif.get q).link = (s.pif.get q).link) ∧
    (∀ q, ((resetExpired s).pif.get q).rxq = (s.pif.get q).rxq) ∧
    (∀ q, ((resetExpired s).pif.get q).assembler = (s.pif.get q).assembler) ∧
    (∀ q, ((resetExpired s).pif.get q).gapTimer = (s.pif.get q).gapTimer) ∧
    (∀ q, ((resetExpired s).pif.get q).serverHold = (s.pif.get q).serverHold) ∧
    (∀ q, ((resetExpired s).pif.get q).sent = (s.pif.get q).sent) := by
  unfold resetExpired
  split <;> simp

@[simp] theorem presentFalls_frame (s : State) :
    (presentFalls s).hmon = s.hmon ∧ (presentFalls s).adm = s.adm ∧ (presentFalls s).pending = s.pending ∧
    (presentFalls s).owc.epoch = s.owc.epoch ∧ (presentFalls s).owc.commitCount = s.owc.commitCount ∧
    (presentFalls s).owc.policy = s.owc.policy ∧ (presentFalls s).owc.history = s.owc.history ∧
    (presentFalls s).dpt.identity = s.dpt.identity ∧ (presentFalls s).dpt.slotCount = s.dpt.slotCount ∧
    (presentFalls s).dpt.identifyFailures = s.dpt.identifyFailures ∧ (presentFalls s).fnu.masks = s.fnu.masks ∧
    (presentFalls s).fnu.cursors = s.fnu.cursors ∧ (presentFalls s).fnu.resetCause = s.fnu.resetCause ∧
    (presentFalls s).fnu.postedLost = s.fnu.postedLost ∧ (presentFalls s).fnu.deciding = s.fnu.deciding ∧
    (∀ q, ((presentFalls s).pif.get q).link = (s.pif.get q).link) ∧
    (∀ q, ((presentFalls s).pif.get q).rxq = (s.pif.get q).rxq) ∧
    (∀ q, ((presentFalls s).pif.get q).assembler = (s.pif.get q).assembler) ∧
    (∀ q, ((presentFalls s).pif.get q).gapTimer = (s.pif.get q).gapTimer) ∧
    (∀ q, ((presentFalls s).pif.get q).serverHold = (s.pif.get q).serverHold) ∧
    (∀ q, ((presentFalls s).pif.get q).sent = (s.pif.get q).sent) := by
  unfold presentFalls
  split <;> simp

@[simp] theorem presentRises_frame (s : State) :
    (presentRises s).pif = s.pif ∧ (presentRises s).hmon = s.hmon ∧ (presentRises s).owc = s.owc ∧
    (presentRises s).adm = s.adm ∧ (presentRises s).ift = s.ift ∧ (presentRises s).stb = s.stb ∧
    (presentRises s).mem = s.mem ∧ (presentRises s).fnu = s.fnu ∧ (presentRises s).pending = s.pending ∧
    (presentRises s).dpt.identity = s.dpt.identity ∧ (presentRises s).dpt.referenceMark = s.dpt.referenceMark ∧
    (presentRises s).dpt.slotCount = s.dpt.slotCount ∧ (presentRises s).dpt.request = s.dpt.request ∧
    (presentRises s).dpt.resetTimer = s.dpt.resetTimer := by
  unfold presentRises
  split <;> simp

end Sys2Proof.Machine
end

