-- ==== Sys2Proof/Laws/FramesLink.lean ====
section
/-! SUPPORT. What each operation of Machine/Link.lean leaves as it is. -/

namespace Sys2Proof.Machine

@[simp] theorem acknowledge_frame (e : Entry) (s : State) :
    (acknowledge e s).hmon = s.hmon ∧ (acknowledge e s).owc = s.owc ∧ (acknowledge e s).adm = s.adm ∧
    (acknowledge e s).stb = s.stb ∧ (acknowledge e s).mem = s.mem ∧ (acknowledge e s).dpt = s.dpt ∧
    (acknowledge e s).fnu = s.fnu ∧ (acknowledge e s).pending = s.pending ∧
    (∀ q, ((acknowledge e s).pif.get q).link = (s.pif.get q).link) ∧
    (∀ q, ((acknowledge e s).pif.get q).rxq = (s.pif.get q).rxq) ∧
    (∀ q, ((acknowledge e s).pif.get q).assembler = (s.pif.get q).assembler) ∧
    (∀ q, ((acknowledge e s).pif.get q).gapTimer = (s.pif.get q).gapTimer) ∧
    (∀ q, ((acknowledge e s).pif.get q).serverHold = (s.pif.get q).serverHold) ∧
    (∀ q, ((acknowledge e s).pif.get q).partHold = (s.pif.get q).partHold) ∧
    (∀ q, ((acknowledge e s).pif.get q).sent = (s.pif.get q).sent) := by
  simp [acknowledge]

@[simp] theorem stageBlock_frame (e : Entry) (data : List Byte) (s : State) :
    (stageBlock e data s).hmon = s.hmon ∧ (stageBlock e data s).owc = s.owc ∧ (stageBlock e data s).adm = s.adm ∧
    (stageBlock e data s).dpt = s.dpt ∧ (stageBlock e data s).fnu = s.fnu ∧
    (stageBlock e data s).pending = s.pending ∧ (∀ q, ((stageBlock e data s).pif.get q).link = (s.pif.get q).link) ∧
    (∀ q, ((stageBlock e data s).pif.get q).rxq = (s.pif.get q).rxq) ∧
    (∀ q, ((stageBlock e data s).pif.get q).assembler = (s.pif.get q).assembler) ∧
    (∀ q, ((stageBlock e data s).pif.get q).gapTimer = (s.pif.get q).gapTimer) ∧
    (∀ q, ((stageBlock e data s).pif.get q).serverHold = (s.pif.get q).serverHold) ∧
    (∀ q, ((stageBlock e data s).pif.get q).sent = (s.pif.get q).sent) := by
  unfold stageBlock
  split <;> simp

@[simp] theorem takeBlock_frame (e : Entry) (offset : Nat) (data : List Byte) (s : State) :
    (takeBlock e offset data s).hmon = s.hmon ∧ (takeBlock e offset data s).owc = s.owc ∧
    (takeBlock e offset data s).adm = s.adm ∧ (takeBlock e offset data s).dpt = s.dpt ∧
    (takeBlock e offset data s).fnu = s.fnu ∧ (takeBlock e offset data s).pending = s.pending ∧
    (∀ q, ((takeBlock e offset data s).pif.get q).link = (s.pif.get q).link) ∧
    (∀ q, ((takeBlock e offset data s).pif.get q).rxq = (s.pif.get q).rxq) ∧
    (∀ q, ((takeBlock e offset data s).pif.get q).assembler = (s.pif.get q).assembler) ∧
    (∀ q, ((takeBlock e offset data s).pif.get q).gapTimer = (s.pif.get q).gapTimer) ∧
    (∀ q, ((takeBlock e offset data s).pif.get q).serverHold = (s.pif.get q).serverHold) ∧
    (∀ q, ((takeBlock e offset data s).pif.get q).sent = (s.pif.get q).sent) := by
  unfold takeBlock
  repeat' (first | (simp; done) | split)

@[simp] theorem takeWriteData_frame (p : Path) (tag offset : Word) (data : List Byte) (s : State) :
    (takeWriteData p tag offset data s).adm = s.adm ∧ (takeWriteData p tag offset data s).pending = s.pending ∧
    (takeWriteData p tag offset data s).owc.epoch = s.owc.epoch ∧
    (takeWriteData p tag offset data s).owc.commitCount = s.owc.commitCount ∧
    (takeWriteData p tag offset data s).owc.frozenCause = s.owc.frozenCause ∧
    (takeWriteData p tag offset data s).owc.policy = s.owc.policy ∧
    (takeWriteData p tag offset data s).owc.pendingPolicy = s.owc.pendingPolicy ∧
    (takeWriteData p tag offset data s).owc.owedReplies = s.owc.owedReplies ∧
    (takeWriteData p tag offset data s).owc.history = s.owc.history ∧
    (takeWriteData p tag offset data s).dpt.state = s.dpt.state ∧
    (takeWriteData p tag offset data s).dpt.cause = s.dpt.cause ∧
    (takeWriteData p tag offset data s).dpt.identity = s.dpt.identity ∧
    (takeWriteData p tag offset data s).dpt.referenceMark = s.dpt.referenceMark ∧
    (takeWriteData p tag offset data s).dpt.slotCount = s.dpt.slotCount ∧
    (takeWriteData p tag offset data s).dpt.identifyFailures = s.dpt.identifyFailures ∧
    (takeWriteData p tag offset data s).dpt.resetTimer = s.dpt.resetTimer ∧
    (takeWriteData p tag offset data s).dpt.present = s.dpt.present ∧
    (takeWriteData p tag offset data s).fnu.masks = s.fnu.masks ∧
    (takeWriteData p tag offset data s).fnu.cursors = s.fnu.cursors ∧
    (takeWriteData p tag offset data s).fnu.resetCause = s.fnu.resetCause ∧
    (takeWriteData p tag offset data s).fnu.postedLost = s.fnu.postedLost ∧
    (takeWriteData p tag offset data s).fnu.deciding = s.fnu.deciding ∧
    (∀ q, ((takeWriteData p tag offset data s).pif.get q).link = (s.pif.get q).link) ∧
    (∀ q, ((takeWriteData p tag offset data s).pif.get q).assembler = (s.pif.get q).assembler) ∧
    (∀ q, ((takeWriteData p tag offset data s).pif.get q).gapTimer = (s.pif.get q).gapTimer) ∧
    (∀ q, ((takeWriteData p tag offset data s).pif.get q).serverHold = (s.pif.get q).serverHold) ∧
    (∀ q, ((takeWriteData p tag offset data s).pif.get q).sent = (s.pif.get q).sent) := by
  unfold takeWriteData
  repeat' (first | (simp; done) | split)

@[simp] theorem takeHold_frame (p : Path) (s : State) :
    (takeHold p s).hmon = s.hmon ∧ (takeHold p s).owc = s.owc ∧ (takeHold p s).adm = s.adm ∧
    (takeHold p s).ift = s.ift ∧ (takeHold p s).stb = s.stb ∧ (takeHold p s).mem = s.mem ∧
    (takeHold p s).dpt = s.dpt ∧ (takeHold p s).fnu = s.fnu ∧ (takeHold p s).pending = s.pending ∧
    (∀ q, ((takeHold p s).pif.get q).link = (s.pif.get q).link) ∧
    (∀ q, ((takeHold p s).pif.get q).rxq = (s.pif.get q).rxq) ∧
    (∀ q, ((takeHold p s).pif.get q).assembler = (s.pif.get q).assembler) ∧
    (∀ q, ((takeHold p s).pif.get q).gapTimer = (s.pif.get q).gapTimer) ∧
    (∀ q, ((takeHold p s).pif.get q).partHold = (s.pif.get q).partHold) ∧
    (∀ q, ((takeHold p s).pif.get q).sent = (s.pif.get q).sent) := by
  simp [takeHold]

@[simp] theorem takeGo_frame (p : Path) (s : State) :
    (takeGo p s).owc = s.owc ∧ (takeGo p s).adm = s.adm ∧ (takeGo p s).ift = s.ift ∧ (takeGo p s).stb = s.stb ∧
    (takeGo p s).mem = s.mem ∧ (takeGo p s).dpt = s.dpt ∧ (takeGo p s).fnu = s.fnu ∧
    (takeGo p s).pending = s.pending ∧ (∀ q, ((takeGo p s).pif.get q).link = (s.pif.get q).link) ∧
    (∀ q, ((takeGo p s).pif.get q).rxq = (s.pif.get q).rxq) ∧
    (∀ q, ((takeGo p s).pif.get q).assembler = (s.pif.get q).assembler) ∧
    (∀ q, ((takeGo p s).pif.get q).gapTimer = (s.pif.get q).gapTimer) ∧
    (∀ q, ((takeGo p s).pif.get q).partHold = (s.pif.get q).partHold) ∧
    (∀ q, ((takeGo p s).pif.get q).sent = (s.pif.get q).sent) := by
  unfold takeGo
  split <;> simp

@[simp] theorem answerPulse_frame (p : Path) (sequence : Byte) (s : State) :
    (answerPulse p sequence s).adm = s.adm ∧ (answerPulse p sequence s).pending = s.pending ∧
    (answerPulse p sequence s).owc.epoch = s.owc.epoch ∧
    (answerPulse p sequence s).owc.commitCount = s.owc.commitCount ∧
    (answerPulse p sequence s).owc.frozenCause = s.owc.frozenCause ∧
    (answerPulse p sequence s).owc.policy = s.owc.policy ∧
    (answerPulse p sequence s).owc.pendingPolicy = s.owc.pendingPolicy ∧
    (answerPulse p sequence s).owc.owedReplies = s.owc.owedReplies ∧
    (answerPulse p sequence s).owc.history = s.owc.history ∧ (answerPulse p sequence s).dpt.state = s.dpt.state ∧
    (answerPulse p sequence s).dpt.cause = s.dpt.cause ∧ (answerPulse p sequence s).dpt.identity = s.dpt.identity ∧
    (answerPulse p sequence s).dpt.referenceMark = s.dpt.referenceMark ∧
    (answerPulse p sequence s).dpt.slotCount = s.dpt.slotCount ∧
    (answerPulse p sequence s).dpt.identifyFailures = s.dpt.identifyFailures ∧
    (answerPulse p sequence s).dpt.resetTimer = s.dpt.resetTimer ∧
    (answerPulse p sequence s).dpt.present = s.dpt.present ∧ (answerPulse p sequence s).fnu.masks = s.fnu.masks ∧
    (answerPulse p sequence s).fnu.cursors = s.fnu.cursors ∧
    (answerPulse p sequence s).fnu.resetCause = s.fnu.resetCause ∧
    (answerPulse p sequence s).fnu.postedLost = s.fnu.postedLost ∧
    (answerPulse p sequence s).fnu.deciding = s.fnu.deciding ∧
    (∀ q, ((answerPulse p sequence s).pif.get q).link = (s.pif.get q).link) ∧
    (∀ q, ((answerPulse p sequence s).pif.get q).assembler = (s.pif.get q).assembler) ∧
    (∀ q, ((answerPulse p sequence s).pif.get q).gapTimer = (s.pif.get q).gapTimer) ∧
    (∀ q, ((answerPulse p sequence s).pif.get q).serverHold = (s.pif.get q).serverHold) ∧
    (∀ q, ((answerPulse p sequence s).pif.get q).sent = (s.pif.get q).sent) := by
  simp [answerPulse]

@[simp] theorem arrive_frame (p : Path) (frame : QueuedFrame) (s : State) :
    (arrive p frame s).hmon = s.hmon ∧ (arrive p frame s).owc = s.owc ∧ (arrive p frame s).adm = s.adm ∧
    (arrive p frame s).ift = s.ift ∧ (arrive p frame s).stb = s.stb ∧ (arrive p frame s).mem = s.mem ∧
    (arrive p frame s).dpt = s.dpt ∧ (arrive p frame s).fnu = s.fnu ∧ (arrive p frame s).pending = s.pending ∧
    (∀ q, ((arrive p frame s).pif.get q).link = (s.pif.get q).link) ∧
    (∀ q, ((arrive p frame s).pif.get q).assembler = (s.pif.get q).assembler) ∧
    (∀ q, ((arrive p frame s).pif.get q).gapTimer = (s.pif.get q).gapTimer) ∧
    (∀ q, ((arrive p frame s).pif.get q).serverHold = (s.pif.get q).serverHold) ∧
    (∀ q, ((arrive p frame s).pif.get q).partHold = (s.pif.get q).partHold) ∧
    (∀ q, ((arrive p frame s).pif.get q).sent = (s.pif.get q).sent) := by
  unfold arrive
  dsimp only
  repeat' (first | (simp; done) | split)

@[simp] theorem routeFrame_frame (p : Path) (frame : InFrame) (s : State) :
    (routeFrame p frame s).adm = s.adm ∧ (routeFrame p frame s).pending = s.pending ∧
    (routeFrame p frame s).owc.epoch = s.owc.epoch ∧ (routeFrame p frame s).owc.commitCount = s.owc.commitCount ∧
    (routeFrame p frame s).owc.frozenCause = s.owc.frozenCause ∧ (routeFrame p frame s).owc.policy = s.owc.policy ∧
    (routeFrame p frame s).owc.pendingPolicy = s.owc.pendingPolicy ∧
    (routeFrame p frame s).owc.owedReplies = s.owc.owedReplies ∧ (routeFrame p frame s).owc.history = s.owc.history ∧
    (routeFrame p frame s).dpt.state = s.dpt.state ∧ (routeFrame p frame s).dpt.cause = s.dpt.cause ∧
    (routeFrame p frame s).dpt.identity = s.dpt.identity ∧
    (routeFrame p frame s).dpt.referenceMark = s.dpt.referenceMark ∧
    (routeFrame p frame s).dpt.slotCount = s.dpt.slotCount ∧
    (routeFrame p frame s).dpt.identifyFailures = s.dpt.identifyFailures ∧
    (routeFrame p frame s).dpt.resetTimer = s.dpt.resetTimer ∧ (routeFrame p frame s).dpt.present = s.dpt.present ∧
    (routeFrame p frame s).fnu.masks = s.fnu.masks ∧ (routeFrame p frame s).fnu.cursors = s.fnu.cursors ∧
    (routeFrame p frame s).fnu.resetCause = s.fnu.resetCause ∧
    (routeFrame p frame s).fnu.postedLost = s.fnu.postedLost ∧ (routeFrame p frame s).fnu.deciding = s.fnu.deciding ∧
    (∀ q, ((routeFrame p frame s).pif.get q).link = (s.pif.get q).link) ∧
    (∀ q, ((routeFrame p frame s).pif.get q).assembler = (s.pif.get q).assembler) ∧
    (∀ q, ((routeFrame p frame s).pif.get q).gapTimer = (s.pif.get q).gapTimer) ∧
    (∀ q, ((routeFrame p frame s).pif.get q).sent = (s.pif.get q).sent) := by
  unfold routeFrame
  split <;> simp

@[simp] theorem takeLateFrame_frame (p : Path) (frame : InFrame) (s : State) :
    (takeLateFrame p frame s).adm = s.adm ∧ (takeLateFrame p frame s).pending = s.pending ∧
    (takeLateFrame p frame s).owc.epoch = s.owc.epoch ∧
    (takeLateFrame p frame s).owc.commitCount = s.owc.commitCount ∧
    (takeLateFrame p frame s).owc.frozenCause = s.owc.frozenCause ∧
    (takeLateFrame p frame s).owc.policy = s.owc.policy ∧
    (takeLateFrame p frame s).owc.pendingPolicy = s.owc.pendingPolicy ∧
    (takeLateFrame p frame s).owc.owedReplies = s.owc.owedReplies ∧
    (takeLateFrame p frame s).owc.history = s.owc.history ∧ (takeLateFrame p frame s).dpt.state = s.dpt.state ∧
    (takeLateFrame p frame s).dpt.cause = s.dpt.cause ∧ (takeLateFrame p frame s).dpt.identity = s.dpt.identity ∧
    (takeLateFrame p frame s).dpt.referenceMark = s.dpt.referenceMark ∧
    (takeLateFrame p frame s).dpt.slotCount = s.dpt.slotCount ∧
    (takeLateFrame p frame s).dpt.identifyFailures = s.dpt.identifyFailures ∧
    (takeLateFrame p frame s).dpt.resetTimer = s.dpt.resetTimer ∧
    (takeLateFrame p frame s).dpt.present = s.dpt.present ∧ (takeLateFrame p frame s).fnu.masks = s.fnu.masks ∧
    (takeLateFrame p frame s).fnu.cursors = s.fnu.cursors ∧
    (takeLateFrame p frame s).fnu.resetCause = s.fnu.resetCause ∧
    (takeLateFrame p frame s).fnu.postedLost = s.fnu.postedLost ∧
    (takeLateFrame p frame s).fnu.deciding = s.fnu.deciding ∧
    (∀ q, ((takeLateFrame p frame s).pif.get q).link = (s.pif.get q).link) ∧
    (∀ q, ((takeLateFrame p frame s).pif.get q).sent = (s.pif.get q).sent) := by
  unfold takeLateFrame
  split <;> simp

@[simp] theorem frameCompletes_frame (p : Path) (frame : InFrame) (s : State) :
    (frameCompletes p frame s).adm = s.adm ∧ (frameCompletes p frame s).pending = s.pending ∧
    (frameCompletes p frame s).owc.epoch = s.owc.epoch ∧
    (frameCompletes p frame s).owc.commitCount = s.owc.commitCount ∧
    (frameCompletes p frame s).owc.frozenCause = s.owc.frozenCause ∧
    (frameCompletes p frame s).owc.policy = s.owc.policy ∧
    (frameCompletes p frame s).owc.pendingPolicy = s.owc.pendingPolicy ∧
    (frameCompletes p frame s).owc.owedReplies = s.owc.owedReplies ∧
    (frameCompletes p frame s).owc.history = s.owc.history ∧ (frameCompletes p frame s).dpt.state = s.dpt.state ∧
    (frameCompletes p frame s).dpt.cause = s.dpt.cause ∧ (frameCompletes p frame s).dpt.identity = s.dpt.identity ∧
    (frameCompletes p frame s).dpt.referenceMark = s.dpt.referenceMark ∧
    (frameCompletes p frame s).dpt.slotCount = s.dpt.slotCount ∧
    (frameCompletes p frame s).dpt.identifyFailures = s.dpt.identifyFailures ∧
    (frameCompletes p frame s).dpt.resetTimer = s.dpt.resetTimer ∧
    (frameCompletes p frame s).dpt.present = s.dpt.present ∧ (frameCompletes p frame s).fnu.masks = s.fnu.masks ∧
    (frameCompletes p frame s).fnu.cursors = s.fnu.cursors ∧
    (frameCompletes p frame s).fnu.resetCause = s.fnu.resetCause ∧
    (frameCompletes p frame s).fnu.postedLost = s.fnu.postedLost ∧
    (frameCompletes p frame s).fnu.deciding = s.fnu.deciding ∧
    (∀ q, ((frameCompletes p frame s).pif.get q).link = (s.pif.get q).link) ∧
    (∀ q, ((frameCompletes p frame s).pif.get q).sent = (s.pif.get q).sent) := by
  unfold frameCompletes
  split <;> simp

@[simp] theorem discardFrame_frame (p : Path) (s : State) :
    (discardFrame p s).adm = s.adm ∧ (discardFrame p s).pending = s.pending ∧
    (discardFrame p s).owc.epoch = s.owc.epoch ∧ (discardFrame p s).owc.commitCount = s.owc.commitCount ∧
    (discardFrame p s).owc.frozenCause = s.owc.frozenCause ∧ (discardFrame p s).owc.policy = s.owc.policy ∧
    (discardFrame p s).owc.pendingPolicy = s.owc.pendingPolicy ∧
    (discardFrame p s).owc.owedReplies = s.owc.owedReplies ∧ (discardFrame p s).owc.history = s.owc.history ∧
    (discardFrame p s).dpt.state = s.dpt.state ∧ (discardFrame p s).dpt.cause = s.dpt.cause ∧
    (discardFrame p s).dpt.identity = s.dpt.identity ∧ (discardFrame p s).dpt.referenceMark = s.dpt.referenceMark ∧
    (discardFrame p s).dpt.slotCount = s.dpt.slotCount ∧
    (discardFrame p s).dpt.identifyFailures = s.dpt.identifyFailures ∧
    (discardFrame p s).dpt.resetTimer = s.dpt.resetTimer ∧ (discardFrame p s).dpt.present = s.dpt.present ∧
    (discardFrame p s).fnu.masks = s.fnu.masks ∧ (discardFrame p s).fnu.cursors = s.fnu.cursors ∧
    (discardFrame p s).fnu.resetCause = s.fnu.resetCause ∧ (discardFrame p s).fnu.postedLost = s.fnu.postedLost ∧
    (discardFrame p s).fnu.deciding = s.fnu.deciding ∧
    (∀ q, ((discardFrame p s).pif.get q).link = (s.pif.get q).link) ∧
    (∀ q, ((discardFrame p s).pif.get q).serverHold = (s.pif.get q).serverHold) ∧
    (∀ q, ((discardFrame p s).pif.get q).sent = (s.pif.get q).sent) := by
  simp [discardFrame]

@[simp] theorem completeFrame_frame (p : Path) (kind : Byte) (length : Nat) (bytes : List Byte) (sum : Word) (s : State) :
    (completeFrame p kind length bytes sum s).adm = s.adm ∧
    (completeFrame p kind length bytes sum s).pending = s.pending ∧
    (completeFrame p kind length bytes sum s).owc.epoch = s.owc.epoch ∧
    (completeFrame p kind length bytes sum s).owc.commitCount = s.owc.commitCount ∧
    (completeFrame p kind length bytes sum s).owc.frozenCause = s.owc.frozenCause ∧
    (completeFrame p kind length bytes sum s).owc.policy = s.owc.policy ∧
    (completeFrame p kind length bytes sum s).owc.pendingPolicy = s.owc.pendingPolicy ∧
    (completeFrame p kind length bytes sum s).owc.owedReplies = s.owc.owedReplies ∧
    (completeFrame p kind length bytes sum s).owc.history = s.owc.history ∧
    (completeFrame p kind length bytes sum s).dpt.state = s.dpt.state ∧
    (completeFrame p kind length bytes sum s).dpt.cause = s.dpt.cause ∧
    (completeFrame p kind length bytes sum s).dpt.identity = s.dpt.identity ∧
    (completeFrame p kind length bytes sum s).dpt.referenceMark = s.dpt.referenceMark ∧
    (completeFrame p kind length bytes sum s).dpt.slotCount = s.dpt.slotCount ∧
    (completeFrame p kind length bytes sum s).dpt.identifyFailures = s.dpt.identifyFailures ∧
    (completeFrame p kind length bytes sum s).dpt.resetTimer = s.dpt.resetTimer ∧
    (completeFrame p kind length bytes sum s).dpt.present = s.dpt.present ∧
    (completeFrame p kind length bytes sum s).fnu.masks = s.fnu.masks ∧
    (completeFrame p kind length bytes sum s).fnu.cursors = s.fnu.cursors ∧
    (completeFrame p kind length bytes sum s).fnu.resetCause = s.fnu.resetCause ∧
    (completeFrame p kind length bytes sum s).fnu.postedLost = s.fnu.postedLost ∧
    (completeFrame p kind length bytes sum s).fnu.deciding = s.fnu.deciding ∧
    (∀ q, ((completeFrame p kind length bytes sum s).pif.get q).link = (s.pif.get q).link) ∧
    (∀ q, ((completeFrame p kind length bytes sum s).pif.get q).sent = (s.pif.get q).sent) := by
  unfold completeFrame
  repeat' (first | (simp; done) | split)

@[simp] theorem takeLength_frame (p : Path) (kind high low : Byte) (sum : Word) (s : State) :
    (takeLength p kind high low sum s).adm = s.adm ∧ (takeLength p kind high low sum s).pending = s.pending ∧
    (takeLength p kind high low sum s).owc.epoch = s.owc.epoch ∧
    (takeLength p kind high low sum s).owc.commitCount = s.owc.commitCount ∧
    (takeLength p kind high low sum s).owc.frozenCause = s.owc.frozenCause ∧
    (takeLength p kind high low sum s).owc.policy = s.owc.policy ∧
    (takeLength p kind high low sum s).owc.pendingPolicy = s.owc.pendingPolicy ∧
    (takeLength p kind high low sum s).owc.owedReplies = s.owc.owedReplies ∧
    (takeLength p kind high low sum s).owc.history = s.owc.history ∧
    (takeLength p kind high low sum s).dpt.state = s.dpt.state ∧
    (takeLength p kind high low sum s).dpt.cause = s.dpt.cause ∧
    (takeLength p kind high low sum s).dpt.identity = s.dpt.identity ∧
    (takeLength p kind high low sum s).dpt.referenceMark = s.dpt.referenceMark ∧
    (takeLength p kind high low sum s).dpt.slotCount = s.dpt.slotCount ∧
    (takeLength p kind high low sum s).dpt.identifyFailures = s.dpt.identifyFailures ∧
    (takeLength p kind high low sum s).dpt.resetTimer = s.dpt.resetTimer ∧
    (takeLength p kind high low sum s).dpt.present = s.dpt.present ∧
    (takeLength p kind high low sum s).fnu.masks = s.fnu.masks ∧
    (takeLength p kind high low sum s).fnu.cursors = s.fnu.cursors ∧
    (takeLength p kind high low sum s).fnu.resetCause = s.fnu.resetCause ∧
    (takeLength p kind high low sum s).fnu.postedLost = s.fnu.postedLost ∧
    (takeLength p kind high low sum s).fnu.deciding = s.fnu.deciding ∧
    (∀ q, ((takeLength p kind high low sum s).pif.get q).link = (s.pif.get q).link) ∧
    (∀ q, ((takeLength p kind high low sum s).pif.get q).serverHold = (s.pif.get q).serverHold) ∧
    (∀ q, ((takeLength p kind high low sum s).pif.get q).sent = (s.pif.get q).sent) := by
  unfold takeLength
  dsimp only
  split <;> simp

@[simp] theorem takeBody_frame (p : Path) (kind : Byte) (length : Nat) (bytes : List Byte) (sum : Word) (byte : Byte) (s : State) :
    (takeBody p kind length bytes sum byte s).adm = s.adm ∧
    (takeBody p kind length bytes sum byte s).pending = s.pending ∧
    (takeBody p kind length bytes sum byte s).owc.epoch = s.owc.epoch ∧
    (takeBody p kind length bytes sum byte s).owc.commitCount = s.owc.commitCount ∧
    (takeBody p kind length bytes sum byte s).owc.frozenCause = s.owc.frozenCause ∧
    (takeBody p kind length bytes sum byte s).owc.policy = s.owc.policy ∧
    (takeBody p kind length bytes sum byte s).owc.pendingPolicy = s.owc.pendingPolicy ∧
    (takeBody p kind length bytes sum byte s).owc.owedReplies = s.owc.owedReplies ∧
    (takeBody p kind length bytes sum byte s).owc.history = s.owc.history ∧
    (takeBody p kind length bytes sum byte s).dpt.state = s.dpt.state ∧
    (takeBody p kind length bytes sum byte s).dpt.cause = s.dpt.cause ∧
    (takeBody p kind length bytes sum byte s).dpt.identity = s.dpt.identity ∧
    (takeBody p kind length bytes sum byte s).dpt.referenceMark = s.dpt.referenceMark ∧
    (takeBody p kind length bytes sum byte s).dpt.slotCount = s.dpt.slotCount ∧
    (takeBody p kind length bytes sum byte s).dpt.identifyFailures = s.dpt.identifyFailures ∧
    (takeBody p kind length bytes sum byte s).dpt.resetTimer = s.dpt.resetTimer ∧
    (takeBody p kind length bytes sum byte s).dpt.present = s.dpt.present ∧
    (takeBody p kind length bytes sum byte s).fnu.masks = s.fnu.masks ∧
    (takeBody p kind length bytes sum byte s).fnu.cursors = s.fnu.cursors ∧
    (takeBody p kind length bytes sum byte s).fnu.resetCause = s.fnu.resetCause ∧
    (takeBody p kind length bytes sum byte s).fnu.postedLost = s.fnu.postedLost ∧
    (takeBody p kind length bytes sum byte s).fnu.deciding = s.fnu.deciding ∧
    (∀ q, ((takeBody p kind length bytes sum byte s).pif.get q).link = (s.pif.get q).link) ∧
    (∀ q, ((takeBody p kind length bytes sum byte s).pif.get q).sent = (s.pif.get q).sent) := by
  unfold takeBody
  repeat' (first | (simp; done) | split)

@[simp] theorem takeMarked_frame (p : Path) (byte : Byte) (s : State) :
    (takeMarked p byte s).adm = s.adm ∧ (takeMarked p byte s).pending = s.pending ∧
    (takeMarked p byte s).owc.epoch = s.owc.epoch ∧ (takeMarked p byte s).owc.commitCount = s.owc.commitCount ∧
    (takeMarked p byte s).owc.frozenCause = s.owc.frozenCause ∧ (takeMarked p byte s).owc.policy = s.owc.policy ∧
    (takeMarked p byte s).owc.pendingPolicy = s.owc.pendingPolicy ∧
    (takeMarked p byte s).owc.owedReplies = s.owc.owedReplies ∧ (takeMarked p byte s).owc.history = s.owc.history ∧
    (takeMarked p byte s).dpt.state = s.dpt.state ∧ (takeMarked p byte s).dpt.cause = s.dpt.cause ∧
    (takeMarked p byte s).dpt.identity = s.dpt.identity ∧
    (takeMarked p byte s).dpt.referenceMark = s.dpt.referenceMark ∧
    (takeMarked p byte s).dpt.slotCount = s.dpt.slotCount ∧
    (takeMarked p byte s).dpt.identifyFailures = s.dpt.identifyFailures ∧
    (takeMarked p byte s).dpt.resetTimer = s.dpt.resetTimer ∧ (takeMarked p byte s).dpt.present = s.dpt.present ∧
    (takeMarked p byte s).fnu.masks = s.fnu.masks ∧ (takeMarked p byte s).fnu.cursors = s.fnu.cursors ∧
    (takeMarked p byte s).fnu.resetCause = s.fnu.resetCause ∧
    (takeMarked p byte s).fnu.postedLost = s.fnu.postedLost ∧ (takeMarked p byte s).fnu.deciding = s.fnu.deciding ∧
    (∀ q, ((takeMarked p byte s).pif.get q).link = (s.pif.get q).link) ∧
    (∀ q, ((takeMarked p byte s).pif.get q).serverHold = (s.pif.get q).serverHold) ∧
    (∀ q, ((takeMarked p byte s).pif.get q).sent = (s.pif.get q).sent) := by
  unfold takeMarked
  split <;> simp

@[simp] theorem takeUnmarked_frame (p : Path) (byte : Byte) (s : State) :
    (takeUnmarked p byte s).adm = s.adm ∧ (takeUnmarked p byte s).pending = s.pending ∧
    (takeUnmarked p byte s).owc.epoch = s.owc.epoch ∧ (takeUnmarked p byte s).owc.commitCount = s.owc.commitCount ∧
    (takeUnmarked p byte s).owc.frozenCause = s.owc.frozenCause ∧ (takeUnmarked p byte s).owc.policy = s.owc.policy ∧
    (takeUnmarked p byte s).owc.pendingPolicy = s.owc.pendingPolicy ∧
    (takeUnmarked p byte s).owc.owedReplies = s.owc.owedReplies ∧
    (takeUnmarked p byte s).owc.history = s.owc.history ∧ (takeUnmarked p byte s).dpt.state = s.dpt.state ∧
    (takeUnmarked p byte s).dpt.cause = s.dpt.cause ∧ (takeUnmarked p byte s).dpt.identity = s.dpt.identity ∧
    (takeUnmarked p byte s).dpt.referenceMark = s.dpt.referenceMark ∧
    (takeUnmarked p byte s).dpt.slotCount = s.dpt.slotCount ∧
    (takeUnmarked p byte s).dpt.identifyFailures = s.dpt.identifyFailures ∧
    (takeUnmarked p byte s).dpt.resetTimer = s.dpt.resetTimer ∧ (takeUnmarked p byte s).dpt.present = s.dpt.present ∧
    (takeUnmarked p byte s).fnu.masks = s.fnu.masks ∧ (takeUnmarked p byte s).fnu.cursors = s.fnu.cursors ∧
    (takeUnmarked p byte s).fnu.resetCause = s.fnu.resetCause ∧
    (takeUnmarked p byte s).fnu.postedLost = s.fnu.postedLost ∧
    (takeUnmarked p byte s).fnu.deciding = s.fnu.deciding ∧
    (∀ q, ((takeUnmarked p byte s).pif.get q).link = (s.pif.get q).link) ∧
    (∀ q, ((takeUnmarked p byte s).pif.get q).sent = (s.pif.get q).sent) := by
  unfold takeUnmarked
  split <;> simp

@[simp] theorem takeCharacter_frame (p : Path) (marked : Bool) (byte : Byte) (s : State) :
    (takeCharacter p marked byte s).adm = s.adm ∧ (takeCharacter p marked byte s).pending = s.pending ∧
    (takeCharacter p marked byte s).owc.epoch = s.owc.epoch ∧
    (takeCharacter p marked byte s).owc.commitCount = s.owc.commitCount ∧
    (takeCharacter p marked byte s).owc.frozenCause = s.owc.frozenCause ∧
    (takeCharacter p marked byte s).owc.policy = s.owc.policy ∧
    (takeCharacter p marked byte s).owc.pendingPolicy = s.owc.pendingPolicy ∧
    (takeCharacter p marked byte s).owc.owedReplies = s.owc.owedReplies ∧
    (takeCharacter p marked byte s).owc.history = s.owc.history ∧
    (takeCharacter p marked byte s).dpt.state = s.dpt.state ∧
    (takeCharacter p marked byte s).dpt.cause = s.dpt.cause ∧
    (takeCharacter p marked byte s).dpt.identity = s.dpt.identity ∧
    (takeCharacter p marked byte s).dpt.referenceMark = s.dpt.referenceMark ∧
    (takeCharacter p marked byte s).dpt.slotCount = s.dpt.slotCount ∧
    (takeCharacter p marked byte s).dpt.identifyFailures = s.dpt.identifyFailures ∧
    (takeCharacter p marked byte s).dpt.resetTimer = s.dpt.resetTimer ∧
    (takeCharacter p marked byte s).dpt.present = s.dpt.present ∧
    (takeCharacter p marked byte s).fnu.masks = s.fnu.masks ∧
    (takeCharacter p marked byte s).fnu.cursors = s.fnu.cursors ∧
    (takeCharacter p marked byte s).fnu.resetCause = s.fnu.resetCause ∧
    (takeCharacter p marked byte s).fnu.postedLost = s.fnu.postedLost ∧
    (takeCharacter p marked byte s).fnu.deciding = s.fnu.deciding ∧
    (∀ q, ((takeCharacter p marked byte s).pif.get q).link = (s.pif.get q).link) ∧
    (∀ q, ((takeCharacter p marked byte s).pif.get q).sent = (s.pif.get q).sent) := by
  unfold takeCharacter
  repeat' (first | (simp; done) | split)

@[simp] theorem takeCharacterIf_frame (due : Assembler → Bool) (p : Path) (marked : Bool) (byte : Byte) (s : State) :
    (takeCharacterIf due p marked byte s).adm = s.adm ∧ (takeCharacterIf due p marked byte s).pending = s.pending ∧
    (takeCharacterIf due p marked byte s).owc.epoch = s.owc.epoch ∧
    (takeCharacterIf due p marked byte s).owc.commitCount = s.owc.commitCount ∧
    (takeCharacterIf due p marked byte s).owc.frozenCause = s.owc.frozenCause ∧
    (takeCharacterIf due p marked byte s).owc.policy = s.owc.policy ∧
    (takeCharacterIf due p marked byte s).owc.pendingPolicy = s.owc.pendingPolicy ∧
    (takeCharacterIf due p marked byte s).owc.owedReplies = s.owc.owedReplies ∧
    (takeCharacterIf due p marked byte s).owc.history = s.owc.history ∧
    (takeCharacterIf due p marked byte s).dpt.state = s.dpt.state ∧
    (takeCharacterIf due p marked byte s).dpt.cause = s.dpt.cause ∧
    (takeCharacterIf due p marked byte s).dpt.identity = s.dpt.identity ∧
    (takeCharacterIf due p marked byte s).dpt.referenceMark = s.dpt.referenceMark ∧
    (takeCharacterIf due p marked byte s).dpt.slotCount = s.dpt.slotCount ∧
    (takeCharacterIf due p marked byte s).dpt.identifyFailures = s.dpt.identifyFailures ∧
    (takeCharacterIf due p marked byte s).dpt.resetTimer = s.dpt.resetTimer ∧
    (takeCharacterIf due p marked byte s).dpt.present = s.dpt.present ∧
    (takeCharacterIf due p marked byte s).fnu.masks = s.fnu.masks ∧
    (takeCharacterIf due p marked byte s).fnu.cursors = s.fnu.cursors ∧
    (takeCharacterIf due p marked byte s).fnu.resetCause = s.fnu.resetCause ∧
    (takeCharacterIf due p marked byte s).fnu.postedLost = s.fnu.postedLost ∧
    (takeCharacterIf due p marked byte s).fnu.deciding = s.fnu.deciding ∧
    (∀ q, ((takeCharacterIf due p marked byte s).pif.get q).link = (s.pif.get q).link) ∧
    (∀ q, ((takeCharacterIf due p marked byte s).pif.get q).sent = (s.pif.get q).sent) := by
  unfold takeCharacterIf
  split <;> simp

@[simp] theorem gapExpired_frame (p : Path) (s : State) :
    (gapExpired p s).adm = s.adm ∧ (gapExpired p s).pending = s.pending ∧ (gapExpired p s).owc.epoch = s.owc.epoch ∧
    (gapExpired p s).owc.commitCount = s.owc.commitCount ∧ (gapExpired p s).owc.frozenCause = s.owc.frozenCause ∧
    (gapExpired p s).owc.policy = s.owc.policy ∧ (gapExpired p s).owc.pendingPolicy = s.owc.pendingPolicy ∧
    (gapExpired p s).owc.owedReplies = s.owc.owedReplies ∧ (gapExpired p s).owc.history = s.owc.history ∧
    (gapExpired p s).dpt.state = s.dpt.state ∧ (gapExpired p s).dpt.cause = s.dpt.cause ∧
    (gapExpired p s).dpt.identity = s.dpt.identity ∧ (gapExpired p s).dpt.referenceMark = s.dpt.referenceMark ∧
    (gapExpired p s).dpt.slotCount = s.dpt.slotCount ∧
    (gapExpired p s).dpt.identifyFailures = s.dpt.identifyFailures ∧
    (gapExpired p s).dpt.resetTimer = s.dpt.resetTimer ∧ (gapExpired p s).dpt.present = s.dpt.present ∧
    (gapExpired p s).fnu.masks = s.fnu.masks ∧ (gapExpired p s).fnu.cursors = s.fnu.cursors ∧
    (gapExpired p s).fnu.resetCause = s.fnu.resetCause ∧ (gapExpired p s).fnu.postedLost = s.fnu.postedLost ∧
    (gapExpired p s).fnu.deciding = s.fnu.deciding ∧ (∀ q, ((gapExpired p s).pif.get q).link = (s.pif.get q).link) ∧
    (∀ q, ((gapExpired p s).pif.get q).serverHold = (s.pif.get q).serverHold) ∧
    (∀ q, ((gapExpired p s).pif.get q).sent = (s.pif.get q).sent) := by
  unfold gapExpired
  split <;> simp

@[simp] theorem countDelivered_frame (slot age page : Nat) (s : State) :
    (countDelivered slot age page s).pif = s.pif ∧ (countDelivered slot age page s).hmon = s.hmon ∧
    (countDelivered slot age page s).owc = s.owc ∧ (countDelivered slot age page s).adm = s.adm ∧
    (countDelivered slot age page s).mem = s.mem ∧ (countDelivered slot age page s).dpt = s.dpt ∧
    (countDelivered slot age page s).fnu = s.fnu ∧ (countDelivered slot age page s).pending = s.pending := by
  unfold countDelivered
  repeat' (first | (and_intros <;> rfl) | split)

@[simp] theorem reportTransmitted_frame (tie : Tie) (s : State) :
    (reportTransmitted tie s).pif = s.pif ∧ (reportTransmitted tie s).hmon = s.hmon ∧
    (reportTransmitted tie s).owc = s.owc ∧ (reportTransmitted tie s).adm = s.adm ∧
    (reportTransmitted tie s).mem = s.mem ∧ (reportTransmitted tie s).dpt = s.dpt ∧
    (reportTransmitted tie s).fnu = s.fnu ∧ (reportTransmitted tie s).pending = s.pending := by
  unfold reportTransmitted
  split <;> simp

@[simp] theorem frameSent_frame (p : Path) (s : State) :
    (frameSent p s).hmon = s.hmon ∧ (frameSent p s).adm = s.adm ∧ (frameSent p s).pending = s.pending ∧
    (frameSent p s).owc.owner = s.owc.owner ∧ (frameSent p s).owc.epoch = s.owc.epoch ∧
    (frameSent p s).owc.commitCount = s.owc.commitCount ∧ (frameSent p s).owc.drainStage = s.owc.drainStage ∧
    (frameSent p s).owc.drainCause = s.owc.drainCause ∧ (frameSent p s).owc.frozenCause = s.owc.frozenCause ∧
    (frameSent p s).owc.policy = s.owc.policy ∧ (frameSent p s).owc.pendingPolicy = s.owc.pendingPolicy ∧
    (frameSent p s).owc.owedReplies = s.owc.owedReplies ∧ (frameSent p s).owc.history = s.owc.history ∧
    (frameSent p s).owc.graceTimer = s.owc.graceTimer ∧ (frameSent p s).owc.drainedPath = s.owc.drainedPath ∧
    (frameSent p s).dpt.state = s.dpt.state ∧ (frameSent p s).dpt.cause = s.dpt.cause ∧
    (frameSent p s).dpt.identity = s.dpt.identity ∧ (frameSent p s).dpt.referenceMark = s.dpt.referenceMark ∧
    (frameSent p s).dpt.slotCount = s.dpt.slotCount ∧ (frameSent p s).dpt.identifyFailures = s.dpt.identifyFailures ∧
    (frameSent p s).dpt.resetTimer = s.dpt.resetTimer ∧ (frameSent p s).dpt.present = s.dpt.present ∧
    (frameSent p s).fnu.masks = s.fnu.masks ∧ (frameSent p s).fnu.cursors = s.fnu.cursors ∧
    (frameSent p s).fnu.resetCause = s.fnu.resetCause ∧ (frameSent p s).fnu.postedLost = s.fnu.postedLost ∧
    (frameSent p s).fnu.deciding = s.fnu.deciding ∧ (∀ q, ((frameSent p s).pif.get q).link = (s.pif.get q).link) ∧
    (∀ q, ((frameSent p s).pif.get q).rxq = (s.pif.get q).rxq) ∧
    (∀ q, ((frameSent p s).pif.get q).assembler = (s.pif.get q).assembler) ∧
    (∀ q, ((frameSent p s).pif.get q).gapTimer = (s.pif.get q).gapTimer) ∧
    (∀ q, ((frameSent p s).pif.get q).serverHold = (s.pif.get q).serverHold) := by
  unfold frameSent
  split <;> simp

end Sys2Proof.Machine
end

