-- ==== Sys2Proof/Laws/FramesResets.lean ====
section
/-! SUPPORT. What each operation of Machine/Resets.lean leaves as it is. -/

namespace Sys2Proof.Machine

@[simp] theorem clearAll_frame (cause : ResetCause) (present : Bool) (s : State) :
    (clearAll cause present s).pending = s.pending ∧ (clearAll cause present s).dpt.requests = s.dpt.requests := by
  simp [clearAll]

@[simp] theorem powerUp_frame (cause : ResetCause) (present : Bool) (s : State) :
    (powerUp cause present s).pending = s.pending := by
  unfold powerUp
  split <;> simp

@[simp] theorem clearHeld_frame (p : Path) (s : State) :
    (clearHeld p s).pif = s.pif ∧ (clearHeld p s).owc = s.owc ∧ (clearHeld p s).adm = s.adm ∧
    (clearHeld p s).ift = s.ift ∧ (clearHeld p s).stb = s.stb ∧ (clearHeld p s).mem = s.mem ∧
    (clearHeld p s).dpt = s.dpt ∧ (clearHeld p s).fnu = s.fnu ∧ (clearHeld p s).pending = s.pending := by
  unfold clearHeld
  split <;> simp

@[simp] theorem softResetLinks_frame (s : State) :
    (softResetLinks s).owc = s.owc ∧ (softResetLinks s).adm = s.adm ∧ (softResetLinks s).ift = s.ift ∧
    (softResetLinks s).stb = s.stb ∧ (softResetLinks s).mem = s.mem ∧ (softResetLinks s).dpt = s.dpt ∧
    (softResetLinks s).fnu = s.fnu ∧ (softResetLinks s).pending = s.pending ∧
    (∀ q, ((softResetLinks s).pif.get q).link = (s.pif.get q).link) ∧
    (∀ q, ((softResetLinks s).pif.get q).assembler = (s.pif.get q).assembler) ∧
    (∀ q, ((softResetLinks s).pif.get q).gapTimer = (s.pif.get q).gapTimer) ∧
    (∀ q, ((softResetLinks s).pif.get q).sent = (s.pif.get q).sent) := by
  simp [softResetLinks]

@[simp] theorem cutAll_frame (l : List Entry) (s : State) :
    (cutAll l s).hmon = s.hmon ∧ (cutAll l s).adm = s.adm ∧ (cutAll l s).ift = s.ift ∧ (cutAll l s).stb = s.stb ∧
    (cutAll l s).mem = s.mem ∧ (cutAll l s).dpt = s.dpt ∧ (cutAll l s).pending = s.pending ∧
    (cutAll l s).owc.state = s.owc.state ∧ (cutAll l s).owc.owner = s.owc.owner ∧
    (cutAll l s).owc.epoch = s.owc.epoch ∧ (cutAll l s).owc.commitCount = s.owc.commitCount ∧
    (cutAll l s).owc.drainStage = s.owc.drainStage ∧ (cutAll l s).owc.drainCause = s.owc.drainCause ∧
    (cutAll l s).owc.successor = s.owc.successor ∧ (cutAll l s).owc.purpose = s.owc.purpose ∧
    (cutAll l s).owc.frozenCause = s.owc.frozenCause ∧ (cutAll l s).owc.roles = s.owc.roles ∧
    (cutAll l s).owc.policy = s.owc.policy ∧ (cutAll l s).owc.pendingPolicy = s.owc.pendingPolicy ∧
    (cutAll l s).owc.contents = s.owc.contents ∧ (cutAll l s).owc.attempt = s.owc.attempt ∧
    (cutAll l s).owc.owedReplies = s.owc.owedReplies ∧ (cutAll l s).owc.waitingTransition = s.owc.waitingTransition ∧
    (cutAll l s).owc.history = s.owc.history ∧ (cutAll l s).owc.graceTimer = s.owc.graceTimer ∧
    (cutAll l s).owc.drainTimer = s.owc.drainTimer ∧ (cutAll l s).owc.drainedPath = s.owc.drainedPath ∧
    (cutAll l s).fnu.masks = s.fnu.masks ∧ (cutAll l s).fnu.cursors = s.fnu.cursors ∧
    (cutAll l s).fnu.resetCause = s.fnu.resetCause ∧ (cutAll l s).fnu.postedLost = s.fnu.postedLost ∧
    (cutAll l s).fnu.deciding = s.fnu.deciding ∧ (∀ q, ((cutAll l s).pif.get q).link = (s.pif.get q).link) ∧
    (∀ q, ((cutAll l s).pif.get q).rxq = (s.pif.get q).rxq) ∧
    (∀ q, ((cutAll l s).pif.get q).assembler = (s.pif.get q).assembler) ∧
    (∀ q, ((cutAll l s).pif.get q).gapTimer = (s.pif.get q).gapTimer) ∧
    (∀ q, ((cutAll l s).pif.get q).serverHold = (s.pif.get q).serverHold) ∧
    (∀ q, ((cutAll l s).pif.get q).partHold = (s.pif.get q).partHold) ∧
    (∀ q, ((cutAll l s).pif.get q).sent = (s.pif.get q).sent) := by
  induction l generalizing s with
  | nil => simp [cutAll]
  | cons k rest ih => simp [cutAll, ih]

@[simp] theorem softResetDrive_frame (s : State) :
    (softResetDrive s).adm = s.adm ∧ (softResetDrive s).pending = s.pending ∧
    (softResetDrive s).owc.epoch = s.owc.epoch ∧ (softResetDrive s).owc.commitCount = s.owc.commitCount ∧
    (softResetDrive s).dpt.identity = s.dpt.identity ∧ (softResetDrive s).dpt.referenceMark = s.dpt.referenceMark ∧
    (softResetDrive s).dpt.slotCount = s.dpt.slotCount ∧ (softResetDrive s).dpt.present = s.dpt.present ∧
    (softResetDrive s).fnu.masks = s.fnu.masks ∧ (softResetDrive s).fnu.cursors = s.fnu.cursors ∧
    (softResetDrive s).fnu.resetCause = s.fnu.resetCause ∧ (softResetDrive s).fnu.postedLost = s.fnu.postedLost ∧
    (softResetDrive s).fnu.deciding = s.fnu.deciding ∧
    (∀ q, ((softResetDrive s).pif.get q).link = (s.pif.get q).link) ∧
    (∀ q, ((softResetDrive s).pif.get q).assembler = (s.pif.get q).assembler) ∧
    (∀ q, ((softResetDrive s).pif.get q).gapTimer = (s.pif.get q).gapTimer) ∧
    (∀ q, ((softResetDrive s).pif.get q).serverHold = (s.pif.get q).serverHold) ∧
    (∀ q, ((softResetDrive s).pif.get q).sent = (s.pif.get q).sent) := by
  unfold softResetDrive
  split <;> simp

@[simp] theorem softResetWork_frame (s : State) :
    (softResetWork s).hmon = s.hmon ∧ (softResetWork s).mem = s.mem ∧ (softResetWork s).dpt = s.dpt ∧
    (softResetWork s).pending = s.pending ∧ (softResetWork s).owc.state = s.owc.state ∧
    (softResetWork s).owc.owner = s.owc.owner ∧ (softResetWork s).owc.epoch = s.owc.epoch ∧
    (softResetWork s).owc.commitCount = s.owc.commitCount ∧ (softResetWork s).owc.drainStage = s.owc.drainStage ∧
    (softResetWork s).owc.drainCause = s.owc.drainCause ∧ (softResetWork s).owc.successor = s.owc.successor ∧
    (softResetWork s).owc.purpose = s.owc.purpose ∧ (softResetWork s).owc.frozenCause = s.owc.frozenCause ∧
    (softResetWork s).owc.roles = s.owc.roles ∧ (softResetWork s).owc.policy = s.owc.policy ∧
    (softResetWork s).owc.pendingPolicy = s.owc.pendingPolicy ∧ (softResetWork s).owc.contents = s.owc.contents ∧
    (softResetWork s).owc.attempt = s.owc.attempt ∧ (softResetWork s).owc.owedReplies = s.owc.owedReplies ∧
    (softResetWork s).owc.waitingTransition = s.owc.waitingTransition ∧
    (softResetWork s).owc.history = s.owc.history ∧ (softResetWork s).owc.graceTimer = s.owc.graceTimer ∧
    (softResetWork s).owc.drainTimer = s.owc.drainTimer ∧ (softResetWork s).owc.drainedPath = s.owc.drainedPath ∧
    (softResetWork s).fnu.masks = s.fnu.masks ∧ (softResetWork s).fnu.cursors = s.fnu.cursors ∧
    (softResetWork s).fnu.resetCause = s.fnu.resetCause ∧ (softResetWork s).fnu.postedLost = s.fnu.postedLost ∧
    (softResetWork s).fnu.deciding = s.fnu.deciding ∧
    (∀ q, ((softResetWork s).pif.get q).link = (s.pif.get q).link) ∧
    (∀ q, ((softResetWork s).pif.get q).rxq = (s.pif.get q).rxq) ∧
    (∀ q, ((softResetWork s).pif.get q).assembler = (s.pif.get q).assembler) ∧
    (∀ q, ((softResetWork s).pif.get q).gapTimer = (s.pif.get q).gapTimer) ∧
    (∀ q, ((softResetWork s).pif.get q).serverHold = (s.pif.get q).serverHold) ∧
    (∀ q, ((softResetWork s).pif.get q).partHold = (s.pif.get q).partHold) ∧
    (∀ q, ((softResetWork s).pif.get q).sent = (s.pif.get q).sent) := by
  simp [softResetWork]

@[simp] theorem softReset_frame (s : State) :
    (softReset s).pending = s.pending ∧ (softReset s).owc.epoch = s.owc.epoch ∧
    (softReset s).owc.commitCount = s.owc.commitCount ∧ (softReset s).dpt.identity = s.dpt.identity ∧
    (softReset s).dpt.referenceMark = s.dpt.referenceMark ∧ (softReset s).dpt.slotCount = s.dpt.slotCount ∧
    (softReset s).dpt.present = s.dpt.present ∧ (∀ q, ((softReset s).pif.get q).link = (s.pif.get q).link) ∧
    (∀ q, ((softReset s).pif.get q).assembler = (s.pif.get q).assembler) ∧
    (∀ q, ((softReset s).pif.get q).gapTimer = (s.pif.get q).gapTimer) ∧
    (∀ q, ((softReset s).pif.get q).sent = (s.pif.get q).sent) := by
  unfold softReset
  dsimp only
  split <;> simp

@[simp] theorem healthLost_frame (p : Path) (s : State) :
    (healthLost p s).adm = s.adm ∧ (healthLost p s).pending = s.pending ∧ (healthLost p s).owc.epoch = s.owc.epoch ∧
    (healthLost p s).owc.commitCount = s.owc.commitCount ∧ (healthLost p s).owc.frozenCause = s.owc.frozenCause ∧
    (healthLost p s).owc.policy = s.owc.policy ∧ (healthLost p s).owc.pendingPolicy = s.owc.pendingPolicy ∧
    (healthLost p s).owc.owedReplies = s.owc.owedReplies ∧ (healthLost p s).owc.history = s.owc.history ∧
    (healthLost p s).dpt.state = s.dpt.state ∧ (healthLost p s).dpt.cause = s.dpt.cause ∧
    (healthLost p s).dpt.identity = s.dpt.identity ∧ (healthLost p s).dpt.referenceMark = s.dpt.referenceMark ∧
    (healthLost p s).dpt.slotCount = s.dpt.slotCount ∧
    (healthLost p s).dpt.identifyFailures = s.dpt.identifyFailures ∧
    (healthLost p s).dpt.resetTimer = s.dpt.resetTimer ∧ (healthLost p s).dpt.present = s.dpt.present ∧
    (healthLost p s).fnu.masks = s.fnu.masks ∧ (healthLost p s).fnu.cursors = s.fnu.cursors ∧
    (healthLost p s).fnu.resetCause = s.fnu.resetCause ∧ (healthLost p s).fnu.postedLost = s.fnu.postedLost ∧
    (healthLost p s).fnu.deciding = s.fnu.deciding ∧ (∀ q, ((healthLost p s).pif.get q).link = (s.pif.get q).link) ∧
    (∀ q, ((healthLost p s).pif.get q).assembler = (s.pif.get q).assembler) ∧
    (∀ q, ((healthLost p s).pif.get q).gapTimer = (s.pif.get q).gapTimer) ∧
    (∀ q, ((healthLost p s).pif.get q).serverHold = (s.pif.get q).serverHold) ∧
    (∀ q, ((healthLost p s).pif.get q).sent = (s.pif.get q).sent) := by
  unfold healthLost
  dsimp only
  split <;> simp

@[simp] theorem cutEntry_frame (slot : Nat) (s : State) :
    (cutEntry slot s).pif = s.pif ∧ (cutEntry slot s).hmon = s.hmon ∧ (cutEntry slot s).owc = s.owc ∧
    (cutEntry slot s).adm = s.adm ∧ (cutEntry slot s).mem = s.mem ∧ (cutEntry slot s).dpt = s.dpt ∧
    (cutEntry slot s).fnu = s.fnu ∧ (cutEntry slot s).pending = s.pending := by
  unfold cutEntry
  repeat' (first | (simp; done) | split)

@[simp] theorem cutEntries_frame (p : Path) (s : State) :
    (cutEntries p s).pif = s.pif ∧ (cutEntries p s).hmon = s.hmon ∧ (cutEntries p s).owc = s.owc ∧
    (cutEntries p s).adm = s.adm ∧ (cutEntries p s).mem = s.mem ∧ (cutEntries p s).dpt = s.dpt ∧
    (cutEntries p s).fnu = s.fnu ∧ (cutEntries p s).pending = s.pending := by
  simp [cutEntries]

@[simp] theorem carrierLost_frame (p : Path) (s : State) :
    (carrierLost p s).adm = s.adm ∧ (carrierLost p s).pending = s.pending ∧
    (carrierLost p s).owc.epoch = s.owc.epoch ∧ (carrierLost p s).owc.commitCount = s.owc.commitCount ∧
    (carrierLost p s).owc.frozenCause = s.owc.frozenCause ∧ (carrierLost p s).owc.policy = s.owc.policy ∧
    (carrierLost p s).owc.pendingPolicy = s.owc.pendingPolicy ∧
    (carrierLost p s).owc.owedReplies = s.owc.owedReplies ∧ (carrierLost p s).owc.history = s.owc.history ∧
    (carrierLost p s).dpt.state = s.dpt.state ∧ (carrierLost p s).dpt.cause = s.dpt.cause ∧
    (carrierLost p s).dpt.identity = s.dpt.identity ∧ (carrierLost p s).dpt.referenceMark = s.dpt.referenceMark ∧
    (carrierLost p s).dpt.slotCount = s.dpt.slotCount ∧
    (carrierLost p s).dpt.identifyFailures = s.dpt.identifyFailures ∧
    (carrierLost p s).dpt.resetTimer = s.dpt.resetTimer ∧ (carrierLost p s).dpt.present = s.dpt.present ∧
    (carrierLost p s).fnu.masks = s.fnu.masks ∧ (carrierLost p s).fnu.cursors = s.fnu.cursors ∧
    (carrierLost p s).fnu.resetCause = s.fnu.resetCause ∧ (carrierLost p s).fnu.postedLost = s.fnu.postedLost ∧
    (carrierLost p s).fnu.deciding = s.fnu.deciding ∧
    (∀ q, ((carrierLost p s).pif.get q).sent = (s.pif.get q).sent) := by
  unfold carrierLost
  split <;> simp

@[simp] theorem carrierBack_frame (p : Path) (s : State) :
    (carrierBack p s).adm = s.adm ∧ (carrierBack p s).pending = s.pending ∧
    (carrierBack p s).owc.epoch = s.owc.epoch ∧ (carrierBack p s).owc.commitCount = s.owc.commitCount ∧
    (carrierBack p s).owc.frozenCause = s.owc.frozenCause ∧ (carrierBack p s).owc.policy = s.owc.policy ∧
    (carrierBack p s).owc.pendingPolicy = s.owc.pendingPolicy ∧
    (carrierBack p s).owc.owedReplies = s.owc.owedReplies ∧ (carrierBack p s).owc.history = s.owc.history ∧
    (carrierBack p s).dpt.state = s.dpt.state ∧ (carrierBack p s).dpt.cause = s.dpt.cause ∧
    (carrierBack p s).dpt.identity = s.dpt.identity ∧ (carrierBack p s).dpt.referenceMark = s.dpt.referenceMark ∧
    (carrierBack p s).dpt.slotCount = s.dpt.slotCount ∧
    (carrierBack p s).dpt.identifyFailures = s.dpt.identifyFailures ∧
    (carrierBack p s).dpt.resetTimer = s.dpt.resetTimer ∧ (carrierBack p s).dpt.present = s.dpt.present ∧
    (carrierBack p s).fnu.masks = s.fnu.masks ∧ (carrierBack p s).fnu.cursors = s.fnu.cursors ∧
    (carrierBack p s).fnu.resetCause = s.fnu.resetCause ∧ (carrierBack p s).fnu.postedLost = s.fnu.postedLost ∧
    (carrierBack p s).fnu.deciding = s.fnu.deciding ∧
    (∀ q, ((carrierBack p s).pif.get q).sent = (s.pif.get q).sent) := by
  unfold carrierBack
  split <;> simp

end Sys2Proof.Machine
end

