-- ==== Sys2Proof/Laws/FramesAdmission.lean ====
section
/-! SUPPORT. What each operation of Machine/Admission.lean leaves as it is. -/

namespace Sys2Proof.Machine

@[simp] theorem removeHead_frame (p : Path) (s : State) :
    (removeHead p s).hmon = s.hmon ∧ (removeHead p s).owc = s.owc ∧ (removeHead p s).ift = s.ift ∧
    (removeHead p s).stb = s.stb ∧ (removeHead p s).mem = s.mem ∧ (removeHead p s).dpt = s.dpt ∧
    (removeHead p s).fnu = s.fnu ∧ (removeHead p s).pending = s.pending ∧
    (∀ q, ((removeHead p s).pif.get q).link = (s.pif.get q).link) ∧
    (∀ q, ((removeHead p s).pif.get q).assembler = (s.pif.get q).assembler) ∧
    (∀ q, ((removeHead p s).pif.get q).gapTimer = (s.pif.get q).gapTimer) ∧
    (∀ q, ((removeHead p s).pif.get q).serverHold = (s.pif.get q).serverHold) ∧
    (∀ q, ((removeHead p s).pif.get q).partHold = (s.pif.get q).partHold) ∧
    (∀ q, ((removeHead p s).pif.get q).sent = (s.pif.get q).sent) := by
  simp [removeHead]

@[simp] theorem admAnswer_frame (p : Path) (tag : Word) (status : Status) (s : State) :
    (admAnswer p tag status s).hmon = s.hmon ∧ (admAnswer p tag status s).owc = s.owc ∧
    (admAnswer p tag status s).adm = s.adm ∧ (admAnswer p tag status s).ift = s.ift ∧
    (admAnswer p tag status s).stb = s.stb ∧ (admAnswer p tag status s).mem = s.mem ∧
    (admAnswer p tag status s).dpt = s.dpt ∧ (admAnswer p tag status s).fnu = s.fnu ∧
    (admAnswer p tag status s).pending = s.pending ∧
    (∀ q, ((admAnswer p tag status s).pif.get q).link = (s.pif.get q).link) ∧
    (∀ q, ((admAnswer p tag status s).pif.get q).rxq = (s.pif.get q).rxq) ∧
    (∀ q, ((admAnswer p tag status s).pif.get q).assembler = (s.pif.get q).assembler) ∧
    (∀ q, ((admAnswer p tag status s).pif.get q).gapTimer = (s.pif.get q).gapTimer) ∧
    (∀ q, ((admAnswer p tag status s).pif.get q).serverHold = (s.pif.get q).serverHold) ∧
    (∀ q, ((admAnswer p tag status s).pif.get q).partHold = (s.pif.get q).partHold) ∧
    (∀ q, ((admAnswer p tag status s).pif.get q).sent = (s.pif.get q).sent) := by
  simp [admAnswer]

@[simp] theorem acceptCommand_frame (p : Path) (c : CommandFields) (op : Op) (slot : Nat) (s : State) :
    (acceptCommand p c op slot s).hmon = s.hmon ∧ (acceptCommand p c op slot s).pending = s.pending ∧
    (acceptCommand p c op slot s).owc.owner = s.owc.owner ∧ (acceptCommand p c op slot s).owc.epoch = s.owc.epoch ∧
    (acceptCommand p c op slot s).owc.commitCount = s.owc.commitCount ∧
    (acceptCommand p c op slot s).owc.drainStage = s.owc.drainStage ∧
    (acceptCommand p c op slot s).owc.drainCause = s.owc.drainCause ∧
    (acceptCommand p c op slot s).owc.frozenCause = s.owc.frozenCause ∧
    (acceptCommand p c op slot s).owc.policy = s.owc.policy ∧
    (acceptCommand p c op slot s).owc.pendingPolicy = s.owc.pendingPolicy ∧
    (acceptCommand p c op slot s).owc.owedReplies = s.owc.owedReplies ∧
    (acceptCommand p c op slot s).owc.history = s.owc.history ∧
    (acceptCommand p c op slot s).owc.graceTimer = s.owc.graceTimer ∧
    (acceptCommand p c op slot s).owc.drainedPath = s.owc.drainedPath ∧
    (acceptCommand p c op slot s).dpt.state = s.dpt.state ∧ (acceptCommand p c op slot s).dpt.cause = s.dpt.cause ∧
    (acceptCommand p c op slot s).dpt.identity = s.dpt.identity ∧
    (acceptCommand p c op slot s).dpt.referenceMark = s.dpt.referenceMark ∧
    (acceptCommand p c op slot s).dpt.slotCount = s.dpt.slotCount ∧
    (acceptCommand p c op slot s).dpt.identifyFailures = s.dpt.identifyFailures ∧
    (acceptCommand p c op slot s).dpt.resetTimer = s.dpt.resetTimer ∧
    (acceptCommand p c op slot s).dpt.present = s.dpt.present ∧
    (acceptCommand p c op slot s).fnu.masks = s.fnu.masks ∧
    (acceptCommand p c op slot s).fnu.cursors = s.fnu.cursors ∧
    (acceptCommand p c op slot s).fnu.resetCause = s.fnu.resetCause ∧
    (acceptCommand p c op slot s).fnu.postedLost = s.fnu.postedLost ∧
    (acceptCommand p c op slot s).fnu.deciding = s.fnu.deciding ∧
    (∀ q, ((acceptCommand p c op slot s).pif.get q).link = (s.pif.get q).link) ∧
    (∀ q, ((acceptCommand p c op slot s).pif.get q).rxq = (s.pif.get q).rxq) ∧
    (∀ q, ((acceptCommand p c op slot s).pif.get q).assembler = (s.pif.get q).assembler) ∧
    (∀ q, ((acceptCommand p c op slot s).pif.get q).gapTimer = (s.pif.get q).gapTimer) ∧
    (∀ q, ((acceptCommand p c op slot s).pif.get q).serverHold = (s.pif.get q).serverHold) ∧
    (∀ q, ((acceptCommand p c op slot s).pif.get q).sent = (s.pif.get q).sent) := by
  unfold acceptCommand
  dsimp only
  split <;> simp

@[simp] theorem decideCommand_frame (p : Path) (c : CommandFields) (s : State) :
    (decideCommand p c s).hmon = s.hmon ∧ (decideCommand p c s).pending = s.pending ∧
    (decideCommand p c s).owc.owner = s.owc.owner ∧ (decideCommand p c s).owc.epoch = s.owc.epoch ∧
    (decideCommand p c s).owc.commitCount = s.owc.commitCount ∧
    (decideCommand p c s).owc.drainStage = s.owc.drainStage ∧
    (decideCommand p c s).owc.drainCause = s.owc.drainCause ∧
    (decideCommand p c s).owc.frozenCause = s.owc.frozenCause ∧ (decideCommand p c s).owc.policy = s.owc.policy ∧
    (decideCommand p c s).owc.pendingPolicy = s.owc.pendingPolicy ∧
    (decideCommand p c s).owc.owedReplies = s.owc.owedReplies ∧ (decideCommand p c s).owc.history = s.owc.history ∧
    (decideCommand p c s).owc.graceTimer = s.owc.graceTimer ∧
    (decideCommand p c s).owc.drainedPath = s.owc.drainedPath ∧ (decideCommand p c s).dpt.state = s.dpt.state ∧
    (decideCommand p c s).dpt.cause = s.dpt.cause ∧ (decideCommand p c s).dpt.identity = s.dpt.identity ∧
    (decideCommand p c s).dpt.referenceMark = s.dpt.referenceMark ∧
    (decideCommand p c s).dpt.slotCount = s.dpt.slotCount ∧
    (decideCommand p c s).dpt.identifyFailures = s.dpt.identifyFailures ∧
    (decideCommand p c s).dpt.resetTimer = s.dpt.resetTimer ∧ (decideCommand p c s).dpt.present = s.dpt.present ∧
    (decideCommand p c s).fnu.masks = s.fnu.masks ∧ (decideCommand p c s).fnu.cursors = s.fnu.cursors ∧
    (decideCommand p c s).fnu.resetCause = s.fnu.resetCause ∧
    (decideCommand p c s).fnu.postedLost = s.fnu.postedLost ∧ (decideCommand p c s).fnu.deciding = s.fnu.deciding ∧
    (∀ q, ((decideCommand p c s).pif.get q).link = (s.pif.get q).link) ∧
    (∀ q, ((decideCommand p c s).pif.get q).rxq = (s.pif.get q).rxq) ∧
    (∀ q, ((decideCommand p c s).pif.get q).assembler = (s.pif.get q).assembler) ∧
    (∀ q, ((decideCommand p c s).pif.get q).gapTimer = (s.pif.get q).gapTimer) ∧
    (∀ q, ((decideCommand p c s).pif.get q).serverHold = (s.pif.get q).serverHold) ∧
    (∀ q, ((decideCommand p c s).pif.get q).sent = (s.pif.get q).sent) := by
  unfold decideCommand
  repeat' (first | (simp; done) | split)

end Sys2Proof.Machine
end

