-- ==== Sys2Proof/Laws/FramesRequests.lean ====
section
/-! SUPPORT. What each operation of Machine/Requests.lean leaves as it is. -/

namespace Sys2Proof.Machine

@[simp] theorem acceptClaim_frame (p : Path) (tag : Word) (s : State) :
    (acceptClaim p tag s).pif = s.pif ∧ (acceptClaim p tag s).hmon = s.hmon ∧ (acceptClaim p tag s).adm = s.adm ∧
    (acceptClaim p tag s).ift = s.ift ∧ (acceptClaim p tag s).stb = s.stb ∧ (acceptClaim p tag s).fnu = s.fnu ∧
    (acceptClaim p tag s).pending = s.pending ∧ (acceptClaim p tag s).owc.epoch = s.owc.epoch ∧
    (acceptClaim p tag s).owc.commitCount = s.owc.commitCount ∧
    (acceptClaim p tag s).owc.drainStage = s.owc.drainStage ∧
    (acceptClaim p tag s).owc.drainCause = s.owc.drainCause ∧ (acceptClaim p tag s).owc.policy = s.owc.policy ∧
    (acceptClaim p tag s).owc.pendingPolicy = s.owc.pendingPolicy ∧
    (acceptClaim p tag s).owc.history = s.owc.history ∧ (acceptClaim p tag s).owc.orphans = s.owc.orphans ∧
    (acceptClaim p tag s).owc.dropped = s.owc.dropped ∧ (acceptClaim p tag s).owc.graceTimer = s.owc.graceTimer ∧
    (acceptClaim p tag s).owc.drainTimer = s.owc.drainTimer ∧
    (acceptClaim p tag s).owc.drainedPath = s.owc.drainedPath ∧
    (acceptClaim p tag s).owc.orphansAdded = s.owc.orphansAdded ∧ (acceptClaim p tag s).dpt.state = s.dpt.state ∧
    (acceptClaim p tag s).dpt.cause = s.dpt.cause ∧ (acceptClaim p tag s).dpt.identity = s.dpt.identity ∧
    (acceptClaim p tag s).dpt.referenceMark = s.dpt.referenceMark ∧
    (acceptClaim p tag s).dpt.slotCount = s.dpt.slotCount ∧
    (acceptClaim p tag s).dpt.identifyFailures = s.dpt.identifyFailures ∧
    (acceptClaim p tag s).dpt.resetTimer = s.dpt.resetTimer ∧ (acceptClaim p tag s).dpt.present = s.dpt.present := by
  simp [acceptClaim, refreshRoles, oweReply]

@[simp] theorem acceptOverride_frame (p : Path) (tag epoch : Word) (s : State) :
    (acceptOverride p tag epoch s).pif = s.pif ∧ (acceptOverride p tag epoch s).hmon = s.hmon ∧
    (acceptOverride p tag epoch s).adm = s.adm ∧ (acceptOverride p tag epoch s).ift = s.ift ∧
    (acceptOverride p tag epoch s).stb = s.stb ∧ (acceptOverride p tag epoch s).fnu = s.fnu ∧
    (acceptOverride p tag epoch s).pending = s.pending ∧ (acceptOverride p tag epoch s).owc.epoch = s.owc.epoch ∧
    (acceptOverride p tag epoch s).owc.commitCount = s.owc.commitCount ∧
    (acceptOverride p tag epoch s).owc.drainStage = s.owc.drainStage ∧
    (acceptOverride p tag epoch s).owc.drainCause = s.owc.drainCause ∧
    (acceptOverride p tag epoch s).owc.policy = s.owc.policy ∧
    (acceptOverride p tag epoch s).owc.pendingPolicy = s.owc.pendingPolicy ∧
    (acceptOverride p tag epoch s).owc.history = s.owc.history ∧
    (acceptOverride p tag epoch s).owc.orphans = s.owc.orphans ∧
    (acceptOverride p tag epoch s).owc.dropped = s.owc.dropped ∧
    (acceptOverride p tag epoch s).owc.graceTimer = s.owc.graceTimer ∧
    (acceptOverride p tag epoch s).owc.drainTimer = s.owc.drainTimer ∧
    (acceptOverride p tag epoch s).owc.drainedPath = s.owc.drainedPath ∧
    (acceptOverride p tag epoch s).owc.orphansAdded = s.owc.orphansAdded ∧
    (acceptOverride p tag epoch s).dpt.state = s.dpt.state ∧ (acceptOverride p tag epoch s).dpt.cause = s.dpt.cause ∧
    (acceptOverride p tag epoch s).dpt.identity = s.dpt.identity ∧
    (acceptOverride p tag epoch s).dpt.referenceMark = s.dpt.referenceMark ∧
    (acceptOverride p tag epoch s).dpt.slotCount = s.dpt.slotCount ∧
    (acceptOverride p tag epoch s).dpt.identifyFailures = s.dpt.identifyFailures ∧
    (acceptOverride p tag epoch s).dpt.resetTimer = s.dpt.resetTimer ∧
    (acceptOverride p tag epoch s).dpt.present = s.dpt.present := by
  simp [acceptOverride, refreshRoles, oweReply]

@[simp] theorem acceptForced_frame (p : Path) (tag : Word) (owner : Path) (s : State) :
    (acceptForced p tag owner s).hmon = s.hmon ∧ (acceptForced p tag owner s).adm = s.adm ∧
    (acceptForced p tag owner s).pending = s.pending ∧ (acceptForced p tag owner s).owc.epoch = s.owc.epoch ∧
    (acceptForced p tag owner s).owc.commitCount = s.owc.commitCount ∧
    (acceptForced p tag owner s).owc.frozenCause = s.owc.frozenCause ∧
    (acceptForced p tag owner s).owc.policy = s.owc.policy ∧
    (acceptForced p tag owner s).owc.pendingPolicy = s.owc.pendingPolicy ∧
    (acceptForced p tag owner s).owc.history = s.owc.history ∧ (acceptForced p tag owner s).dpt.state = s.dpt.state ∧
    (acceptForced p tag owner s).dpt.cause = s.dpt.cause ∧
    (acceptForced p tag owner s).dpt.identity = s.dpt.identity ∧
    (acceptForced p tag owner s).dpt.referenceMark = s.dpt.referenceMark ∧
    (acceptForced p tag owner s).dpt.slotCount = s.dpt.slotCount ∧
    (acceptForced p tag owner s).dpt.identifyFailures = s.dpt.identifyFailures ∧
    (acceptForced p tag owner s).dpt.resetTimer = s.dpt.resetTimer ∧
    (acceptForced p tag owner s).dpt.present = s.dpt.present ∧ (acceptForced p tag owner s).fnu.masks = s.fnu.masks ∧
    (acceptForced p tag owner s).fnu.cursors = s.fnu.cursors ∧
    (acceptForced p tag owner s).fnu.resetCause = s.fnu.resetCause ∧
    (acceptForced p tag owner s).fnu.postedLost = s.fnu.postedLost ∧
    (acceptForced p tag owner s).fnu.deciding = s.fnu.deciding ∧
    (∀ q, ((acceptForced p tag owner s).pif.get q).link = (s.pif.get q).link) ∧
    (∀ q, ((acceptForced p tag owner s).pif.get q).assembler = (s.pif.get q).assembler) ∧
    (∀ q, ((acceptForced p tag owner s).pif.get q).gapTimer = (s.pif.get q).gapTimer) ∧
    (∀ q, ((acceptForced p tag owner s).pif.get q).serverHold = (s.pif.get q).serverHold) ∧
    (∀ q, ((acceptForced p tag owner s).pif.get q).sent = (s.pif.get q).sent) := by
  simp [acceptForced, oweReply]

@[simp] theorem decideClaim_frame (p : Path) (c : ClaimFields) (s : State) :
    (decideClaim p c s).hmon = s.hmon ∧ (decideClaim p c s).adm = s.adm ∧ (decideClaim p c s).pending = s.pending ∧
    (decideClaim p c s).owc.epoch = s.owc.epoch ∧ (decideClaim p c s).owc.commitCount = s.owc.commitCount ∧
    (decideClaim p c s).owc.policy = s.owc.policy ∧ (decideClaim p c s).owc.pendingPolicy = s.owc.pendingPolicy ∧
    (decideClaim p c s).owc.history = s.owc.history ∧ (decideClaim p c s).dpt.state = s.dpt.state ∧
    (decideClaim p c s).dpt.cause = s.dpt.cause ∧ (decideClaim p c s).dpt.identity = s.dpt.identity ∧
    (decideClaim p c s).dpt.referenceMark = s.dpt.referenceMark ∧
    (decideClaim p c s).dpt.slotCount = s.dpt.slotCount ∧
    (decideClaim p c s).dpt.identifyFailures = s.dpt.identifyFailures ∧
    (decideClaim p c s).dpt.resetTimer = s.dpt.resetTimer ∧ (decideClaim p c s).dpt.present = s.dpt.present ∧
    (decideClaim p c s).fnu.masks = s.fnu.masks ∧ (decideClaim p c s).fnu.cursors = s.fnu.cursors ∧
    (decideClaim p c s).fnu.resetCause = s.fnu.resetCause ∧ (decideClaim p c s).fnu.postedLost = s.fnu.postedLost ∧
    (decideClaim p c s).fnu.deciding = s.fnu.deciding ∧
    (∀ q, ((decideClaim p c s).pif.get q).link = (s.pif.get q).link) ∧
    (∀ q, ((decideClaim p c s).pif.get q).assembler = (s.pif.get q).assembler) ∧
    (∀ q, ((decideClaim p c s).pif.get q).gapTimer = (s.pif.get q).gapTimer) ∧
    (∀ q, ((decideClaim p c s).pif.get q).serverHold = (s.pif.get q).serverHold) ∧
    (∀ q, ((decideClaim p c s).pif.get q).sent = (s.pif.get q).sent) := by
  unfold decideClaim
  split <;> simp

@[simp] theorem acceptRelease_frame (p : Path) (tag : Word) (flags : Byte) (s : State) :
    (acceptRelease p tag flags s).hmon = s.hmon ∧ (acceptRelease p tag flags s).adm = s.adm ∧
    (acceptRelease p tag flags s).pending = s.pending ∧ (acceptRelease p tag flags s).owc.epoch = s.owc.epoch ∧
    (acceptRelease p tag flags s).owc.commitCount = s.owc.commitCount ∧
    (acceptRelease p tag flags s).owc.frozenCause = s.owc.frozenCause ∧
    (acceptRelease p tag flags s).owc.policy = s.owc.policy ∧
    (acceptRelease p tag flags s).owc.pendingPolicy = s.owc.pendingPolicy ∧
    (acceptRelease p tag flags s).owc.history = s.owc.history ∧
    (acceptRelease p tag flags s).dpt.state = s.dpt.state ∧ (acceptRelease p tag flags s).dpt.cause = s.dpt.cause ∧
    (acceptRelease p tag flags s).dpt.identity = s.dpt.identity ∧
    (acceptRelease p tag flags s).dpt.referenceMark = s.dpt.referenceMark ∧
    (acceptRelease p tag flags s).dpt.slotCount = s.dpt.slotCount ∧
    (acceptRelease p tag flags s).dpt.identifyFailures = s.dpt.identifyFailures ∧
    (acceptRelease p tag flags s).dpt.resetTimer = s.dpt.resetTimer ∧
    (acceptRelease p tag flags s).dpt.present = s.dpt.present ∧
    (acceptRelease p tag flags s).fnu.masks = s.fnu.masks ∧
    (acceptRelease p tag flags s).fnu.cursors = s.fnu.cursors ∧
    (acceptRelease p tag flags s).fnu.resetCause = s.fnu.resetCause ∧
    (acceptRelease p tag flags s).fnu.postedLost = s.fnu.postedLost ∧
    (acceptRelease p tag flags s).fnu.deciding = s.fnu.deciding ∧
    (∀ q, ((acceptRelease p tag flags s).pif.get q).link = (s.pif.get q).link) ∧
    (∀ q, ((acceptRelease p tag flags s).pif.get q).rxq = (s.pif.get q).rxq) ∧
    (∀ q, ((acceptRelease p tag flags s).pif.get q).assembler = (s.pif.get q).assembler) ∧
    (∀ q, ((acceptRelease p tag flags s).pif.get q).gapTimer = (s.pif.get q).gapTimer) ∧
    (∀ q, ((acceptRelease p tag flags s).pif.get q).serverHold = (s.pif.get q).serverHold) ∧
    (∀ q, ((acceptRelease p tag flags s).pif.get q).sent = (s.pif.get q).sent) := by
  simp only [acceptRelease]
  split <;> simp [oweReply]

@[simp] theorem decideRelease_frame (p : Path) (tag epoch : Word) (flags : Byte) (s : State) :
    (decideRelease p tag epoch flags s).hmon = s.hmon ∧ (decideRelease p tag epoch flags s).adm = s.adm ∧
    (decideRelease p tag epoch flags s).pending = s.pending ∧
    (decideRelease p tag epoch flags s).owc.epoch = s.owc.epoch ∧
    (decideRelease p tag epoch flags s).owc.commitCount = s.owc.commitCount ∧
    (decideRelease p tag epoch flags s).owc.frozenCause = s.owc.frozenCause ∧
    (decideRelease p tag epoch flags s).owc.policy = s.owc.policy ∧
    (decideRelease p tag epoch flags s).owc.pendingPolicy = s.owc.pendingPolicy ∧
    (decideRelease p tag epoch flags s).owc.history = s.owc.history ∧
    (decideRelease p tag epoch flags s).dpt.state = s.dpt.state ∧
    (decideRelease p tag epoch flags s).dpt.cause = s.dpt.cause ∧
    (decideRelease p tag epoch flags s).dpt.identity = s.dpt.identity ∧
    (decideRelease p tag epoch flags s).dpt.referenceMark = s.dpt.referenceMark ∧
    (decideRelease p tag epoch flags s).dpt.slotCount = s.dpt.slotCount ∧
    (decideRelease p tag epoch flags s).dpt.identifyFailures = s.dpt.identifyFailures ∧
    (decideRelease p tag epoch flags s).dpt.resetTimer = s.dpt.resetTimer ∧
    (decideRelease p tag epoch flags s).dpt.present = s.dpt.present ∧
    (decideRelease p tag epoch flags s).fnu.masks = s.fnu.masks ∧
    (decideRelease p tag epoch flags s).fnu.cursors = s.fnu.cursors ∧
    (decideRelease p tag epoch flags s).fnu.resetCause = s.fnu.resetCause ∧
    (decideRelease p tag epoch flags s).fnu.postedLost = s.fnu.postedLost ∧
    (decideRelease p tag epoch flags s).fnu.deciding = s.fnu.deciding ∧
    (∀ q, ((decideRelease p tag epoch flags s).pif.get q).link = (s.pif.get q).link) ∧
    (∀ q, ((decideRelease p tag epoch flags s).pif.get q).rxq = (s.pif.get q).rxq) ∧
    (∀ q, ((decideRelease p tag epoch flags s).pif.get q).assembler = (s.pif.get q).assembler) ∧
    (∀ q, ((decideRelease p tag epoch flags s).pif.get q).gapTimer = (s.pif.get q).gapTimer) ∧
    (∀ q, ((decideRelease p tag epoch flags s).pif.get q).serverHold = (s.pif.get q).serverHold) ∧
    (∀ q, ((decideRelease p tag epoch flags s).pif.get q).sent = (s.pif.get q).sent) := by
  unfold decideRelease
  split <;> simp

@[simp] theorem readmit_frame (p : Path) (s : State) :
    (readmit p s).pif = s.pif ∧ (readmit p s).hmon = s.hmon ∧ (readmit p s).adm = s.adm ∧ (readmit p s).ift = s.ift ∧
    (readmit p s).stb = s.stb ∧ (readmit p s).mem = s.mem ∧ (readmit p s).dpt = s.dpt ∧ (readmit p s).fnu = s.fnu ∧
    (readmit p s).pending = s.pending ∧ (readmit p s).owc.state = s.owc.state ∧
    (readmit p s).owc.owner = s.owc.owner ∧ (readmit p s).owc.epoch = s.owc.epoch ∧
    (readmit p s).owc.commitCount = s.owc.commitCount ∧ (readmit p s).owc.drainStage = s.owc.drainStage ∧
    (readmit p s).owc.drainCause = s.owc.drainCause ∧ (readmit p s).owc.successor = s.owc.successor ∧
    (readmit p s).owc.purpose = s.owc.purpose ∧ (readmit p s).owc.frozenCause = s.owc.frozenCause ∧
    (readmit p s).owc.policy = s.owc.policy ∧ (readmit p s).owc.pendingPolicy = s.owc.pendingPolicy ∧
    (readmit p s).owc.contents = s.owc.contents ∧ (readmit p s).owc.attempt = s.owc.attempt ∧
    (readmit p s).owc.owedReplies = s.owc.owedReplies ∧
    (readmit p s).owc.waitingTransition = s.owc.waitingTransition ∧ (readmit p s).owc.history = s.owc.history ∧
    (readmit p s).owc.orphans = s.owc.orphans ∧ (readmit p s).owc.dropped = s.owc.dropped ∧
    (readmit p s).owc.graceTimer = s.owc.graceTimer ∧ (readmit p s).owc.drainTimer = s.owc.drainTimer ∧
    (readmit p s).owc.drainedPath = s.owc.drainedPath ∧ (readmit p s).owc.orphansAdded = s.owc.orphansAdded := by
  unfold readmit
  repeat' (first | (and_intros <;> rfl) | split)

@[simp] theorem decideRejoin_frame (p : Path) (tag epoch : Word) (s : State) :
    (decideRejoin p tag epoch s).hmon = s.hmon ∧ (decideRejoin p tag epoch s).adm = s.adm ∧
    (decideRejoin p tag epoch s).ift = s.ift ∧ (decideRejoin p tag epoch s).stb = s.stb ∧
    (decideRejoin p tag epoch s).mem = s.mem ∧ (decideRejoin p tag epoch s).dpt = s.dpt ∧
    (decideRejoin p tag epoch s).fnu = s.fnu ∧ (decideRejoin p tag epoch s).pending = s.pending ∧
    (decideRejoin p tag epoch s).owc.state = s.owc.state ∧ (decideRejoin p tag epoch s).owc.owner = s.owc.owner ∧
    (decideRejoin p tag epoch s).owc.epoch = s.owc.epoch ∧
    (decideRejoin p tag epoch s).owc.commitCount = s.owc.commitCount ∧
    (decideRejoin p tag epoch s).owc.drainStage = s.owc.drainStage ∧
    (decideRejoin p tag epoch s).owc.drainCause = s.owc.drainCause ∧
    (decideRejoin p tag epoch s).owc.successor = s.owc.successor ∧
    (decideRejoin p tag epoch s).owc.purpose = s.owc.purpose ∧
    (decideRejoin p tag epoch s).owc.frozenCause = s.owc.frozenCause ∧
    (decideRejoin p tag epoch s).owc.policy = s.owc.policy ∧
    (decideRejoin p tag epoch s).owc.pendingPolicy = s.owc.pendingPolicy ∧
    (decideRejoin p tag epoch s).owc.contents = s.owc.contents ∧
    (decideRejoin p tag epoch s).owc.attempt = s.owc.attempt ∧
    (decideRejoin p tag epoch s).owc.owedReplies = s.owc.owedReplies ∧
    (decideRejoin p tag epoch s).owc.waitingTransition = s.owc.waitingTransition ∧
    (decideRejoin p tag epoch s).owc.history = s.owc.history ∧
    (decideRejoin p tag epoch s).owc.orphans = s.owc.orphans ∧
    (decideRejoin p tag epoch s).owc.dropped = s.owc.dropped ∧
    (decideRejoin p tag epoch s).owc.graceTimer = s.owc.graceTimer ∧
    (decideRejoin p tag epoch s).owc.drainTimer = s.owc.drainTimer ∧
    (decideRejoin p tag epoch s).owc.drainedPath = s.owc.drainedPath ∧
    (decideRejoin p tag epoch s).owc.orphansAdded = s.owc.orphansAdded ∧
    (∀ q, ((decideRejoin p tag epoch s).pif.get q).link = (s.pif.get q).link) ∧
    (∀ q, ((decideRejoin p tag epoch s).pif.get q).rxq = (s.pif.get q).rxq) ∧
    (∀ q, ((decideRejoin p tag epoch s).pif.get q).assembler = (s.pif.get q).assembler) ∧
    (∀ q, ((decideRejoin p tag epoch s).pif.get q).gapTimer = (s.pif.get q).gapTimer) ∧
    (∀ q, ((decideRejoin p tag epoch s).pif.get q).serverHold = (s.pif.get q).serverHold) ∧
    (∀ q, ((decideRejoin p tag epoch s).pif.get q).partHold = (s.pif.get q).partHold) ∧
    (∀ q, ((decideRejoin p tag epoch s).pif.get q).sent = (s.pif.get q).sent) := by
  unfold decideRejoin
  split <;> simp

@[simp] theorem acceptPolicyRequest_frame (p : Path) (tag : Word) (r : PolicyRecord) (s : State) :
    (acceptPolicyRequest p tag r s).pif = s.pif ∧ (acceptPolicyRequest p tag r s).hmon = s.hmon ∧
    (acceptPolicyRequest p tag r s).adm = s.adm ∧ (acceptPolicyRequest p tag r s).ift = s.ift ∧
    (acceptPolicyRequest p tag r s).stb = s.stb ∧ (acceptPolicyRequest p tag r s).fnu = s.fnu ∧
    (acceptPolicyRequest p tag r s).pending = s.pending ∧ (acceptPolicyRequest p tag r s).owc.state = s.owc.state ∧
    (acceptPolicyRequest p tag r s).owc.owner = s.owc.owner ∧
    (acceptPolicyRequest p tag r s).owc.epoch = s.owc.epoch ∧
    (acceptPolicyRequest p tag r s).owc.commitCount = s.owc.commitCount ∧
    (acceptPolicyRequest p tag r s).owc.drainStage = s.owc.drainStage ∧
    (acceptPolicyRequest p tag r s).owc.drainCause = s.owc.drainCause ∧
    (acceptPolicyRequest p tag r s).owc.successor = s.owc.successor ∧
    (acceptPolicyRequest p tag r s).owc.frozenCause = s.owc.frozenCause ∧
    (acceptPolicyRequest p tag r s).owc.roles = s.owc.roles ∧
    (acceptPolicyRequest p tag r s).owc.policy = s.owc.policy ∧
    (acceptPolicyRequest p tag r s).owc.history = s.owc.history ∧
    (acceptPolicyRequest p tag r s).owc.orphans = s.owc.orphans ∧
    (acceptPolicyRequest p tag r s).owc.dropped = s.owc.dropped ∧
    (acceptPolicyRequest p tag r s).owc.graceTimer = s.owc.graceTimer ∧
    (acceptPolicyRequest p tag r s).owc.drainTimer = s.owc.drainTimer ∧
    (acceptPolicyRequest p tag r s).owc.drainedPath = s.owc.drainedPath ∧
    (acceptPolicyRequest p tag r s).owc.orphansAdded = s.owc.orphansAdded ∧
    (acceptPolicyRequest p tag r s).dpt.state = s.dpt.state ∧
    (acceptPolicyRequest p tag r s).dpt.cause = s.dpt.cause ∧
    (acceptPolicyRequest p tag r s).dpt.identity = s.dpt.identity ∧
    (acceptPolicyRequest p tag r s).dpt.referenceMark = s.dpt.referenceMark ∧
    (acceptPolicyRequest p tag r s).dpt.slotCount = s.dpt.slotCount ∧
    (acceptPolicyRequest p tag r s).dpt.identifyFailures = s.dpt.identifyFailures ∧
    (acceptPolicyRequest p tag r s).dpt.resetTimer = s.dpt.resetTimer ∧
    (acceptPolicyRequest p tag r s).dpt.present = s.dpt.present := by
  simp [acceptPolicyRequest, oweReply]

@[simp] theorem decidePolicy_frame (p : Path) (tag epoch : Word) (record : PolicyRecord) (s : State) :
    (decidePolicy p tag epoch record s).hmon = s.hmon ∧ (decidePolicy p tag epoch record s).adm = s.adm ∧
    (decidePolicy p tag epoch record s).ift = s.ift ∧ (decidePolicy p tag epoch record s).stb = s.stb ∧
    (decidePolicy p tag epoch record s).fnu = s.fnu ∧ (decidePolicy p tag epoch record s).pending = s.pending ∧
    (decidePolicy p tag epoch record s).owc.state = s.owc.state ∧
    (decidePolicy p tag epoch record s).owc.owner = s.owc.owner ∧
    (decidePolicy p tag epoch record s).owc.epoch = s.owc.epoch ∧
    (decidePolicy p tag epoch record s).owc.commitCount = s.owc.commitCount ∧
    (decidePolicy p tag epoch record s).owc.drainStage = s.owc.drainStage ∧
    (decidePolicy p tag epoch record s).owc.drainCause = s.owc.drainCause ∧
    (decidePolicy p tag epoch record s).owc.successor = s.owc.successor ∧
    (decidePolicy p tag epoch record s).owc.frozenCause = s.owc.frozenCause ∧
    (decidePolicy p tag epoch record s).owc.roles = s.owc.roles ∧
    (decidePolicy p tag epoch record s).owc.policy = s.owc.policy ∧
    (decidePolicy p tag epoch record s).owc.history = s.owc.history ∧
    (decidePolicy p tag epoch record s).owc.orphans = s.owc.orphans ∧
    (decidePolicy p tag epoch record s).owc.dropped = s.owc.dropped ∧
    (decidePolicy p tag epoch record s).owc.graceTimer = s.owc.graceTimer ∧
    (decidePolicy p tag epoch record s).owc.drainTimer = s.owc.drainTimer ∧
    (decidePolicy p tag epoch record s).owc.drainedPath = s.owc.drainedPath ∧
    (decidePolicy p tag epoch record s).owc.orphansAdded = s.owc.orphansAdded ∧
    (decidePolicy p tag epoch record s).dpt.state = s.dpt.state ∧
    (decidePolicy p tag epoch record s).dpt.cause = s.dpt.cause ∧
    (decidePolicy p tag epoch record s).dpt.identity = s.dpt.identity ∧
    (decidePolicy p tag epoch record s).dpt.referenceMark = s.dpt.referenceMark ∧
    (decidePolicy p tag epoch record s).dpt.slotCount = s.dpt.slotCount ∧
    (decidePolicy p tag epoch record s).dpt.identifyFailures = s.dpt.identifyFailures ∧
    (decidePolicy p tag epoch record s).dpt.resetTimer = s.dpt.resetTimer ∧
    (decidePolicy p tag epoch record s).dpt.present = s.dpt.present ∧
    (∀ q, ((decidePolicy p tag epoch record s).pif.get q).link = (s.pif.get q).link) ∧
    (∀ q, ((decidePolicy p tag epoch record s).pif.get q).rxq = (s.pif.get q).rxq) ∧
    (∀ q, ((decidePolicy p tag epoch record s).pif.get q).assembler = (s.pif.get q).assembler) ∧
    (∀ q, ((decidePolicy p tag epoch record s).pif.get q).gapTimer = (s.pif.get q).gapTimer) ∧
    (∀ q, ((decidePolicy p tag epoch record s).pif.get q).serverHold = (s.pif.get q).serverHold) ∧
    (∀ q, ((decidePolicy p tag epoch record s).pif.get q).partHold = (s.pif.get q).partHold) ∧
    (∀ q, ((decidePolicy p tag epoch record s).pif.get q).sent = (s.pif.get q).sent) := by
  unfold decidePolicy
  repeat' (first | (simp; done) | split)

end Sys2Proof.Machine
end

