-- ==== Sys2Proof/Laws/FramesInspection.lean ====
section
/-! SUPPORT. What each operation of Machine/Inspection.lean leaves as it is. -/

namespace Sys2Proof.Machine

@[simp] theorem recordAnswer_frame (p : Path) (tag : Word) (status : Status) (table : Nat) (index : Nat) (fields : List Byte) (s : State) :
    (recordAnswer p tag status table index fields s).hmon = s.hmon ∧
    (recordAnswer p tag status table index fields s).owc = s.owc ∧
    (recordAnswer p tag status table index fields s).adm = s.adm ∧
    (recordAnswer p tag status table index fields s).ift = s.ift ∧
    (recordAnswer p tag status table index fields s).stb = s.stb ∧
    (recordAnswer p tag status table index fields s).mem = s.mem ∧
    (recordAnswer p tag status table index fields s).dpt = s.dpt ∧
    (recordAnswer p tag status table index fields s).fnu = s.fnu ∧
    (recordAnswer p tag status table index fields s).pending = s.pending ∧
    (∀ q, ((recordAnswer p tag status table index fields s).pif.get q).link = (s.pif.get q).link) ∧
    (∀ q, ((recordAnswer p tag status table index fields s).pif.get q).rxq = (s.pif.get q).rxq) ∧
    (∀ q, ((recordAnswer p tag status table index fields s).pif.get q).assembler = (s.pif.get q).assembler) ∧
    (∀ q, ((recordAnswer p tag status table index fields s).pif.get q).gapTimer = (s.pif.get q).gapTimer) ∧
    (∀ q, ((recordAnswer p tag status table index fields s).pif.get q).serverHold = (s.pif.get q).serverHold) ∧
    (∀ q, ((recordAnswer p tag status table index fields s).pif.get q).partHold = (s.pif.get q).partHold) ∧
    (∀ q, ((recordAnswer p tag status table index fields s).pif.get q).sent = (s.pif.get q).sent) := by
  simp [recordAnswer]

@[simp] theorem answerPosition_frame (p : Path) (tag : Word) (c : Cursor) (s : State) :
    (answerPosition p tag c s).hmon = s.hmon ∧ (answerPosition p tag c s).owc = s.owc ∧
    (answerPosition p tag c s).adm = s.adm ∧ (answerPosition p tag c s).ift = s.ift ∧
    (answerPosition p tag c s).stb = s.stb ∧ (answerPosition p tag c s).mem = s.mem ∧
    (answerPosition p tag c s).dpt = s.dpt ∧ (answerPosition p tag c s).pending = s.pending ∧
    (answerPosition p tag c s).fnu.masks = s.fnu.masks ∧
    (answerPosition p tag c s).fnu.resetCause = s.fnu.resetCause ∧
    (answerPosition p tag c s).fnu.postedLost = s.fnu.postedLost ∧
    (answerPosition p tag c s).fnu.deciding = s.fnu.deciding ∧
    (∀ q, ((answerPosition p tag c s).pif.get q).link = (s.pif.get q).link) ∧
    (∀ q, ((answerPosition p tag c s).pif.get q).rxq = (s.pif.get q).rxq) ∧
    (∀ q, ((answerPosition p tag c s).pif.get q).assembler = (s.pif.get q).assembler) ∧
    (∀ q, ((answerPosition p tag c s).pif.get q).gapTimer = (s.pif.get q).gapTimer) ∧
    (∀ q, ((answerPosition p tag c s).pif.get q).serverHold = (s.pif.get q).serverHold) ∧
    (∀ q, ((answerPosition p tag c s).pif.get q).partHold = (s.pif.get q).partHold) ∧
    (∀ q, ((answerPosition p tag c s).pif.get q).sent = (s.pif.get q).sent) := by
  simp only [answerPosition]
  split <;> simp [setCursor]

@[simp] theorem inspectAt_frame (p : Path) (tag : Word) (table : Byte) (index : Word) (s : State) :
    (inspectAt p tag table index s).hmon = s.hmon ∧ (inspectAt p tag table index s).owc = s.owc ∧
    (inspectAt p tag table index s).adm = s.adm ∧ (inspectAt p tag table index s).ift = s.ift ∧
    (inspectAt p tag table index s).stb = s.stb ∧ (inspectAt p tag table index s).mem = s.mem ∧
    (inspectAt p tag table index s).dpt = s.dpt ∧ (inspectAt p tag table index s).pending = s.pending ∧
    (inspectAt p tag table index s).fnu.masks = s.fnu.masks ∧
    (inspectAt p tag table index s).fnu.resetCause = s.fnu.resetCause ∧
    (inspectAt p tag table index s).fnu.postedLost = s.fnu.postedLost ∧
    (inspectAt p tag table index s).fnu.deciding = s.fnu.deciding ∧
    (∀ q, ((inspectAt p tag table index s).pif.get q).link = (s.pif.get q).link) ∧
    (∀ q, ((inspectAt p tag table index s).pif.get q).rxq = (s.pif.get q).rxq) ∧
    (∀ q, ((inspectAt p tag table index s).pif.get q).assembler = (s.pif.get q).assembler) ∧
    (∀ q, ((inspectAt p tag table index s).pif.get q).gapTimer = (s.pif.get q).gapTimer) ∧
    (∀ q, ((inspectAt p tag table index s).pif.get q).serverHold = (s.pif.get q).serverHold) ∧
    (∀ q, ((inspectAt p tag table index s).pif.get q).partHold = (s.pif.get q).partHold) ∧
    (∀ q, ((inspectAt p tag table index s).pif.get q).sent = (s.pif.get q).sent) := by
  unfold inspectAt
  split <;> simp

@[simp] theorem inspectOn_frame (p : Path) (tag : Word) (s : State) :
    (inspectOn p tag s).hmon = s.hmon ∧ (inspectOn p tag s).owc = s.owc ∧ (inspectOn p tag s).adm = s.adm ∧
    (inspectOn p tag s).ift = s.ift ∧ (inspectOn p tag s).stb = s.stb ∧ (inspectOn p tag s).mem = s.mem ∧
    (inspectOn p tag s).dpt = s.dpt ∧ (inspectOn p tag s).pending = s.pending ∧
    (inspectOn p tag s).fnu.masks = s.fnu.masks ∧ (inspectOn p tag s).fnu.resetCause = s.fnu.resetCause ∧
    (inspectOn p tag s).fnu.postedLost = s.fnu.postedLost ∧ (inspectOn p tag s).fnu.deciding = s.fnu.deciding ∧
    (∀ q, ((inspectOn p tag s).pif.get q).link = (s.pif.get q).link) ∧
    (∀ q, ((inspectOn p tag s).pif.get q).rxq = (s.pif.get q).rxq) ∧
    (∀ q, ((inspectOn p tag s).pif.get q).assembler = (s.pif.get q).assembler) ∧
    (∀ q, ((inspectOn p tag s).pif.get q).gapTimer = (s.pif.get q).gapTimer) ∧
    (∀ q, ((inspectOn p tag s).pif.get q).serverHold = (s.pif.get q).serverHold) ∧
    (∀ q, ((inspectOn p tag s).pif.get q).partHold = (s.pif.get q).partHold) ∧
    (∀ q, ((inspectOn p tag s).pif.get q).sent = (s.pif.get q).sent) := by
  simp [inspectOn]

@[simp] theorem clearFlags_frame (p : Path) (tag mask : Word) (s : State) :
    (clearFlags p tag mask s).hmon = s.hmon ∧ (clearFlags p tag mask s).owc = s.owc ∧
    (clearFlags p tag mask s).adm = s.adm ∧ (clearFlags p tag mask s).ift = s.ift ∧
    (clearFlags p tag mask s).stb = s.stb ∧ (clearFlags p tag mask s).mem = s.mem ∧
    (clearFlags p tag mask s).dpt = s.dpt ∧ (clearFlags p tag mask s).pending = s.pending ∧
    (clearFlags p tag mask s).fnu.masks = s.fnu.masks ∧ (clearFlags p tag mask s).fnu.cursors = s.fnu.cursors ∧
    (clearFlags p tag mask s).fnu.resetCause = s.fnu.resetCause ∧
    (clearFlags p tag mask s).fnu.postedLost = s.fnu.postedLost ∧
    (clearFlags p tag mask s).fnu.deciding = s.fnu.deciding ∧
    (∀ q, ((clearFlags p tag mask s).pif.get q).link = (s.pif.get q).link) ∧
    (∀ q, ((clearFlags p tag mask s).pif.get q).rxq = (s.pif.get q).rxq) ∧
    (∀ q, ((clearFlags p tag mask s).pif.get q).assembler = (s.pif.get q).assembler) ∧
    (∀ q, ((clearFlags p tag mask s).pif.get q).gapTimer = (s.pif.get q).gapTimer) ∧
    (∀ q, ((clearFlags p tag mask s).pif.get q).serverHold = (s.pif.get q).serverHold) ∧
    (∀ q, ((clearFlags p tag mask s).pif.get q).partHold = (s.pif.get q).partHold) ∧
    (∀ q, ((clearFlags p tag mask s).pif.get q).sent = (s.pif.get q).sent) := by
  simp [clearFlags]

@[simp] theorem clearOrphans_frame (p : Path) (tag : Word) (s : State) :
    (clearOrphans p tag s).hmon = s.hmon ∧ (clearOrphans p tag s).adm = s.adm ∧ (clearOrphans p tag s).ift = s.ift ∧
    (clearOrphans p tag s).stb = s.stb ∧ (clearOrphans p tag s).mem = s.mem ∧ (clearOrphans p tag s).dpt = s.dpt ∧
    (clearOrphans p tag s).fnu = s.fnu ∧ (clearOrphans p tag s).pending = s.pending ∧
    (clearOrphans p tag s).owc.state = s.owc.state ∧ (clearOrphans p tag s).owc.owner = s.owc.owner ∧
    (clearOrphans p tag s).owc.epoch = s.owc.epoch ∧ (clearOrphans p tag s).owc.commitCount = s.owc.commitCount ∧
    (clearOrphans p tag s).owc.drainStage = s.owc.drainStage ∧
    (clearOrphans p tag s).owc.drainCause = s.owc.drainCause ∧
    (clearOrphans p tag s).owc.successor = s.owc.successor ∧ (clearOrphans p tag s).owc.purpose = s.owc.purpose ∧
    (clearOrphans p tag s).owc.frozenCause = s.owc.frozenCause ∧ (clearOrphans p tag s).owc.roles = s.owc.roles ∧
    (clearOrphans p tag s).owc.policy = s.owc.policy ∧
    (clearOrphans p tag s).owc.pendingPolicy = s.owc.pendingPolicy ∧
    (clearOrphans p tag s).owc.contents = s.owc.contents ∧ (clearOrphans p tag s).owc.attempt = s.owc.attempt ∧
    (clearOrphans p tag s).owc.owedReplies = s.owc.owedReplies ∧
    (clearOrphans p tag s).owc.waitingTransition = s.owc.waitingTransition ∧
    (clearOrphans p tag s).owc.history = s.owc.history ∧ (clearOrphans p tag s).owc.graceTimer = s.owc.graceTimer ∧
    (clearOrphans p tag s).owc.drainTimer = s.owc.drainTimer ∧
    (clearOrphans p tag s).owc.drainedPath = s.owc.drainedPath ∧
    (clearOrphans p tag s).owc.orphansAdded = s.owc.orphansAdded ∧
    (∀ q, ((clearOrphans p tag s).pif.get q).link = (s.pif.get q).link) ∧
    (∀ q, ((clearOrphans p tag s).pif.get q).rxq = (s.pif.get q).rxq) ∧
    (∀ q, ((clearOrphans p tag s).pif.get q).assembler = (s.pif.get q).assembler) ∧
    (∀ q, ((clearOrphans p tag s).pif.get q).gapTimer = (s.pif.get q).gapTimer) ∧
    (∀ q, ((clearOrphans p tag s).pif.get q).serverHold = (s.pif.get q).serverHold) ∧
    (∀ q, ((clearOrphans p tag s).pif.get q).partHold = (s.pif.get q).partHold) ∧
    (∀ q, ((clearOrphans p tag s).pif.get q).sent = (s.pif.get q).sent) := by
  unfold clearOrphans
  split <;> simp

@[simp] theorem setNoticeMask_frame (p : Path) (tag mask : Word) (s : State) :
    (setNoticeMask p tag mask s).hmon = s.hmon ∧ (setNoticeMask p tag mask s).owc = s.owc ∧
    (setNoticeMask p tag mask s).adm = s.adm ∧ (setNoticeMask p tag mask s).ift = s.ift ∧
    (setNoticeMask p tag mask s).stb = s.stb ∧ (setNoticeMask p tag mask s).mem = s.mem ∧
    (setNoticeMask p tag mask s).dpt = s.dpt ∧ (setNoticeMask p tag mask s).pending = s.pending ∧
    (setNoticeMask p tag mask s).fnu.cursors = s.fnu.cursors ∧
    (setNoticeMask p tag mask s).fnu.resetCause = s.fnu.resetCause ∧
    (setNoticeMask p tag mask s).fnu.postedLost = s.fnu.postedLost ∧
    (setNoticeMask p tag mask s).fnu.deciding = s.fnu.deciding ∧
    (∀ q, ((setNoticeMask p tag mask s).pif.get q).link = (s.pif.get q).link) ∧
    (∀ q, ((setNoticeMask p tag mask s).pif.get q).rxq = (s.pif.get q).rxq) ∧
    (∀ q, ((setNoticeMask p tag mask s).pif.get q).assembler = (s.pif.get q).assembler) ∧
    (∀ q, ((setNoticeMask p tag mask s).pif.get q).gapTimer = (s.pif.get q).gapTimer) ∧
    (∀ q, ((setNoticeMask p tag mask s).pif.get q).serverHold = (s.pif.get q).serverHold) ∧
    (∀ q, ((setNoticeMask p tag mask s).pif.get q).partHold = (s.pif.get q).partHold) ∧
    (∀ q, ((setNoticeMask p tag mask s).pif.get q).sent = (s.pif.get q).sent) := by
  simp [setNoticeMask]

end Sys2Proof.Machine
end

