-- ==== Sys2Proof/Laws/Memory.lean ====
section
/-! SUPPORT. The cells of the staging buffer: the canonical form, that every operation keeps it, and what is read after a
write. -/

namespace Sys2Proof.Machine

/-! ## The canonical form -/

/-- The canonical form, as a property of the list. -/
theorem memoryWf_iff (m : Memory) :
    memoryWf m = true ↔ m.Pairwise (fun c d => c.1 < d.1) ∧ ∀ c ∈ m, c.2 ≠ Config.unfilledByte := by
  induction m with
  | nil => simp [memoryWf]
  | cons c rest ih =>
    cases rest with
    | nil => simp [memoryWf]
    | cons d rest =>
      simp only [memoryWf, Bool.and_eq_true, bne_iff_ne, decide_eq_true_eq, ih, List.pairwise_cons,
        List.forall_mem_cons]
      constructor
      · rintro ⟨⟨hc, hcd⟩, ⟨hd, hp⟩, hdf, hr⟩
        exact ⟨⟨⟨hcd, fun x hx => Nat.lt_trans hcd (hd x hx)⟩, hd, hp⟩, hc, hdf, hr⟩
      · rintro ⟨⟨⟨hcd, _⟩, hd, hp⟩, hc, hdf, hr⟩
        exact ⟨⟨hc, hcd⟩, ⟨hd, hp⟩, hdf, hr⟩

theorem memoryWf_filter {m : Memory} (test : Host.Cell → Bool) (h : memoryWf m = true) :
    memoryWf (m.filter test) = true := by
  rw [memoryWf_iff] at h ⊢
  exact ⟨h.1.filter _, fun c hc => h.2 c (List.mem_of_mem_filter hc)⟩

/-- Two canonical lists, the first wholly below the second, make one. -/
theorem memoryWf_append {m n : Memory} (hm : memoryWf m = true) (hn : memoryWf n = true)
    (h : ∀ c ∈ m, ∀ d ∈ n, c.1 < d.1) : memoryWf (m ++ n) = true := by
  rw [memoryWf_iff] at hm hn ⊢
  refine ⟨List.pairwise_append.2 ⟨hm.1, hn.1, h⟩, fun c hc => ?_⟩
  rcases List.mem_append.1 hc with hc | hc
  · exact hm.2 c hc
  · exact hn.2 c hc

theorem memoryWf_writeByte {m : Memory} (a : Nat) (v : Byte) (h : memoryWf m = true) :
    memoryWf (writeByte m a v) = true := by
  unfold writeByte
  have hv : memoryWf (if v = Config.unfilledByte then [] else [(a, v)]) = true := by
    split
    · rfl
    · simp [memoryWf, *]
  refine memoryWf_append (memoryWf_append (memoryWf_filter _ h) hv ?_) (memoryWf_filter _ h) ?_
  · intro c hc d hd
    have := (List.mem_filter.1 hc).2
    split at hd <;> simp_all
  · intro c hc d hd
    have hd := (List.mem_filter.1 hd).2
    rcases List.mem_append.1 hc with hc | hc
    · have := (List.mem_filter.1 hc).2
      simp at this hd
      omega
    · split at hc <;> simp_all

/-- The cells of consecutive bytes lie in their range and hold no unfilled byte. -/
theorem mem_cellsFrom {a : Nat} {l : List Byte} {c : Host.Cell} (h : c ∈ cellsFrom a l) :
    a ≤ c.1 ∧ c.1 < a + l.length ∧ c.2 ≠ Config.unfilledByte := by
  induction l generalizing a with
  | nil => simp [cellsFrom] at h
  | cons v rest ih =>
    unfold cellsFrom at h
    split at h
    · obtain ⟨h1, h2, h3⟩ := ih h
      exact ⟨by omega, by rw [List.length_cons]; omega, h3⟩
    · rcases List.mem_cons.1 h with rfl | h
      · simp_all
      · obtain ⟨h1, h2, h3⟩ := ih h
        exact ⟨by omega, by rw [List.length_cons]; omega, h3⟩

theorem memoryWf_cellsFrom (a : Nat) (l : List Byte) : memoryWf (cellsFrom a l) = true := by
  rw [memoryWf_iff]
  refine ⟨?_, fun c hc => (mem_cellsFrom hc).2.2⟩
  induction l generalizing a with
  | nil => simp [cellsFrom]
  | cons v rest ih =>
    unfold cellsFrom
    split
    · exact ih _
    · exact List.pairwise_cons.2 ⟨fun c hc => by have := mem_cellsFrom hc; omega, ih _⟩

theorem memoryWf_fillPage {m : Memory} (page : Nat) (bytes : List Byte) (h : memoryWf m = true) :
    memoryWf (fillPage m page bytes) = true := by
  unfold fillPage
  have hlen : (bytes.take Config.blockBytes).length ≤ Config.blockBytes := List.length_take_le _ _
  refine memoryWf_append (memoryWf_append (memoryWf_filter _ h) (memoryWf_cellsFrom _ _) ?_) (memoryWf_filter _ h) ?_
  · intro c hc d hd
    have hc := (List.mem_filter.1 hc).2
    have := mem_cellsFrom hd
    simp at hc
    omega
  · intro c hc d hd
    have hd := (List.mem_filter.1 hd).2
    simp at hd
    rcases List.mem_append.1 hc with hc | hc
    · have hc := (List.mem_filter.1 hc).2
      simp at hc
      omega
    · have := mem_cellsFrom hc
      omega

theorem memoryWf_fillOwnershipPage {m : Memory} (c : Contents) (h : memoryWf m = true) :
    memoryWf (fillOwnershipPage c m) = true :=
  memoryWf_writeByte _ _ (memoryWf_writeByte _ _ (memoryWf_fillPage _ _ h))

theorem memoryWf_reset : memoryWf State.reset.mem = true := rfl

/-! ## Reading -/

theorem readByte_of_lt {m : Memory} {a : Nat} (h : ∀ c ∈ m, a < c.1) : readByte m a = Config.unfilledByte := by
  induction m with
  | nil => rfl
  | cons c rest ih =>
    have := h c (by simp)
    rw [readByte, if_neg (by omega)]
    exact ih fun d hd => h d (by simp [hd])

theorem readByte_append (m n : Memory) (a : Nat) :
    readByte (m ++ n) a = if m.any (fun c => c.1 == a) then readByte m a else readByte n a := by
  induction m with
  | nil => simp
  | cons c rest ih =>
    by_cases h : c.1 = a
    · simp [readByte, h]
    · simp [readByte, h, ih]

/-- An address a test keeps reads the same after the cells are filtered by it. -/
theorem readByte_filter (m : Memory) (test : Nat → Bool) (a : Nat) :
    readByte (m.filter (fun c => test c.1)) a = if test a then readByte m a else Config.unfilledByte := by
  induction m with
  | nil => simp [readByte]
  | cons c rest ih =>
    obtain ⟨k, v⟩ := c
    by_cases hk : k = a
    · subst hk
      by_cases ht : test k <;> simp [readByte, ht, ih]
    · by_cases ht : test k <;> simp [readByte, ht, hk, ih]

theorem any_filter_key (m : Memory) (test : Nat → Bool) (a : Nat) :
    (m.filter (fun c => test c.1)).any (fun c => c.1 == a) = (test a && m.any (fun c => c.1 == a)) := by
  induction m with
  | nil => simp
  | cons c rest ih =>
    by_cases hk : c.1 = a
    · subst hk
      by_cases ht : test c.1 <;> simp [ht, ih]
    · have hk' : (c.1 == a) = false := by simpa using hk
      by_cases ht : test c.1
      · rw [List.filter_cons_of_pos (by exact ht), List.any_cons, List.any_cons, ih, hk', Bool.false_or, Bool.false_or]
      · rw [List.filter_cons_of_neg (by exact ht), List.any_cons, ih, hk', Bool.false_or]

/-- An address that no cell lists reads as unfilled. -/
theorem readByte_of_not_any {m : Memory} {a : Nat} (h : m.any (fun c => c.1 == a) = false) :
    readByte m a = Config.unfilledByte := by
  induction m with
  | nil => rfl
  | cons c rest ih =>
    simp only [List.any_cons, Bool.or_eq_false_iff, beq_eq_false_iff_ne] at h
    rw [readByte, if_neg h.1, ih h.2]

/-- A byte reads as what was last written there, and every other address as before. -/
theorem readByte_writeByte (m : Memory) (a b : Nat) (v : Byte) :
    readByte (writeByte m a v) b = if b = a then v else readByte m b := by
  unfold writeByte
  rw [readByte_append, readByte_append, List.any_append,
    any_filter_key m (fun k => decide (k < a)), readByte_filter m (fun k => decide (k < a)),
    readByte_filter m (fun k => decide (a < k))]
  rcases Nat.lt_trichotomy b a with h | h | h
  · have hne : b ≠ a := by omega
    have hn : ¬ a < b := by omega
    cases hm : m.any (fun c => c.1 == b) with
    | true => simp [h, hne, apply_ite (fun l : Memory => l.any fun c => c.1 == b)]
    | false =>
      by_cases hv : v = Config.unfilledByte <;>
        simp [h, hne, hn, hv, Ne.symm hne, readByte_of_not_any hm]
  · subst h
    by_cases hv : v = Config.unfilledByte <;> simp [hv, readByte]
  · have hne : b ≠ a := by omega
    have hn : ¬ b < a := by omega
    by_cases hv : v = Config.unfilledByte <;> simp [hv, hn, hne, Ne.symm hne, h]

theorem readByte_cellsFrom (a : Nat) (l : List Byte) (b : Nat) :
    readByte (cellsFrom a l) b = if a ≤ b then l.getD (b - a) Config.unfilledByte else Config.unfilledByte := by
  induction l generalizing a with
  | nil => simp [cellsFrom, readByte]
  | cons v rest ih =>
    unfold cellsFrom
    rcases Nat.lt_trichotomy b a with h | h | h
    · have h1 : ¬ a ≤ b := by omega
      have h2 : ¬ a + 1 ≤ b := by omega
      have h3 : a ≠ b := by omega
      split <;> simp [readByte, ih, h2, h3]
    · subst h
      split <;> simp_all [readByte]
    · have h1 : a ≤ b := by omega
      have h2 : a + 1 ≤ b := by omega
      have h3 : a ≠ b := by omega
      have h4 : b - a = (b - (a + 1)) + 1 := by omega
      split <;> simp only [readByte, ih, h2, h3, if_true, if_false, h4, List.getD_cons_succ]

/-- A byte of a filled page is the block's byte; every address outside the page reads as before. -/
theorem readByte_fillPage (m : Memory) (page : Nat) (bytes : List Byte) (a : Nat) :
    readByte (fillPage m page bytes) a =
      if pageBase page ≤ a ∧ a < pageBase page + Config.blockBytes then
        bytes.getD (a - pageBase page) Config.unfilledByte
      else readByte m a := by
  unfold fillPage
  rw [readByte_append, readByte_append, List.any_append,
    any_filter_key m (fun k => decide (k < pageBase page)), readByte_filter m (fun k => decide (k < pageBase page)),
    readByte_filter m (fun k => decide (pageBase page + Config.blockBytes ≤ k)), readByte_cellsFrom]
  by_cases h1 : a < pageBase page
  · have hc : (cellsFrom (pageBase page) (bytes.take Config.blockBytes)).any (fun c => c.1 == a) = false := by
      rw [List.any_eq_false]
      intro c hc
      have := mem_cellsFrom hc
      simp
      omega
    have h3 : ¬ pageBase page ≤ a := by omega
    have h4 : ¬ pageBase page + Config.blockBytes ≤ a := by omega
    by_cases hm : m.any (fun c => c.1 == a)
    · simp [h1, hc, h3, hm]
    · simp only [Bool.not_eq_true] at hm
      simp [h1, hc, h3, h4, hm, readByte_of_not_any hm]
  · have h3 : pageBase page ≤ a := by omega
    by_cases h2 : a < pageBase page + Config.blockBytes
    · have h4 : ¬ pageBase page + Config.blockBytes ≤ a := by omega
      have hget : (bytes.take Config.blockBytes).getD (a - pageBase page) Config.unfilledByte =
          bytes.getD (a - pageBase page) Config.unfilledByte := by
        rw [List.getD_eq_getElem?_getD, List.getD_eq_getElem?_getD, List.getElem?_take_of_lt (by omega)]
      rw [if_pos (show pageBase page ≤ a ∧ a < pageBase page + Config.blockBytes from ⟨h3, h2⟩), if_pos h3, hget]
      cases hc : (cellsFrom (pageBase page) (bytes.take Config.blockBytes)).any (fun c => c.1 == a) with
      | true => simp [h1]
      | false =>
        have := readByte_cellsFrom (pageBase page) (bytes.take Config.blockBytes) a
        rw [readByte_of_not_any hc, if_pos h3, hget] at this
        simpa [h1, h4] using this
    · have h4 : pageBase page + Config.blockBytes ≤ a := by omega
      have hc : (cellsFrom (pageBase page) (bytes.take Config.blockBytes)).any (fun c => c.1 == a) = false := by
        rw [List.any_eq_false]
        intro c hc
        have := mem_cellsFrom hc
        have := List.length_take_le Config.blockBytes bytes
        simp
        omega
      simp [h1, h2, h3, h4, hc]

/-! ## Blocks -/

theorem readBytes_length (m : Memory) (n a : Nat) : (readBytes m n a).length = n := by
  induction n generalizing a with
  | zero => rfl
  | succ n ih => simp [readBytes, ih]

theorem readBytes_getD (m : Memory) (n a k : Nat) (h : k < n) :
    (readBytes m n a).getD k Config.unfilledByte = readByte m (a + k) := by
  induction n generalizing a k with
  | zero => omega
  | succ n ih =>
    cases k with
    | zero => simp [readBytes]
    | succ k =>
      rw [readBytes, List.getD_cons_succ, ih (a + 1) k (by omega)]
      congr 1
      omega

/-- Sorted cells of a range, spread over it, are the bytes read one by one. -/
theorem spread_eq_readBytes (n a : Nat) (m : Memory) (hs : m.Pairwise (fun c d => c.1 < d.1)) (hl : ∀ c ∈ m, a ≤ c.1) :
    spread n a m = readBytes m n a := by
  induction n generalizing a m with
  | zero => cases m <;> rfl
  | succ n ih =>
    cases m with
    | nil =>
      rw [spread, readBytes, ih (a + 1) [] .nil (by simp)]
      rfl
    | cons c rest =>
      obtain ⟨k, v⟩ := c
      have hk := hl (k, v) (by simp)
      rw [List.pairwise_cons] at hs
      by_cases hka : k = a
      · subst hka
        have hr : ∀ c ∈ rest, k + 1 ≤ c.1 := fun c hc => hs.1 c hc
        have hread : ∀ b, k + 1 ≤ b → readByte ((k, v) :: rest) b = readByte rest b := by
          intro b hb
          rw [readByte, if_neg (by omega)]
        have hall : ∀ j b, k + 1 ≤ b → readBytes ((k, v) :: rest) j b = readBytes rest j b := by
          intro j
          induction j with
          | zero => intros; rfl
          | succ j ihj =>
            intro b hb
            rw [readBytes, readBytes, hread b hb, ihj (b + 1) (by omega)]
        rw [spread, if_pos rfl, readBytes, hall n (k + 1) (by omega), ih (k + 1) rest hs.2 hr]
        simp [readByte]
      · have hlt : a < k := by simp at hk; omega
        have hl' : ∀ c ∈ (k, v) :: rest, a + 1 ≤ c.1 := by
          intro c hc
          rcases List.mem_cons.1 hc with rfl | hc
          · exact hlt
          · have := hs.1 c hc
            simp at this
            omega
        rw [spread, if_neg hka, readBytes, ih (a + 1) _ (List.pairwise_cons.2 hs) hl']
        congr 1
        exact (readByte_of_lt fun c hc => hl' c hc).symm

theorem readByte_cellsIn (m : Memory) (lo n a : Nat) (h1 : lo ≤ a) (h2 : a < lo + n) :
    readByte (cellsIn m lo n) a = readByte m a := by
  unfold cellsIn
  rw [readByte_filter m (fun k => decide (lo ≤ k) && decide (k < lo + n))]
  simp [h1, h2]

/-- The block a page holds is its bytes, read one by one. -/
theorem readPage_eq_readBytes {m : Memory} (page : Nat) (h : memoryWf m = true) :
    readPage m page = readBytes m Config.blockBytes (pageBase page) := by
  unfold readPage
  have hs : (cellsIn m (pageBase page) Config.blockBytes).Pairwise (fun c d => c.1 < d.1) :=
    ((memoryWf_iff m).1 h).1.filter _
  rw [spread_eq_readBytes _ _ _ hs ?_]
  · have : ∀ j a, pageBase page ≤ a → a + j ≤ pageBase page + Config.blockBytes →
        readBytes (cellsIn m (pageBase page) Config.blockBytes) j a = readBytes m j a := by
      intro j
      induction j with
      | zero => intros; rfl
      | succ j ih =>
        intro a h1 h2
        rw [readBytes, readBytes, readByte_cellsIn m _ _ a h1 (by omega), ih (a + 1) (by omega) (by omega)]
    exact this _ _ (Nat.le_refl _) (Nat.le_refl _)
  · intro c hc
    have := (List.mem_filter.1 hc).2
    simp at this
    exact this.1

/-- The block read from a page just filled is the block it was filled with. -/
theorem readPage_fillPage {m : Memory} (page : Nat) (bytes : List Byte) (h : memoryWf m = true)
    (hb : bytes.length = Config.blockBytes) : readPage (fillPage m page bytes) page = bytes := by
  rw [readPage_eq_readBytes page (memoryWf_fillPage page bytes h)]
  refine List.ext_getElem (by rw [readBytes_length, hb]) ?_
  intro k h1 h2
  have hk : k < Config.blockBytes := by rw [readBytes_length] at h1; exact h1
  have hg := readBytes_getD (fillPage m page bytes) Config.blockBytes (pageBase page) k hk
  rw [readByte_fillPage, if_pos ⟨by omega, by omega⟩, Nat.add_sub_cancel_left] at hg
  rw [List.getD_eq_getElem?_getD, List.getD_eq_getElem?_getD, List.getElem?_eq_getElem h1,
    List.getElem?_eq_getElem h2] at hg
  simpa using hg

end Sys2Proof.Machine
end

