-- ==== Sys2Proof/Tests/Slice0.lean ====
section
/-! SUPPORT. The model's own tests: the checks of well-formedness; one or two small steps for each command, with the
expected result taken from the manual's rule or worked example that the comment names; and, for the statements that have
hypotheses, states and operands that meet them. -/

namespace Sys2Proof.Machine

set_option Elab.async false

/-! ## Small states -/

def testUp : Pif := { Pif.reset with link := .up }

def testWell : Hmon :=
  { score := 0, health := .healthy, window := some 100, pulseCounted := false, heldThroughout := false }

def testDrive : Dpt :=
  { Dpt.reset with
    state := .ready, busy := [], requests := [], slotCount := 4, referenceMark := true,
    identity := some { capacity := 2000000, blockSize := 4096, depth := 4 } }

/-- Both links UP and HEALTHY, a drive READY with 4 slots, UNOWNED at epoch 7 and commit count 41. -/
def testIdle : State :=
  { State.reset with
    pif := { a := testUp, b := testUp }, hmon := { a := testWell, b := testWell }, dpt := testDrive
    owc := { Owc.reset with state := .unowned, epoch := 7#16, commitCount := 41#32 } }

/-- Path A owns the drive. -/
def testOwned : State :=
  { testIdle with
    owc := { testIdle.owc with state := .owned, owner := some .a, roles := { a := .owner, b := .sharer } } }

def testLost : Hmon :=
  { score := 224, health := .lost, window := some 100, pulseCounted := false, heldThroughout := false }

/-- The owner, Path A, is LOST and the grace timer runs. -/
def testGrace : State :=
  { testOwned with
    hmon := { a := testLost, b := testWell }
    owc := { testOwned.owc with state := .grace, graceTimer := some 500 } }

def testFrozen : State :=
  { testIdle with owc := { testIdle.owc with state := .frozen, frozenCause := some .commitFailed } }

/-- Path A is FENCED and no path owns the drive. -/
def testFenced : State :=
  { testIdle with owc := { testIdle.owc with roles := { a := .fenced, b := .sharer } } }

/-- LOADING before the load has begun. -/
def testLoading : State :=
  { testIdle with owc := { testIdle.owc with state := .loading } }

/-- An entry in RUNNING that has done nothing yet. -/
def testEntry (slot : Nat) (origin : Path) (tag : Word) (op : Op) (start count age : Nat) : Entry :=
  { slot := slot, origin := origin, tag := tag, op := op, start := start, count := count, epoch := 7#16
    common := false, posted := false, acked := false, age := age, phase := .running, staged := 0, issued := 0
    committed := 0, fetched := 0, delivered := 0, frontier := 0, returned := [], readGrant := none, reissue := 0
    blockedBy := [], outstanding := [], endStatus := none, fencedOutcome := none, cut := false, flushDone := false
    reported := false }

/-- A state with entries in its table. -/
def testTable (entries : List Entry) (s : State) : State :=
  { s with ift := entries, adm := { s.adm with sequence := 100 } }

/-- A state with a frame at the head of a path's receive queue. -/
def testHead (p : Path) (frame : QueuedFrame) (s : State) : State :=
  s.onPif p (fun f => { f with rxq := [frame] })

/-- A drain of Path A in a stage, with a cause and an entry of it left. -/
def testDrain (stage : DrainStage) (cause : DrainCause) (successor : Option Path) (role : Role) : State :=
  testTable [testEntry 0 .a 21#16 .write 100 4 20]
    { testIdle with
      owc := { testIdle.owc with
        state := .draining, drainStage := some stage, drainCause := some cause, drainedPath := some .a
        successor := some successor, orphansAdded := some 0, drainTimer := some 2000
        roles := { a := role, b := .sharer } } }

/-- Whether a command answers a next state that passes a test. -/
def gives (i : Instr) (s : State) (test : State → Bool) : Bool :=
  match exec i s with
  | .next t => test t
  | _ => false

/-- The frames a path has begun to send or holds in its transmit queue, in order. -/
def Pif.outbound (f : Pif) : List OutFrame :=
  (match f.sending with
   | some x => [x.item.frame]
   | none => []) ++ f.txq.map (fun x => x.frame)

/-! ## Well-formedness: one ill-formed term for each check -/

theorem test_wf_writeData_short : (Instr.writeData .a 1#16 0#16 [0#8]).wellFormed = false := by decide +kernel

theorem test_wf_pathSlot_block_short : (Instr.pathSlotCompletion 0 .good 1#16 [[0#8]]).wellFormed = false := by
  decide +kernel

theorem test_wf_pathSlot_seventeen :
    (Instr.pathSlotCompletion 0 .good 1#16 (List.replicate 17 (List.replicate 4096 0#8))).wellFormed = false := by
  decide +kernel

theorem test_wf_entryRemoval_32 : (Instr.entryRemoval 32).wellFormed = false := by decide +kernel

theorem test_wf_reservedSlot_short : (Instr.reservedSlotCompletion .good 1#16 [0#8]).wellFormed = false := by
  decide +kernel

theorem test_wf_slotTimeout_8 : (Instr.slotTimeout 8).wellFormed = false := by decide +kernel

theorem test_wf_accepts :
    (Instr.writeData .a 1#16 0#16 (List.replicate 4096 7#8)).wellFormed = true ∧
      (Instr.entryRemoval 31).wellFormed = true ∧ (Instr.slotTimeout 7).wellFormed = true := by
  decide +kernel

/-! ## Resets and path links -/

/-- R157, R59: with no drive the part is FROZEN with cause DRIVE. -/
theorem test_powerOn_absent :
    gives (.powerOnReset false)
      testOwned
      (fun t => t.owc.state == .frozen && t.owc.frozenCause == some .drive && t.dpt.state == .absent && t.owc.epoch == 0#16) = true := by
  decide +kernel

/-- R194, R67, R158: pin reset, with a drive, and its IDENTIFY. -/
theorem test_pinReset_cause :
    gives .pinReset
      testOwned
      (fun t => t.fnu.resetCause == .pin && t.owc.state == .loading && t.dpt.requests == [.identify]) = true := by
  decide +kernel

/-- R34, R69: the owner is LOST at score 255, and GRACE begins with 500 ms. -/
theorem test_carrierLoss_owner :
    gives (.carrierLoss .a)
      testOwned
      (fun t => t.hmon.a == Hmon.reset && t.owc.state == .grace && t.owc.graceTimer == some 500 && hasFlag t.fnu.flags.b .partnerLost) = true := by
  decide +kernel

/-- R35 and section 10.1.1: 192 LOST, with the window started. -/
theorem test_carrierReturn_score :
    gives (.carrierReturn .a)
      State.reset
      (fun t => t.hmon.a.score == 192 && t.hmon.a.health == .lost && t.hmon.a.window == some 100) = true := by
  decide +kernel

/-- Section 1.1.1, sixth row: after 50h marked, 00h, 03h, 00h, 07h the running sum is 5Ah, with two payload bytes held. -/
theorem test_linkCharacter_body :
    (match feed .a [(true, 0x50#8), (false, 0x00#8), (false, 0x03#8), (false, 0x00#8), (false, 0x07#8)] testIdle with
      | .next t => t.pif.a.assembler == .body 0x50#8 3 [0x00#8, 0x07#8] 0x5A#16 && t.pif.a.gapTimer == some 64
      | _ => false) = true := by
  decide +kernel

/-- Section 1.1.1: the whole pulse, 50h 00h 03h 00h 07h 2Ah 00h 84h, is answered by an ECHO of sequence 2Ah (R9). -/
theorem test_linkCharacter_pulse :
    (match feed .a [(true, 0x50#8), (false, 0x00#8), (false, 0x03#8), (false, 0x00#8), (false, 0x07#8), (false, 0x2A#8),
        (false, 0x00#8), (false, 0x84#8)] testIdle with
      | .next t =>
        t.pif.a.assembler == .idle && t.pif.a.gapTimer == none &&
          t.pif.a.outbound == [.echo 0x2A#8 7#16 none .sharer .unowned .healthy .healthy]
      | _ => false) = true := by
  decide +kernel

/-- Section 1.1.1: a COMMAND with 5 of 14 payload bytes meets 50h marked: one link error, and the 50h begins a frame. -/
theorem test_truncation_example :
    gives (.truncation .a 0x50#8)
      (testIdle.onPif .a (fun f => { f with assembler := .body 0x41#8 14 [1#8, 2#8, 3#8, 4#8, 5#8] 0#16 }))
      (fun t => t.pif.a.assembler == .length 0x50#8 none 0x50#16 && t.hmon.a.score == 8 && hasFlag t.fnu.flags.a .linkError &&
        !hasFlag t.fnu.flags.b .linkError && t.pif.a.rxq == []) = true := by
  decide +kernel

/-- R2: a length of 4101 is a link error. -/
theorem test_overLength_4101 :
    gives (.overLength .a 0x05#8)
      (testIdle.onPif .a (fun f => { f with assembler := .length 0x44#8 (some 0x10#8) 0#16 }))
      (fun t => t.pif.a.assembler == .idle && t.hmon.a.score == 8) = true := by
  decide +kernel

/-- R4, R33: silence in a frame is a link error. -/
theorem test_gapTimeout_scores :
    gives (.gapTimeout .b)
      (testIdle.onPif .b (fun f => { f with assembler := .length 0x50#8 none 0x50#16, gapTimer := some 64 }))
      (fun t => t.pif.b.assembler == .idle && t.pif.b.gapTimer == none && t.hmon.b.score == 8) = true := by
  decide +kernel

/-- R3: the check 0085h does not equal the running sum 0084h of section 1.1.1. -/
theorem test_checkFailure_scores :
    gives (.checkFailure .a 0x85#8)
      (testIdle.onPif .a (fun f => { f with assembler := .body 0x50#8 3 [0#8, 7#8, 0x2A#8, 0#8] 0x84#16 }))
      (fun t => t.pif.a.assembler == .idle && t.hmon.a.score == 8 && t.pif.a.outbound == []) = true := by
  decide +kernel

/-- R3: a frame of kind 52h, which no server sends, with a right check. -/
theorem test_unknownKind_outbound :
    gives (.unknownKind .a 0x52#8)
      (testIdle.onPif .a (fun f => { f with assembler := .body 0x52#8 0 [0#8] 0x52#16 }))
      (fun t => t.pif.a.assembler == .idle && t.hmon.a.score == 8) = true := by
  decide +kernel

/-- Section 4.1.1, case 1: the first pulse takes 224 to 176, and the path stays LOST. -/
theorem test_pulse_lost :
    gives (.pulse .a 7#16 1#8)
      testGrace
      (fun t => t.hmon.a.score == 176 && t.hmon.a.health == .lost && t.owc.state == .grace) = true := by
  decide +kernel

/-- Section 4.1.1, case 1: the fourth pulse takes 80 to 32, HEALTHY, and the state returns to OWNED. -/
theorem test_pulse_recovers :
    gives (.pulse .a 7#16 4#8)
      { testGrace with hmon := { testGrace.hmon with a := { testLost with score := 80 } } }
      (fun t => t.hmon.a.score == 32 && t.hmon.a.health == .healthy && t.owc.state == .owned && t.owc.graceTimer == none &&
        t.owc.owner == some .a) = true := by
  decide +kernel

/-- R15. -/
theorem test_hold_sets :
    gives (.hold .a)
      testIdle
      (fun t => t.pif.a.serverHold && !t.pif.b.serverHold) = true := by
  decide +kernel

/-- R15, R32: a GO that clears the flag clears the held-throughout indicator. -/
theorem test_go_clears_evidence :
    gives (.go .a)
      (({ testIdle with hmon := { testIdle.hmon with a := { testWell with heldThroughout := true } } } : State).onPif .a
        (fun f => { f with serverHold := true }))
      (fun t => !t.pif.a.serverHold && !t.hmon.a.heldThroughout) = true := by
  decide +kernel

/-- R142: the block stands in page 0, and r rises to 1. -/
theorem test_writeData_staged :
    gives (.writeData .a 21#16 0#16 [1#8])
      (testTable [testEntry 0 .a 21#16 .write 100 4 20] testOwned)
      (fun t => t.ift.map (fun e => e.staged) == [1] &&
        t.stb.pages == [{ number := 0, path := .a, slot := some 0, offset := 0, state := .staged }] &&
        readByte t.mem 0 == 1#8) = true := by
  decide +kernel

/-- R141, R128: an offset that is not r ends the write BAD_DATA. -/
theorem test_writeData_badData :
    gives (.writeData .a 21#16 1#16 [])
      (testTable [testEntry 0 .a 21#16 .write 100 4 20] testOwned)
      (fun t => t.ift == [] && t.pif.a.outbound == [.reply 21#16 .badData 0#16 7#16]) = true := by
  decide +kernel

/-- R10. -/
theorem test_arrival_joins :
    gives (.receiveQueueArrival .a (.rejoin 1#16 7#16))
      testIdle
      (fun t => t.pif.a.rxq == [.rejoin 1#16 7#16]) = true := by
  decide +kernel

/-- R10: a seventeenth frame is answered QUEUE_FULL. -/
theorem test_arrival_full :
    gives (.receiveQueueArrival .a (.rejoin 9#16 7#16))
      (testIdle.onPif .a (fun f => { f with rxq := List.replicate 16 (.rejoin 1#16 7#16) }))
      (fun t => t.pif.a.rxq.length == 16 && t.pif.a.outbound == [.reply 9#16 .queueFull 0#16 7#16]) = true := by
  decide +kernel

/-! ## Commands -/

/-- The table of section 5.4.1 at its epoch, 9, with the ranges common so that Path B may write. -/
def testBusy (entries : List Entry) : State :=
  { testTable
      ([{ testEntry 0 .a 1#16 .write 100 16 40 with epoch := 9#16 },
        { testEntry 1 .b 2#16 .read 110 8 41 with epoch := 9#16, phase := .blocked, blockedBy := [0] },
        { testEntry 2 .a 3#16 .read 200 4 42 with epoch := 9#16 }] ++ entries) testOwned with
    adm := { pointer := .b, sequence := 43 + entries.length }
    owc := { testOwned.owc with
      epoch := 9#16, policy := { defaultPolicy with commonStart := 0#48, commonCount := 1000#16, flags := 0x0D#8 } } }

/-- Section 5.4.1, first row, with its DATA_REQUEST. -/
theorem test_write_blocked :
    gives (.commandWrite .b)
      (testHead .b (.command 5#16 9#16 0x02#8 0#8 112#48 4#16) (testBusy []))
      (fun t => (t.entry? 3).map (fun e => (e.age, e.blockedBy, e.phase)) == some (43, [0, 1], .blocked) &&
        t.pif.b.outbound == [.dataRequest 5#16 4#16]) = true := by
  decide +kernel

/-- The write of section 5.4.1's first row. -/
def testThird : Entry :=
  { testEntry 3 .b 5#16 .write 112 4 43 with epoch := 9#16, common := true, phase := .blocked, blockedBy := [0, 1] }

/-- Section 5.4.1, second row: a FLUSH waits for the writes of its own path. -/
theorem test_flush_blocked :
    gives (.commandFlush .a)
      (testHead .a (.command 6#16 9#16 0x03#8 0#8 0#48 0#16) (testBusy [testThird]))
      (fun t => (t.entry? 4).map (fun e => (e.age, e.blockedBy, e.phase)) == some (44, [0], .blocked)) = true := by
  decide +kernel

/-- Section 5.4.1, third row: a READ that begins where the writes end runs at once. -/
theorem test_read_runs :
    gives (.commandRead .a)
      (testHead .a (.command 7#16 9#16 0x01#8 0#8 116#48 4#16) (testBusy [testThird]))
      (fun t => (t.entry? 4).map (fun e => (e.blockedBy, e.phase)) == some ([], .running)) = true := by
  decide +kernel

/-- Section 3.8.1, last row: a READ with an epoch that is not current is refused STALE_EPOCH. -/
theorem test_read_staleEpoch :
    gives (.commandRead .b)
      (testHead .b (.command 8#16 0#16 0x01#8 0#8 10#48 1#16) testOwned)
      (fun t => t.ift == [] && t.pif.b.outbound == [.reply 8#16 .staleEpoch 0#16 7#16]) = true := by
  decide +kernel

/-- R102 and section 10.3.1: a SHARER's WRITE that is not common is refused NOT_OWNER. -/
theorem test_write_notOwner :
    gives (.commandWrite .b)
      (testHead .b (.command 8#16 7#16 0x02#8 0#8 10#48 1#16) testOwned)
      (fun t => t.ift == [] && t.pif.b.outbound == [.reply 8#16 .notOwner 0#16 7#16]) = true := by
  decide +kernel

/-- R103, R104: a posted write under allow_posted. -/
theorem test_posted_allowed :
    gives (.commandWritePosted .b)
      (testHead .b (.command 8#16 9#16 0x02#8 1#8 500#48 1#16) (testBusy []))
      (fun t => (t.entry? 3).map (fun e => (e.posted, e.common)) == some (true, true)) = true := by
  decide +kernel

/-- R103: with allow_posted clear the write is accepted as an ordinary one. -/
theorem test_posted_not_allowed :
    gives (.commandWritePosted .a)
      (testHead .a (.command 8#16 7#16 0x02#8 1#8 10#48 1#16) testOwned)
      (fun t => (t.entry? 0).map (fun e => e.posted) == some false) = true := by
  decide +kernel

/-- R98, check 1. -/
theorem test_badOp :
    gives (.commandBadOp .a)
      (testHead .a (.command 8#16 7#16 0x04#8 0#8 10#48 1#16) testOwned)
      (fun t => t.ift == [] && t.pif.a.outbound == [.reply 8#16 .badOp 0#16 7#16] && t.pif.a.rxq == []) = true := by
  decide +kernel

/-! ## Ownership requests -/

/-- Section 3.8.1: the first CLAIM on a new drive, with the commit written at LBA Cd-8. -/
theorem test_claim_commits :
    gives (.claim .a)
      (testHead .a (.claim 3#16 0#16 0#8 0#16)
        { testIdle with owc := { testIdle.owc with epoch := 0#16, commitCount := 0#32 } })
      (fun t => t.owc.state == .committing && t.owc.successor == some (some .a) && t.owc.epoch == 0#16 &&
        t.owc.contents == some { owner := some .a, epoch := 1#16, count := 1#32, policy := defaultPolicy } &&
        t.dpt.requests == [.write 3 1999992 1 [255]] && t.pif.a.outbound == []) = true := by
  decide +kernel

/-- Section 3.8.1: a second CLAIM during the commit is CONTENDED. -/
theorem test_claim_contended :
    gives (.claim .b)
      (testHead .b (.claim 4#16 7#16 0#8 0#16)
        { testIdle with owc := { testIdle.owc with state := .committing, successor := some (some .a) } })
      (fun t => t.pif.b.outbound == [.reply 4#16 .contended 0#16 7#16]) = true := by
  decide +kernel

/-- R47: the default policy forbids a forced claim. -/
theorem test_forced_forbidden :
    gives (.forcedClaim .b)
      (testHead .b (.claim 4#16 7#16 1#8 0#16) testOwned)
      (fun t => t.owc == testOwned.owc && t.pif.b.outbound == [.reply 4#16 .forbidden 0#16 7#16]) = true := by
  decide +kernel

/-- R47, R75, R80: with nothing of the owner in flight the drain ends at once. -/
theorem test_forced_fences :
    gives (.forcedClaim .b)
      (testHead .b (.claim 4#16 7#16 1#8 0#16)
        { testOwned with owc := { testOwned.owc with policy := { defaultPolicy with flags := 0x07#8 } } })
      (fun t => t.role .a == .fenced && t.owc.state == .committing && t.owc.purpose == some .forced &&
        t.owc.successor == some (some .b)) = true := by
  decide +kernel

/-- R48, R44: an override claim in FROZEN commits under the epoch it carries. -/
theorem test_override_commits :
    gives (.overrideClaim .a)
      (testHead .a (.claim 4#16 7#16 2#8 90#16) testFrozen)
      (fun t => t.owc.state == .committing && t.owc.contents.map (fun c => c.epoch) == some 90#16 && t.owc.frozenCause == none) = true := by
  decide +kernel

/-- R48: an override epoch of 0 is refused. -/
theorem test_override_zero :
    gives (.overrideClaim .a)
      (testHead .a (.claim 4#16 7#16 2#8 0#16) testFrozen)
      (fun t => t.owc == testFrozen.owc && t.pif.a.outbound == [.reply 4#16 .staleEpoch 0#16 7#16]) = true := by
  decide +kernel

/-- R49, R81: with nothing in flight the drain ends at its beginning, with successor NONE. -/
theorem test_release_commits :
    gives (.release .a)
      (testHead .a (.release 5#16 7#16 0#8) testOwned)
      (fun t => t.owc.state == .committing && t.owc.successor == some none && t.owc.purpose == some .release &&
        t.role .a == .sharer) = true := by
  decide +kernel

/-- Section 10.3.1, first row. -/
theorem test_handover_commits :
    gives (.releaseHandover .a)
      (testHead .a (.release 5#16 7#16 1#8) testOwned)
      (fun t => t.owc.state == .committing && t.owc.successor == some (some .b) && t.owc.purpose == some .handover &&
        t.owc.roles == { a := .sharer, b := .sharer }) = true := by
  decide +kernel

/-- R50. -/
theorem test_rejoin_sharer :
    gives (.rejoin .a)
      (testHead .a (.rejoin 6#16 7#16) testFenced)
      (fun t => t.role .a == .sharer && t.pif.a.outbound == [.reply 6#16 .ok 0#16 7#16]) = true := by
  decide +kernel

/-- R50 and R196: a REJOIN in DRAINING is refused CONTENDED. -/
theorem test_rejoin_draining :
    gives (.rejoin .a)
      (testHead .a (.rejoin 6#16 7#16) (testDrain .fenced .forced (some .b) .fenced))
      (fun t => t.role .a == .fenced && t.pif.a.outbound == [.reply 6#16 .contended 0#16 7#16]) = true := by
  decide +kernel

/-- Section 3.4.1, first row: grace_ms is clamped to 60000 and the policy in force stays. -/
theorem test_policy_clamped :
    gives (.policy .a)
      (testHead .a (.policy 9#16 7#16 { defaultPolicy with graceMs := 65535#16, flags := 0x01#8 }) testOwned)
      (fun t => t.owc.pendingPolicy == some { defaultPolicy with graceMs := 60000#16, flags := 0x01#8 } &&
        t.owc.attempt == 1 && t.owc.policy == defaultPolicy && t.owc.roles == { a := .owner, b := .sharer }) = true := by
  decide +kernel

/-- Section 3.4.1, third row. -/
theorem test_policy_notOwner :
    gives (.policy .b)
      (testHead .b (.policy 9#16 7#16 defaultPolicy) testOwned)
      (fun t => t.owc == testOwned.owc && t.pif.b.outbound == [.reply 9#16 .notOwner 0#16 7#16]) = true := by
  decide +kernel

/-! ## Faults, notices and inspection -/

/-- Section 9.3.1, first row: the cursor moves past the index read. -/
theorem test_inspectSet_header :
    gives (.inspectSet .b)
      (testHead .b (.inspect 1#16 0#8 5#8 0#16) testIdle)
      (fun t => t.fnu.cursors.b == { table := 5, index := 1 } && t.pif.b.outbound.length == 1) = true := by
  decide +kernel

/-- Section 9.3.1, last row: NEXT beyond an emptied table answers END and the cursor holds. -/
theorem test_inspectNext_end :
    gives (.inspectNext .b)
      (testHead .b (.inspect 1#16 1#8 0#8 0#16)
        { testIdle with fnu := { testIdle.fnu with cursors := { a := { table := 0, index := 0 }, b := { table := 5, index := 6 } } } })
      (fun t => t.fnu.cursors.b == { table := 5, index := 6 } &&
        t.pif.b.outbound == [.record 1#16 .endOfTable 5#8 6#16 []]) = true := by
  decide +kernel

/-- R184. -/
theorem test_inspectBadMode :
    gives (.inspectBadMode .b)
      (testHead .b (.inspect 1#16 2#8 5#8 0#16) testIdle)
      (fun t => t.fnu == testIdle.fnu && t.pif.b.outbound == [.record 1#16 .badOp 5#8 0#16 []]) = true := by
  decide +kernel

/-- Section 9.3.1: mask 0046h clears MEDIA_ERROR, DATA_LOSS and ORPHANS in B's copy alone. -/
theorem test_clear_flags :
    gives (.clearFaultFlags .b)
      (testHead .b (.clear 1#16 0#8 0x0046#16)
        { testIdle with fnu := { testIdle.fnu with flags := { a := 0x046#9, b := 0x046#9 } } })
      (fun t => t.fnu.flags == { a := 0x046#9, b := 0#9 } && t.pif.b.outbound == [.reply 1#16 .ok 0#16 7#16]) = true := by
  decide +kernel

/-- R92, R182: the owner empties the list and its counter. -/
theorem test_clear_orphans :
    gives (.clearOrphanList .a)
      (testHead .a (.clear 1#16 1#8 0#16)
        { testOwned with
          owc := { testOwned.owc with dropped := 2, orphans := [(testEntry 0 .b 2#16 .read 1 1 1).orphan .readCut] } })
      (fun t => t.owc.orphans == [] && t.owc.dropped == 0 && t.pif.a.outbound == [.reply 1#16 .ok 0#16 7#16]) = true := by
  decide +kernel

/-- R182: a non-owner in OWNED is refused. -/
theorem test_clear_orphans_refused :
    gives (.clearOrphanList .b)
      (testHead .b (.clear 1#16 1#8 0#16) { testOwned with owc := { testOwned.owc with dropped := 2 } })
      (fun t => t.owc.dropped == 2 && t.pif.b.outbound == [.reply 1#16 .notOwner 0#16 7#16]) = true := by
  decide +kernel

/-- R181. -/
theorem test_clear_badTarget :
    gives (.clearBadTarget .b)
      (testHead .b (.clear 1#16 2#8 0x1FF#16)
        { testIdle with fnu := { testIdle.fnu with flags := { a := 1#9, b := 1#9 } } })
      (fun t => t.fnu.flags == { a := 1#9, b := 1#9 } && t.pif.b.outbound == [.reply 1#16 .badTable 0#16 7#16]) = true := by
  decide +kernel

/-- R183: bits 0 to 8 are taken. -/
theorem test_notifyMask :
    gives (.notifyMask .a)
      (testHead .a (.notifyMask 1#16 0xFE80#16) testIdle)
      (fun t => t.fnu.masks == { a := 0x080#9, b := 0x17F#9 } && t.pif.a.outbound == [.reply 1#16 .ok 0#16 7#16]) = true := by
  decide +kernel

/-- R193, R68, R135, R170: the soft reset of a part with one entry. -/
theorem test_deviceReset_soft :
    gives (.deviceReset .a)
      (testHead .a (.deviceReset 1#16 7#16)
        { testTable [testEntry 0 .a 21#16 .write 100 4 20] testFenced with
          hmon := testIdle.hmon, owc := { testOwned.owc with policy := defaultPolicy } })
      (fun t => t.owc.state == .loading && t.owc.epoch == 7#16 && t.ift == [] && t.fnu.resetCause == .soft &&
        t.owc.orphans.map (fun r => (r.tag, r.outcome)) == [(21#16, .resetCut)] && t.pif.a.outbound == [.flagNotice .orphans, .flagNotice .driveReset]) = true := by
  decide +kernel

/-- Section 10.4: B's DEVICE_RESET is refused NOT_OWNER in OWNED. -/
theorem test_deviceReset_refused :
    gives (.deviceReset .b)
      (testHead .b (.deviceReset 1#16 7#16) testOwned)
      (fun t => t.owc == testOwned.owc && t.pif.b.outbound == [.reply 1#16 .notOwner 0#16 7#16]) = true := by
  decide +kernel

/-! ## Outbound frames and timers -/

/-- R12. -/
theorem test_waitingFrame_enters :
    gives (.waitingFrameEntry .a)
      (testIdle.onPif .a (fun f => { f with
        waiting := [{ producer := .owc, item := { frame := .flagNotice .frozen, tie := .plain } }] }))
      (fun t => t.pif.a.waiting == [] && t.pif.a.outbound == [.flagNotice .frozen]) = true := by
  decide +kernel

/-- R13: HOLD goes before the transmit queue. -/
theorem test_frameTransmitted_order :
    gives (.frameTransmitted .a)
      (testIdle.onPif .a (fun f => { f with
        sending := some { source := .queue, item := { frame := .flagNotice .frozen, tie := .plain } }
        txq := [{ frame := .flagNotice .orphans, tie := .plain }], flowWaiting := some .hold }))
      (fun t => t.pif.a.sent == [.flagNotice .frozen] && t.pif.a.outbound == [.hold, .flagNotice .orphans]) = true := by
  decide +kernel

/-- R131: the block at offset d = 0 is offered, and no other. -/
theorem test_readDataOffer :
    gives (.readDataOffer .b)
      (testTable [{ testEntry 0 .b 7#16 .read 5 2 1 with issued := 2, fetched := 2, frontier := 2 }]
        { testIdle with stb := { testIdle.stb with pages := [{ number := 0, path := .b, slot := some 0, offset := 0, state := .fetched }, { number := 1, path := .b, slot := some 0, offset := 1, state := .fetched }] } })
      (fun t => t.pif.b.sending.map (fun x => x.item.tie) == some (.block 0 1 0) && t.pif.b.txq == []) = true := by
  decide +kernel

/-- Section 4.1.1: the seventh missed window takes the score to 224, LOST, and GRACE begins. -/
theorem test_window_miss_lost :
    gives (.pulseWindowExpiry .a)
      { testOwned with hmon := { testOwned.hmon with a := { testLost with score := 192, health := .doubtful } } }
      (fun t => t.hmon.a.score == 224 && t.hmon.a.health == .lost && t.owc.state == .grace && t.owc.graceTimer == some 500) = true := by
  decide +kernel

/-- Section 4.1.1, case 2: a miss takes 224 to 255, saturating. -/
theorem test_window_saturates :
    gives (.pulseWindowExpiry .a)
      testGrace
      (fun t => t.hmon.a.score == 255 && t.owc.state == .grace) = true := by
  decide +kernel

/-- R71, R75, R87: A is fenced, and with nothing in flight the drain ends with B as successor. -/
theorem test_graceExpiry_fences :
    gives .graceExpiry
      testGrace
      (fun t => t.role .a == .fenced && t.owc.drainCause == some .loss && t.owc.state == .committing &&
        t.owc.successor == some (some .b)) = true := by
  decide +kernel

/-- R82, R76: a write with nothing issued ends NOT_STARTED. -/
theorem test_stage1_fences :
    gives .drainStage1Expiry
      (testDrain .cooperative .release none .releasing)
      (fun t => t.role .a == .fenced && t.owc.drainStage == some .fenced && t.owc.drainCause == some .release && t.ift == [] &&
        t.owc.orphans.map (fun r => r.outcome) == [.notStarted]) = true := by
  decide +kernel

/-- R83: a drive reset is requested, and stage 3 begins. -/
theorem test_stage2_resets :
    gives .drainStage2Expiry
      (testDrain .fenced .forced (some .b) .fenced)
      (fun t => t.dpt.state == .resetting && t.owc.drainStage == some .resetDone && t.owc.drainTimer == some 2000) = true := by
  decide +kernel

/-- R85: the entries of the drained path end DRIVE_STALL. -/
theorem test_stage3_ends :
    gives .drainStage3Expiry
      (testDrain .resetDone .forced (some .b) .fenced)
      (fun t => t.owc.drainTimer == none && t.ift == []) = true := by
  decide +kernel

/-! ## The part's own steps and the drive -/

/-- R80, R87, R88. -/
theorem test_drainEnd_commits :
    gives .drainEnd
      { testDrain .fenced .forced (some .b) .fenced with ift := [] }
      (fun t => t.owc.state == .committing && t.owc.purpose == some .forced && t.owc.successor == some (some .b) &&
        t.owc.drainTimer == none) = true := by
  decide +kernel

/-- R54: the transition that waited for a POLICY commit begins its own. -/
theorem test_waitingTransition_begins :
    gives .waitingTransition
      { testIdle with owc := { testIdle.owc with state := .committing, successor := some (some .b), waitingTransition := some .claim } }
      (fun t => t.owc.contents == some { owner := some .b, epoch := 8#16, count := 42#32, policy := defaultPolicy } &&
        t.owc.waitingTransition == none) = true := by
  decide +kernel

/-- R59, R60, R164: the load reads LBA Cd-8 in the reserved slot. -/
theorem test_loadBegin_reads :
    gives .loadBegin
      testLoading
      (fun t => t.dpt.requests == [.read 3 1999992 1 [255]] && t.owc.attempt == 1) = true := by
  decide +kernel

/-- R164 and section 8.7.1: attempt 2 goes into the reserved slot. -/
theorem test_reservedOperation_issues :
    gives .reservedOperationIssue
      { testIdle with
        owc := { testIdle.owc with state := .committing, attempt := 2 }, dpt := { testDrive with request := some .commit } }
      (fun t => t.dpt.busy == [{ slot := 3, holder := .blockOp .commit 2, timer := 8000 }] && t.dpt.request == none) = true := by
  decide +kernel

/-- Section 6.8.1, first row: 16 blocks staged go as one segment in d0. -/
theorem test_segmentIssue_write :
    gives .segmentIssue
      (testTable [{ testEntry 0 .a 100#16 .write 1000 40 70 with staged := 16 }] testOwned)
      (fun t => t.dpt.busy == [{ slot := 0, holder := .segment 0 0 16 .write, timer := 8000 }] &&
        t.ift.map (fun e => (e.issued, e.frontier)) == [(16, 16)]) = true := by
  decide +kernel

/-- Section 6.8.1, second row: four pages are granted, and the segment goes. -/
theorem test_readGrant_pages :
    gives .readGrant
      (testTable [{ testEntry 2 .b 201#16 .read 1040 4 72 with phase := .running }]
        { testIdle with stb := { testIdle.stb with grants := [{ slot := 2, path := .b, age := 72, length := 4 }] } })
      (fun t => t.dpt.busy == [{ slot := 0, holder := .segment 2 0 4 .read, timer := 8000 }] && t.stb.pages.length == 4 &&
        t.stb.grants == []) = true := by
  decide +kernel

/-- The write of section 6.8.1 with 32 blocks staged and two segments at the drive, in slots 0 and 1 (the lowest free slot
of R162). -/
def testWriting : State :=
  { testTable
      [{ testEntry 0 .a 100#16 .write 1000 40 70 with
         staged := 32, issued := 32, frontier := 32
         outstanding := [{ driveSlot := 0, offset := 0, length := 16 }, { driveSlot := 1, offset := 16, length := 16 }] }]
      testOwned with
    dpt := { testDrive with
      busy := [{ slot := 0, holder := .segment 0 0 16 .write, timer := 8000 },
        { slot := 1, holder := .segment 0 16 16 .write, timer := 8000 }] } }

/-- Section 6.8.1: PARTIAL with done 5 commits five blocks, and the returned range (21, 11) is issued again. -/
theorem test_completion_partial :
    gives (.pathSlotCompletion 1 .partialDone 5#16 [])
      testWriting
      (fun t => t.ift.map (fun e => (e.staged, e.issued, e.committed, e.reissue)) == [(32, 32, 5, 0)] &&
        t.dpt.busy.map (fun b => b.holder) == [.segment 0 0 16 .write, .segment 0 21 11 .write]) = true := by
  decide +kernel

/-- R165: a record for a free slot halts the drive. -/
theorem test_completion_violation :
    gives (.pathSlotCompletion 2 .good 1#16 [])
      testWriting
      (fun t => t.dpt.state == .halted && t.dpt.cause == .violation && t.owc.state == .frozen) = true := by
  decide +kernel

/-- R128: REPLY OK with done 2. -/
theorem test_entryRemoval_reports :
    gives (.entryRemoval 0)
      (testTable [{ testEntry 0 .a 1#16 .write 10 2 1 with phase := .ending, committed := 2, staged := 2, issued := 2, endStatus := some .ok }]
        testOwned)
      (fun t => t.ift == [] && t.pif.a.outbound == [.reply 1#16 .ok 2#16 7#16]) = true := by
  decide +kernel

/-- Section 3.8.1: Commit GOOD. -/
theorem test_commit_good :
    gives (.reservedSlotCompletion .good 1#16 [])
      { testIdle with
        owc := { testIdle.owc with
          state := .committing, successor := some (some .a), purpose := some .claim, attempt := 1, epoch := 0#16
          commitCount := 0#32, owedReplies := [{ path := .a, tag := 3#16, purpose := .claim }]
          contents := some { owner := some .a, epoch := 1#16, count := 1#32, policy := defaultPolicy } }
        dpt := { testDrive with busy := [{ slot := 3, holder := .blockOp .commit 1, timer := 8000 }] } }
      (fun t => t.owc.state == .owned && t.owc.owner == some .a && t.owc.roles == { a := .owner, b := .sharer } &&
        t.pif.a.outbound == [.ownershipNotice 1#16 (some .a) .owner 1#32, .reply 3#16 .ok 0#16 1#16] &&
        t.pif.b.outbound == [.ownershipNotice 1#16 (some .a) .sharer 1#32]) = true := by
  decide +kernel

/-- Section 3.8.1, first row: a blank block. -/
theorem test_load_blank :
    gives (.reservedSlotCompletion .good 1#16 [])
      { testLoading with
        owc := { testLoading.owc with attempt := 1 }
        dpt := { testDrive with busy := [{ slot := 3, holder := .blockOp .load 1, timer := 8000 }] } }
      (fun t => t.owc.state == .unowned && t.owc.epoch == 0#16 && t.owc.history.map (fun h => h.cause) == [.start] &&
        t.pif.a.outbound == [.ownershipNotice 0#16 none .sharer 0#32]) = true := by
  decide +kernel

/-- IDENTIFYING, with the IDENTIFY in slot 0. -/
def testIdentifying : State :=
  { testIdle with
    dpt := { testDrive with state := .identifying, busy := [{ slot := 0, holder := .identify, timer := 8000 }] } }

/-- Section 8.7.2: the identify reports Cd 1,000,000. -/
theorem test_identify_changed :
    gives (.identifyCompletion .good 0#16 1000000#48 4096 4)
      testIdentifying
      (fun t => t.dpt.state == .failed && t.dpt.cause == .changed && t.owc.state == .frozen && t.owc.epoch == 7#16 &&
        t.reportedCapacity == 1999992) = true := by
  decide +kernel

/-- Section 8.7.2: the replacement, with n = 8 and Cr 2,999,992, takes OWC to LOADING. -/
theorem test_identify_replaced :
    gives (.identifyCompletion .good 0#16 3000000#48 4096 16)
      { testIdentifying with
        owc := { testFrozen.owc with frozenCause := some .drive }, dpt := { testIdentifying.dpt with referenceMark := false } }
      (fun t => t.dpt.state == .ready && t.dpt.slotCount == 8 && t.reportedCapacity == 2999992 && t.owc.state == .loading) = true := by
  decide +kernel

/-- R158. -/
theorem test_identifyTimeout_resets :
    gives .identifyTimeout
      testIdentifying
      (fun t => t.dpt.state == .resetting && t.dpt.identifyFailures == 1 && t.dpt.requests == [.reset]) = true := by
  decide +kernel

/-- Section 8.7.1: the reset returns each segment, and counts once against the entry. -/
theorem test_slotTimeout_resets :
    gives (.slotTimeout 1)
      testWriting
      (fun t => t.dpt.state == .resetting && t.dpt.busy == [] && t.dpt.resetTimer == some 30000 &&
        t.ift.map (fun e => (e.issued, e.reissue, e.returned)) == [(0, 1, [{ offset := 0, length := 16 }, { offset := 16, length := 16 }])] &&
        hasFlag t.fnu.flags.a .driveReset) = true := by
  decide +kernel

/-- R158, R172. -/
theorem test_readyIndication_identifies :
    gives .readyIndication
      { testIdle with dpt := { testDrive with state := .resetting, resetTimer := some 30000 } }
      (fun t => t.dpt.state == .identifying && t.dpt.requests == [.identify] && t.dpt.resetTimer == none) = true := by
  decide +kernel

/-- R172. -/
theorem test_resetTimeout_fails :
    gives .resetTimeout
      { testIdle with dpt := { testDrive with state := .resetting, resetTimer := some 30000 } }
      (fun t => t.dpt.state == .failed && t.dpt.cause == .noReady && t.owc.frozenCause == some .drive) = true := by
  decide +kernel

/-- Section 8.7.2: DRV_PRESENT falls, the identity kept. -/
theorem test_present_falls :
    gives .drvPresentFall
      testOwned
      (fun t => t.dpt.state == .absent && !t.dpt.referenceMark && t.owc.state == .frozen && t.owc.owner == none && t.reportedCapacity == 1999992) = true := by
  decide +kernel

/-- Section 8.7.2: DRV_PRESENT rises. -/
theorem test_present_rises :
    gives .drvPresentRise
      { testFrozen with dpt := { testDrive with state := .absent, present := false, referenceMark := false } }
      (fun t => t.dpt.state == .identifying && t.dpt.present && t.owc.state == .frozen && t.dpt.requests == [.identify]) = true := by
  decide +kernel

/-- A step takes the command at the front of the queue and leaves the rest. -/
theorem test_step_takes_front :
    (match step { testIdle with pending := [.hold .a, .go .a] } with
      | .next t => t.pif.a.serverHold && t.pending == [.go .a]
      | _ => false) = true := by
  decide +kernel

/-- No row of the table gives bits, so no word spells a command. -/
theorem test_decode_none : decodeTableWord 8 0 = none := by decide +kernel

/-- R33: a WRITE_DATA complete before carrier loss and unmatched after it leaves the score at 255 and sets LINK_ERROR. -/
theorem test_writeData_after_loss :
    gives (.writeData .a 9#16 0#16 [])
      State.reset
      (fun t => t.hmon.a == Hmon.reset && hasFlag t.fnu.flags.a .linkError && !hasFlag t.fnu.flags.b .linkError) = true := by
  decide +kernel

/-- R18: the kind of an outbound HOLD is marked and nothing else is; its check is the sum 0070h. -/
theorem test_outbound_marker :
    outCharacters .hold = [(true, 0x70#8), (false, 0#8), (false, 0#8), (false, 0#8), (false, 0x70#8)] := by
  decide +kernel

/-- R113, R146: right after the acceptance of a READ nothing of it is issued, and its request for pages has been granted. -/
theorem test_commandRead_issues_nothing :
    gives (.commandRead .a)
      (testHead .a (.command 8#16 7#16 1#8 0#8 10#48 1#16) testOwned)
      (fun t => t.dpt.busy == [] && t.ift.map (fun e => e.outstanding) == [[]] &&
        t.stb.grants == [] && t.ift.map (fun e => e.readGrant) == [some 1]) = true := by
  decide +kernel

/-! ## States and operands that meet the hypotheses of the statements -/

def testFlags : State :=
  { testIdle with fnu := { testIdle.fnu with flags := { a := 0x001#9, b := 0#9 } } }

def testAssembling (a : Assembler) : State :=
  testIdle.onPif .a (fun f => { f with assembler := a, gapTimer := some 64 })

def testReturn : State :=
  { testGrace with
    pif := { a := Pif.reset, b := testUp }
    hmon := { a := Hmon.reset, b := testWell }
    owc := { testGrace.owc with
      policy := { defaultPolicy with doubtLo := 192#8, doubtHi := 200#8 }, roles := { a := .owner, b := .sharer } } }

def testFull : State :=
  testIdle.onPif .a (fun f => { f with rxq := List.replicate 16 (.rejoin 1#16 7#16) })

def testFuller : State :=
  testFull.onPif .a (fun f => { f with
    sending := some { source := .flow, item := { frame := .hold, tie := .plain } }
    txq := List.replicate 32 { frame := .flagNotice .frozen, tie := .plain } })

def testPostedEntry : Entry :=
  { testEntry 0 .a 21#16 .write 100 2 20 with posted := true, staged := 1 }

def testPosted : State :=
  testTable [testPostedEntry] testOwned

/-- Path A at its quota of 16 pages. -/
def testOverrun : State :=
  { testPosted with
    owc := { testPosted.owc with policy := { defaultPolicy with quotaA := 16#8 } }
    stb := { testPosted.stb with
      pages := (List.range 16).map
        (fun n => { number := n, path := .a, slot := some 0, offset := n, state := .staged }) } }

def testHeads : State :=
  testHead .b (.rejoin 6#16 7#16) (testHead .a (.rejoin 6#16 7#16) testIdle)

/-- Path A at its limit of one entry. -/
def testLimit : State :=
  { testTable [testEntry 0 .a 21#16 .write 100 4 20] testIdle with
    owc := { testIdle.owc with policy := { defaultPolicy with maxEntries := 1#8 } } }

def testAccept : State :=
  testHead .a (.command 8#16 7#16 2#8 0#8 10#48 1#16) testOwned

def testAcceptFailed : State :=
  testHead .a (.command 8#16 7#16 1#8 0#8 10#48 1#16)
    { testFrozen with dpt := { testDrive with state := .failed, cause := .changed } }

/-- UNOWNED with a POLICY commit in flight. -/
def testPolicyCommit : State :=
  { testIdle with
    owc := { testIdle.owc with
      purpose := some .policy, attempt := 1, pendingPolicy := some defaultPolicy
      contents := some { owner := none, epoch := 7#16, count := 42#32, policy := defaultPolicy } }
    dpt := { testDrive with busy := [{ slot := 3, holder := .blockOp .commit 1, timer := 8000 }] } }

/-- A claim of Path A being committed. -/
def testClaimCommit : State :=
  { testPolicyCommit with
    owc := { testPolicyCommit.owc with
      state := .committing, successor := some (some .a), purpose := some .claim, pendingPolicy := none
      contents := some { owner := some .a, epoch := 8#16, count := 42#32, policy := defaultPolicy } } }

/-- Path A is DOUBTFUL. -/
def testSick : State :=
  { testIdle with hmon := { a := { testWell with score := 100, health := .doubtful }, b := testWell } }

def testFencedSick : State :=
  { testSick with owc := testFenced.owc }

def testForce : State :=
  { testOwned with owc := { testOwned.owc with policy := { defaultPolicy with flags := 0x07#8 } } }

/-- Path B's transmit queue is full, and 16 of its answers wait. -/
def testNoRoom : State :=
  testIdle.onPif .b (fun f => { f with
    txq := List.replicate 32 { frame := .flagNotice .frozen, tie := .plain }
    waiting := List.replicate 16 { producer := .fnuAnswer, item := { frame := .flagNotice .frozen, tie := .plain } } })

def testAbsent : State :=
  { testFrozen with dpt := { testDrive with state := .absent, present := false, referenceMark := false } }

def testResetting : State :=
  { testIdle with dpt := { testDrive with state := .resetting, resetTimer := some 30000 } }

def testSegmentEntry : Entry :=
  { testEntry 0 .a 100#16 .write 1000 40 70 with staged := 16 }

/-- Pages of an entry at consecutive offsets, numbered from `first` on. -/
def testRun (first : Nat) (p : Path) (slot offset n : Nat) (state : PageState) : List PageRecord :=
  (List.range n).map (fun i => { number := first + i, path := p, slot := some slot, offset := offset + i, state := state })

/-- An older read that has no grant, with a request, and a write with a segment to issue. -/
def testSegment : State :=
  { testTable [testEntry 2 .b 201#16 .read 1040 4 60, testSegmentEntry] testOwned with
    stb := { testOwned.stb with pages := testRun 0 .a 0 0 16 .staged } }

/-- A read with two returned ranges and a grant. -/
def testReturnedEntry : Entry :=
  { testEntry 1 .b 7#16 .read 500 20 8 with
    issued := 4, frontier := 9, returned := [{ offset := 2, length := 3 }, { offset := 6, length := 2 }]
    readGrant := some 4 }

def testReturned : State :=
  { testTable [testReturnedEntry] testOwned with
    stb := { testOwned.stb with pages := testRun 10 .b 1 2 11 .granted } }

/-- A read with no returned range and a grant of three pages at its frontier. -/
def testGrantedEntry : Entry :=
  { testReturnedEntry with returned := [], readGrant := some 3 }

def testGranted : State :=
  { testTable [testGrantedEntry] testOwned with
    stb := { testOwned.stb with pages := testRun 20 .b 1 9 3 .granted } }

def testGrantRequest : GrantRequest :=
  { slot := 2, path := .b, age := 72, length := 4 }

def testGrant : State :=
  testTable [testEntry 2 .b 201#16 .read 1040 4 72]
    { testResetting with stb := { testIdle.stb with grants := [testGrantRequest] } }

def testFetchedEntry : Entry :=
  { testEntry 0 .b 7#16 .read 5 2 1 with issued := 2, fetched := 2, frontier := 2 }

def testFetched : State :=
  testTable [testFetchedEntry]
    { testIdle with
      stb := { testIdle.stb with
        pages := [{ number := 0, path := .b, slot := some 0, offset := 0, state := .fetched },
          { number := 1, path := .b, slot := some 0, offset := 1, state := .fetched }] } }

def testBlock : TxItem :=
  { frame := .readData 7#16 0#16 [], tie := .block 0 1 0 }

def testSending : State :=
  testFetched.onPif .b (fun f => { f with sending := some { source := .queue, item := testBlock } })

def testWaiting (producer : Producer) : State :=
  testIdle.onPif .a (fun f => { f with waiting := [{ producer := producer, item := testBlock }] })

def testEndedEntry : Entry :=
  { testEntry 0 .a 1#16 .write 10 2 1 with
    phase := .ending, committed := 2, staged := 2, issued := 2, endStatus := some .ok }

def testEnded : State :=
  testTable [testEndedEntry] testOwned

def testWritingEntry : Entry :=
  { testEntry 0 .a 100#16 .write 1000 40 70 with
    staged := 32, issued := 32, frontier := 32
    outstanding := [{ driveSlot := 0, offset := 0, length := 16 }, { driveSlot := 1, offset := 16, length := 16 }] }

def testLoad : State :=
  { testLoading with
    owc := { testLoading.owc with attempt := 1 }
    dpt := { testDrive with busy := [{ slot := 3, holder := .blockOp .load 1, timer := 8000 }] } }

/-- A block whose last commit was of owner A at epoch 9 and commit count 12 (section 10.1.1). -/
def testBlockOfA : List Byte :=
  readPage (fillOwnershipPage { owner := some .a, epoch := 9#16, count := 12#32, policy := defaultPolicy } [])
    Config.ownershipPage

/-- Path A under a quota of 16 pages, whose hold_hi is 1 and hold_lo is 0, with a number of pages and its part-hold flag. -/
def testPages (n : Nat) (hold : Bool) : State :=
  { testOverrun with
    pif := { a := { testUp with partHold := hold }, b := testUp }
    stb := { testOverrun.stb with pages := testOverrun.stb.pages.take n } }

/-- Path A under the same quota with no page, its HOLD still waiting behind a frame in transmission. -/
def testHoldNotBegun (held : Bool) : State :=
  (testPages 0 true).onPif .a (fun f =>
    { f with
      flowWaiting := some .hold, heldServer := held
      sending := some { source := .queue, item := { frame := .flagNotice .frozen, tie := .plain } } })

/-- The flow position of Path A right after a request for GO, and what follows the frame in transmission. -/
def testFlowAfterGo (held : Bool) : Option OutFrame × Option Sending :=
  let t := testGo .a (testHoldNotBegun held)
  ((t.pif.get .a).flowWaiting,
    match exec (.frameTransmitted .a) t with
    | .next u => (u.pif.get .a).sending
    | _ => none)

/-- R151: of a HOLD not yet begun and the GO that replaces it, the server sees neither. -/
theorem test_goReplacesHold : testFlowAfterGo false = (none, none) := by
  decide +kernel

/-- R16: a GO that replaces a HOLD not yet begun is sent to a server that still holds by an earlier HOLD. -/
theorem test_goReleasesServer :
    testFlowAfterGo true = (some .go, some { source := .flow, item := { frame := .go, tie := .plain } }) := by
  decide +kernel

/-- The next block of Path A brings its occupancy to hold_hi, which is 1. -/
def testHoldNext : State :=
  { testPosted with owc := { testPosted.owc with policy := { defaultPolicy with quotaA := 17#8 } } }

def testCutEntry : Entry :=
  { testPostedEntry with cut := true }

/-- Path A's link is DOWN, with an entry that carrier loss has cut. -/
def testCut (role : Role) : State :=
  testTable [testCutEntry]
    { testOwned with
      pif := { a := Pif.reset, b := testUp }
      owc := { testOwned.owc with roles := { a := role, b := .sharer } } }

def testLastItem : TxItem :=
  { frame := .readData 7#16 1#16 [], tie := .block 0 1 1 }

def testLastEntry : Entry :=
  { testFetchedEntry with delivered := 1 }

/-- The last of a read's two blocks is being sent. -/
def testLastBlock : State :=
  { testTable [testLastEntry] testFetched with
    stb := { testFetched.stb with pages := [{ number := 1, path := .b, slot := some 0, offset := 1, state := .fetched }] } }
    |>.onPif .b (fun f => { f with sending := some { source := .queue, item := testLastItem } })

def testStalledEntry : Entry :=
  { testFetchedEntry with phase := .ending, endStatus := some .driveStall }

/-- The first of two fetched blocks of a stalled read is being sent. -/
def testStalled : State :=
  testTable [testStalledEntry] testSending

/-- The only fetched block of a stalled read is being sent. -/
def testStalledShort : State :=
  { testStalled with stb := { testStalled.stb with pages := testStalled.stb.pages.take 1 } }

def testEndedAs (e : Entry) : State :=
  testTable [e] testOwned

def testReadingEntry : Entry :=
  { testEntry 0 .b 7#16 .read 5 4 1 with
    issued := 2, frontier := 2, outstanding := [{ driveSlot := 0, offset := 0, length := 2 }] }

/-- A segment of two blocks of a read is at the drive. -/
def testReading : State :=
  testTable [testReadingEntry]
    { testIdle with
      stb := { testIdle.stb with
        pages := [{ number := 3, path := .b, slot := some 0, offset := 0, state := .atDrive },
          { number := 4, path := .b, slot := some 0, offset := 1, state := .atDrive }] }
      dpt := { testDrive with busy := [{ slot := 0, holder := .segment 0 0 2 .read, timer := 8000 }] } }

def testFlushEntry : Entry :=
  { testEntry 0 .b 7#16 .flush 0 0 1 with outstanding := [{ driveSlot := 0, offset := 0, length := 0 }] }

def testFlushing : State :=
  testTable [testFlushEntry]
    { testIdle with dpt := { testDrive with busy := [{ slot := 0, holder := .segment 0 0 0 .flush, timer := 8000 }] } }

/-- A load in flight while Path A is LOST. -/
def testLoadLost : State :=
  { testLoad with hmon := { a := testLost, b := testWell } }

/-- IDENTIFYING with an ownership record, and a commit that waits for READY. -/
def testIdentifyingAs (o : Owc) : State :=
  { testIdentifying with owc := o, dpt := { testIdentifying.dpt with request := some .commit } }

/-- A queue with a command at its front, and an empty one. -/
theorem witness_stepRunsFrontCommand :
    { testIdle with pending := [.hold .a, .go .a] }.pending = .hold .a :: [.go .a] ∧
    testIdle.pending = [] := by
  decide +kernel

/-- DRV_PRESENT high and low. -/
theorem witness_powerUpAndPinReset :
    testIdle.dpt.present = true ∧
    { testIdle with dpt := { testDrive with present := false } }.dpt.present = false := by
  decide +kernel

/-- A FENCED path and a command that is none of those excepted. -/
theorem witness_fencedUntilRejoin :
    testFenced.role .a = .fenced ∧
    Instr.hold .a ≠ .rejoin .a ∧
    Instr.hold .a ≠ .pinReset ∧
    Instr.hold .a ≠ .powerOnReset true ∧
    Instr.hold .a ≠ .powerOnReset false ∧
    gives (.hold .a) testFenced (fun _ => true) = true := by
  decide +kernel

/-- The pulse of section 1.1.1. -/
theorem witness_frameCharactersReachRoute :
    testIdle.linkUp .a = true ∧
    (testIdle.pif.get .a).assembler = .idle ∧
    decodeFrame 0x50#8 [0#8, 7#8, 0x2A#8] = some (.pulse 7#16 0x2A#8) := by
  decide +kernel

/-- The default thresholds, 32, 96 and 224, with a score at each side of each, and sums at each side of 255. -/
theorem witness_healthEvaluationTable :
    thresholdsOrdered defaultPolicy = true ∧
    defaultPolicy.lostAt.toNat ≤ 224 ∧
    (defaultPolicy.doubtHi.toNat ≤ 223 ∧ 223 < defaultPolicy.lostAt.toNat) ∧
    (defaultPolicy.doubtHi.toNat ≤ 96 ∧ 96 < defaultPolicy.lostAt.toNat) := by
  decide +kernel

/-- The default thresholds, 32, 96 and 224, with a score at each side of each, and sums at each side of 255. -/
theorem witness_healthEvaluationTable_rest :
    95 < defaultPolicy.doubtHi.toNat ∧
    32 ≤ defaultPolicy.doubtLo.toNat ∧
    (defaultPolicy.doubtLo.toNat < 33 ∧ 33 < defaultPolicy.lostAt.toNat) ∧
    247 + 8 ≤ 255 ∧
    255 < 248 + 8 := by
  decide +kernel

/-- The default quota and margin, and the smallest quota with the largest margin. -/
theorem witness_stagingThresholds :
    (16 ≤ quotaOf defaultPolicy .a ∧ 1 ≤ defaultPolicy.holdMargin.toNat) ∧
    16 ≤ quotaOf { defaultPolicy with quotaB := 16#8, holdMargin := 223#8 } .b ∧
    effectiveMargin { defaultPolicy with quotaB := 16#8, holdMargin := 223#8 } .b =
      quotaOf { defaultPolicy with quotaB := 16#8, holdMargin := 223#8 } .b - 1 := by
  decide +kernel

/-- A flag set and a flag clear, its mask bit set and clear. -/
theorem witness_flagRaisedInOneCopy :
    hasFlag (testFlags.fnu.flags.get .a) .driveReset = true ∧
    (hasFlag (testFlags.fnu.flags.get .a) .frozen = false ∧ hasFlag (testFlags.fnu.masks.get .a) .frozen = true ∧
      testFlags.linkUp .a = true) ∧
    (hasFlag (testFlags.fnu.flags.get .a) .linkError = false ∧ hasFlag (testFlags.fnu.masks.get .a) .linkError = false) := by
  decide +kernel

/-- Each state of the assembler: the greatest length, the last payload byte and the first check byte. -/
theorem witness_charactersJoinFrame :
    (testIdle.linkUp .a = true ∧ (testIdle.pif.get .a).assembler = .idle) ∧
    ((testAssembling (.length 0x50#8 none 0x50#16)).pif.get .a).assembler = .length 0x50#8 none 0x50#16 ∧
    ((testAssembling (.length 0x44#8 (some 0x10#8) 0#16)).pif.get .a).assembler = .length 0x44#8 (some 0x10#8) 0#16 ∧
      (0x10#8).toNat * 256 + (0x04#8).toNat ≤ 4100 ∧
    ((testAssembling (.body 0x50#8 3 [0#8, 7#8] 0#16)).pif.get .a).assembler = .body 0x50#8 3 [0#8, 7#8] 0#16 ∧
      [0#8, 7#8].length < 3 ∧
    ((testAssembling (.body 0x50#8 2 [0#8, 7#8] 0#16)).pif.get .a).assembler = .body 0x50#8 2 [0#8, 7#8] 0#16 ∧
      [0#8, 7#8].length = 2 ∧
    (testAssembling .idle).linkUp .a = true ∧
    State.reset.linkUp .a = false := by
  decide +kernel

/-- A frame in assembly for each cause: a length of 4101, a wrong check, and a right check of a kind no server sends. -/
theorem witness_linkErrorsDiscardFrame :
    (testAssembling (.length 0x44#8 (some 0x10#8) 0#16)).linkUp .a = true ∧
      ((testAssembling (.length 0x44#8 (some 0x10#8) 0#16)).pif.get .a).assembler ≠ .idle ∧
      ((testAssembling (.length 0x44#8 (some 0x10#8) 0#16)).pif.get .a).gapTimer.isSome = true ∧
    4100 < (0x10#8).toNat * 256 + (0x05#8).toNat ∧
    ((testAssembling (.body 0x52#8 0 [0#8] 0x52#16)).pif.get .a).assembler = .body 0x52#8 0 [0#8] 0x52#16 ∧
      [0#8].length = 0 + 1 ∧
    beNat (([0#8] ++ [0x53#8]).drop 0) ≠ (0x52#16).toNat ∧
    (beNat (([0#8] ++ [0x52#8]).drop 0) = (0x52#16).toNat ∧ decodeFrame 0x52#8 ([0#8].take 0) = none) ∧
    evaluate testIdle.owc.policy (testIdle.hmon.get .a).health
      (raiseScore (testIdle.hmon.get .a).score testIdle.owc.policy.linkWeight.toNat) = (testIdle.hmon.get .a).health := by
  decide +kernel

/-- An UP link whose path is HEALTHY and not FENCED, before and after, with an entry; and a DOWN link. -/
theorem witness_carrierLossTaken :
    testWriting.linkUp .b = true ∧
    (testWriting.hmon.get .b).health ≠ .lost ∧
    TableInv testWriting ∧
    testWriting.role .b ≠ .fenced ∧
    gives (.carrierLoss .b) testWriting (fun t => t.role .b != .fenced) = true ∧
    State.reset.linkUp .a = false := by
  unfold TableInv
  decide +kernel

/-- A DOWN link; the same with doubt_lo 192 for the owner in GRACE; and an UP link. -/
theorem witness_carrierReturnTaken :
    State.reset.linkUp .a = false ∧
    (testReturn.linkUp .a = false ∧ 192 ≤ testReturn.owc.policy.doubtLo.toNat ∧ testReturn.owc.state = .grace ∧
      testReturn.owc.owner = some .a) ∧
    testIdle.linkUp .a = true := by
  decide +kernel

/-- A server-hold flag clear and set, a DOWN link, and a receive queue with room, full, and full with the transmit queue full. -/
theorem witness_controlFramesTaken :
    (testIdle.linkUp .a = true ∧ (testIdle.pif.get .a).serverHold = false ∧ (testIdle.pif.get .a).rxq.length < 16) ∧
    ((testIdle.onPif .a (fun f => { f with serverHold := true })).pif.get .a).serverHold = true ∧
    State.reset.linkUp .a = false ∧
    ((testFull.pif.get .a).rxq.length = 16 ∧ (testFull.pif.get .a).transmitCount < 32 ∧ testFull.linkUp .a = true) ∧
    ((testFuller.pif.get .a).rxq.length = 16 ∧ (testFuller.pif.get .a).transmitCount = 32 ∧ testFuller.linkUp .a = true) := by
  decide +kernel

/-- The last block of a posted write of two blocks. -/
theorem witness_writeDataStaged :
    TableInv testPosted ∧
    memoryWf testPosted.mem = true ∧
    testPosted.linkUp .a = true ∧
    testPosted.role .a ≠ .fenced ∧
    testPosted.writeEntry? .a 21#16 = some testPostedEntry := by
  unfold TableInv
  decide +kernel

/-- The last block of a posted write of two blocks. -/
theorem witness_writeDataStaged_rest :
    (testPostedEntry.acked = false ∧ testPostedEntry.phase ≠ .ending ∧ testPostedEntry.cut = false) ∧
    ((1#16).toNat = testPostedEntry.staged ∧ testPostedEntry.staged < testPostedEntry.count) ∧
    testPosted.pageAllowed .a = true ∧
    (List.replicate 4096 7#8).length = Config.blockBytes ∧
    (testPostedEntry.posted = true ∧ testPostedEntry.staged + 1 = testPostedEntry.count) := by
  decide +kernel

/-- A FENCED path; a tag no write has; an acknowledged write; a wrong offset; a path with no page left to it. -/
theorem witness_writeDataTurnedAway :
    (testFenced.linkUp .a = true ∧ testFenced.role .a = .fenced) ∧
    (testOwned.linkUp .a = true ∧ testOwned.role .a ≠ .fenced ∧ testOwned.writeEntry? .a 5#16 = none) ∧
    (testTable [{ testPostedEntry with acked := true }] testOwned).writeEntry? .a 21#16 =
      some { testPostedEntry with acked := true } ∧
    (testPosted.writeEntry? .a 21#16 = some testPostedEntry ∧ (2#16).toNat ≠ testPostedEntry.staged) ∧
    (testOverrun.pageAllowed .a = false ∧ testOverrun.writeEntry? .a 21#16 = some testPostedEntry ∧
      (1#16).toNat = testPostedEntry.staged ∧ (1#16).toNat < testPostedEntry.count) := by
  decide +kernel

/-- Both heads takeable, one, and none; and each case of the second part. -/
theorem witness_arbiterTakesHeads :
    (testHeads.takeable .a = true ∧ testHeads.takeable .b = true) ∧
    ((testHead .a (.rejoin 6#16 7#16) testIdle).takeable .a = true ∧ (testHead .a (.rejoin 6#16 7#16) testIdle).takeable .b = false) ∧
    (testIdle.takeable .a = false ∧ testIdle.takeable .b = false ∧ testIdle.chosenPath ≠ some .a) ∧
    testLoading.owc.state = .loading ∧
    (testGrace.owc.state = .grace ∧ testGrace.owc.owner = some .a) := by
  decide +kernel

/-- Both heads takeable, one, and none; and each case of the second part. -/
theorem witness_arbiterTakesHeads_rest :
    (testIdle.onPif .a (fun f => { f with
      waiting := [{ producer := .adm, item := { frame := .hold, tie := .plain } }] })).admWaits .a = true ∧
    { testIdle with fnu := { testIdle.fnu with deciding := some (.a, 1#16) } }.fnu.deciding.isSome = true ∧
    checkCommand testLimit .a { tag := 9#16, epoch := 7#16, op := 1#8, flags := 0#8, start := 0#48, count := 1#16 } = none ∧
      testLimit.owc.policy.maxEntries.toNat ≤ testLimit.entryCount .a ∧
    (testIdle.owc.state ≠ .loading ∧ ¬(testIdle.owc.state = .grace ∧ testIdle.owc.owner = some .a) ∧
      testIdle.admWaits .a = false ∧ testIdle.fnu.deciding = none) ∧
    checkCommand testIdle .a { tag := 9#16, epoch := 7#16, op := 9#8, flags := 0#8, start := 0#48, count := 1#16 } =
      some .badOp ∧
    (checkCommand testIdle .a { tag := 9#16, epoch := 7#16, op := 1#8, flags := 0#8, start := 0#48, count := 1#16 } = none ∧
      testIdle.freeEntrySlot.isSome = true ∧ testIdle.entryCount .a < testIdle.owc.policy.maxEntries.toNat ∧
      testIdle.adm.sequence < 2 ^ 48 - 1) := by
  decide +kernel

/-- Each check at its boundary: an op of 4, a tag in use, counts 0 and 1025, a range one block past the capacity and one that ends at it; and each role. -/
theorem witness_commandChecksInOrder :
    (opOf 4#8 = none ∧ opOf 1#8 = some .read) ∧
    testWriting.ift.any (fun e => e.origin == .a && e.tag == 100#16) = true ∧
    (∀ e ∈ testIdle.ift, ¬(e.origin = .a ∧ e.tag = 9#16)) ∧
    ((0#16).toNat = 0 ∧ 1024 < (1025#16).toNat ∧ (1024#16).toNat ≤ 1024 ∧ 1 ≤ (1#16).toNat) ∧
    testIdle.reportedCapacity < (1999992#48).toNat + (1#16).toNat ∧
    (1999991#48).toNat + (1#16).toNat ≤ testIdle.reportedCapacity := by
  decide +kernel

/-- Each check at its boundary: an op of 4, a tag in use, counts 0 and 1025, a range one block past the capacity and one that ends at it; and each role. -/
theorem witness_commandChecksInOrder_rest :
    testFenced.role .a = .fenced ∧
    (testOwned.role .a = .owner ∧ testOwned.owc.state ≠ .frozen) ∧
    (testOwned.role .b = .sharer ∧ 6#16 ≠ testOwned.owc.epoch) ∧
    { testIdle with owc := { testIdle.owc with roles := { a := .standby, b := .sharer } } }.role .a = .standby ∧
    (testDrain .cooperative .release none .releasing).role .a = .releasing ∧
      shareReads (testDrain .cooperative .release none .releasing).owc.policy = true ∧
    shareReads { defaultPolicy with flags := 0x01#8 } = false := by
  decide +kernel

/-- A WRITE of a SHARER that is not common. -/
theorem witness_commandRefused :
    TakesHead (testHead .b (.command 8#16 7#16 2#8 0#8 10#48 1#16) testOwned) .b (.command 8#16 7#16 2#8 0#8 10#48 1#16) ∧
    checkCommand (testHead .b (.command 8#16 7#16 2#8 0#8 10#48 1#16) testOwned) .b { tag := 8#16, epoch := 7#16, op := 2#8, flags := 0#8, start := 10#48, count := 1#16 } = some .notOwner := by
  unfold TakesHead
  decide +kernel

/-- A WRITE of the owner, with the drive READY, and with the drive FAILED. -/
theorem witness_commandAccepted :
    (TableInv testAccept ∧ PagesInv testAccept ∧ ReportsMade testAccept) ∧
    testAccept.linkUp .a = true ∧
    TakesHead (testAccept) .a (.command 8#16 7#16 2#8 0#8 10#48 1#16) ∧
    checkCommand testAccept .a { tag := 8#16, epoch := 7#16, op := 2#8, flags := 0#8, start := 10#48, count := 1#16 } = none ∧
    (opOf 2#8 = some .write ∧ testAccept.freeEntrySlot = some 0) := by
  unfold TakesHead TableInv PagesInv ReportsMade
  decide +kernel

/-- A WRITE of the owner, with the drive READY, and with the drive FAILED. -/
theorem witness_commandAccepted_rest :
    testAccept.dpt.state = .ready ∧
    (TableInv testAcceptFailed ∧ PagesInv testAcceptFailed ∧ ReportsMade testAcceptFailed) ∧
    (testAcceptFailed.linkUp .a = true ∧ testAcceptFailed.dpt.state = .failed ∧ testAcceptFailed.freeEntrySlot = some 0 ∧
      (testAcceptFailed.pif.get .a).hasRoom = true) ∧
    TakesHead (testAcceptFailed) .a (.command 8#16 7#16 1#8 0#8 10#48 1#16) ∧
    (checkCommand testAcceptFailed .a { tag := 8#16, epoch := 7#16, op := 1#8, flags := 0#8, start := 10#48, count := 1#16 } = none ∧ opOf 1#8 = some .read) := by
  unfold TakesHead TableInv PagesInv ReportsMade
  decide +kernel

/-- A READ and a FLUSH, with the drive READY and with it FAILED. -/
theorem witness_blockersAtAcceptance :
    testIdle.dpt.state = .ready ∧
    (Op.read ≠ .flush ∧ Op.flush = .flush) ∧
    testAcceptFailed.dpt.state = .failed := by
  decide +kernel

/-- A CLAIM in UNOWNED, with no commit in flight and with a POLICY commit in flight. -/
theorem witness_claimAcceptedUnowned :
    TakesHead (testHead .a (.claim 4#16 7#16 0#8 0#16) testIdle) .a (.claim 4#16 7#16 0#8 0#16) ∧
    (ClaimRow .a 0#8 (.claim .a) ∧ ClaimRow .a 1#8 (.forcedClaim .a) ∧ ClaimRow .a 3#8 (.overrideClaim .a)) ∧
    (testIdle.role .a ≠ .fenced ∧ (testIdle.hmon.get .a).health = .healthy ∧ testIdle.owc.state = .unowned ∧
      testIdle.owc.contents = none) ∧
    TakesHead (testHead .a (.claim 4#16 7#16 0#8 0#16) testPolicyCommit) .a (.claim 4#16 7#16 0#8 0#16) ∧
    (testPolicyCommit.role .a ≠ .fenced ∧ (testPolicyCommit.hmon.get .a).health = .healthy ∧
      testPolicyCommit.owc.state = .unowned ∧ testPolicyCommit.owc.contents.isSome = true) := by
  unfold TakesHead ClaimRow
  decide +kernel

/-- A head for each case: another epoch; FENCED; not HEALTHY; the owner; a partner that owns; DRAINING; FROZEN. -/
theorem witness_claimAnsweredAtOnce :
    (TakesHead (testHead .a (.claim 4#16 8#16 0#8 0#16) testIdle) .a (.claim 4#16 8#16 0#8 0#16) ∧ 8#16 ≠ testIdle.owc.epoch) ∧
    (TakesHead (testHead .a (.claim 4#16 7#16 0#8 0#16) testFenced) .a (.claim 4#16 7#16 0#8 0#16) ∧ testFenced.role .a = .fenced) ∧
    (TakesHead (testHead .a (.claim 4#16 7#16 0#8 0#16) testSick) .a (.claim 4#16 7#16 0#8 0#16) ∧
      testSick.role .a ≠ .fenced ∧ (testSick.hmon.get .a).health ≠ .healthy) ∧
    (TakesHead (testHead .a (.claim 4#16 7#16 0#8 0#16) testOwned) .a (.claim 4#16 7#16 0#8 0#16) ∧ testOwned.owc.owner = some .a) ∧
    (TakesHead (testHead .b (.claim 4#16 7#16 1#8 0#16) testOwned) .b (.claim 4#16 7#16 1#8 0#16) ∧
      testOwned.owc.owner = some Path.b.other ∧ flagBit0 1#8 = true ∧ allowForce testOwned.owc.policy = false) := by
  unfold TakesHead
  decide +kernel

/-- A head for each case: another epoch; FENCED; not HEALTHY; the owner; a partner that owns; DRAINING; FROZEN. -/
theorem witness_claimAnsweredAtOnce_rest :
    (TakesHead (testHead .b (.claim 4#16 7#16 0#8 0#16) testOwned) .b (.claim 4#16 7#16 0#8 0#16) ∧ flagBit0 0#8 = false) ∧
    TakesHead (testHead .b (.claim 4#16 7#16 0#8 0#16) (testDrain .fenced .forced (some .b) .fenced)) .b (.claim 4#16 7#16 0#8 0#16) ∧
    (TakesHead (testHead .a (.claim 4#16 7#16 0#8 0#16) testFrozen) .a (.claim 4#16 7#16 0#8 0#16) ∧ flagBit1 0#8 = false) ∧
    (TakesHead (testHead .a (.claim 4#16 7#16 2#8 7#16) testFrozen) .a (.claim 4#16 7#16 2#8 7#16) ∧ flagBit1 2#8 = true ∧
      testFrozen.dpt.state = .ready ∧ testFrozen.owc.epoch = 7#16) ∧
    TakesHead (testHead .a (.claim 4#16 7#16 2#8 7#16) { testFrozen with dpt := { testDrive with state := .failed } }) .a (.claim 4#16 7#16 2#8 7#16) ∧
    (ClaimRow .a 0#8 (.claim .a) ∧ ClaimRow .b 1#8 (.forcedClaim .b) ∧ ClaimRow .a 2#8 (.overrideClaim .a)) := by
  unfold TakesHead ClaimRow
  decide +kernel

/-- A forced claim of Path B against the owner, Path A. -/
theorem witness_forcedClaimFencesOwner :
    TakesHead (testHead .b (.claim 4#16 7#16 1#8 0#16) testForce) .b (.claim 4#16 7#16 1#8 0#16) ∧
    (ClaimRow .b 1#8 (.forcedClaim .b) ∧ flagBit0 1#8 = true) ∧
    (testForce.role .b ≠ .fenced ∧ (testForce.hmon.get .b).health = .healthy ∧ testForce.owc.state = .owned ∧
      testForce.owc.owner = some Path.b.other ∧ allowForce testForce.owc.policy = true ∧ testForce.owc.epoch = 7#16) := by
  unfold TakesHead ClaimRow
  decide +kernel

/-- An override claim under epoch 8. -/
theorem witness_overrideClaimCommits :
    TakesHead (testHead .a (.claim 4#16 7#16 2#8 8#16) testFrozen) .a (.claim 4#16 7#16 2#8 8#16) ∧
    (ClaimRow .a 2#8 (.overrideClaim .a) ∧ flagBit1 2#8 = true) ∧
    (testFrozen.role .a ≠ .fenced ∧ (testFrozen.hmon.get .a).health = .healthy ∧ testFrozen.owc.state = .frozen ∧
      testFrozen.dpt.state = .ready ∧ 8#16 ≠ 0#16 ∧ 8#16 ≠ testFrozen.owc.epoch) := by
  unfold TakesHead ClaimRow
  decide +kernel

/-- Another epoch; FENCED; a non-owner; and the owner in OWNED, with an entry left and with none. -/
theorem witness_releaseDecided :
    TakesHead (testHead .a (.release 5#16 8#16 0#8) testOwned) .a (.release 5#16 8#16 0#8) ∧
    TakesHead (testHead .a (.release 5#16 7#16 0#8) testFenced) .a (.release 5#16 7#16 0#8) ∧
    (TakesHead (testHead .b (.release 5#16 7#16 1#8) testOwned) .b (.release 5#16 7#16 1#8) ∧
      ¬(testOwned.owc.state = .owned ∧ testOwned.owc.owner = some .b)) ∧
    (TakesHead (testHead .a (.release 5#16 7#16 1#8) testWriting) .a (.release 5#16 7#16 1#8) ∧
      testWriting.owc.state = .owned ∧ testWriting.owc.owner = some .a ∧ testWriting.role .a ≠ .fenced) ∧
    TakesHead (testHead .a (.release 5#16 7#16 0#8) testOwned) .a (.release 5#16 7#16 0#8) := by
  unfold TakesHead
  decide +kernel

/-- Another epoch; not FENCED; FENCED and not HEALTHY; FENCED in DRAINING; FENCED and HEALTHY. -/
theorem witness_rejoinDecided :
    TakesHead (testHead .a (.rejoin 6#16 8#16) testFenced) .a (.rejoin 6#16 8#16) ∧
    (TakesHead (testHead .a (.rejoin 6#16 7#16) testOwned) .a (.rejoin 6#16 7#16) ∧ testOwned.role .a ≠ .fenced) ∧
    (TakesHead (testHead .a (.rejoin 6#16 7#16) testFencedSick) .a (.rejoin 6#16 7#16) ∧
      testFencedSick.role .a = .fenced ∧ (testFencedSick.hmon.get .a).health ≠ .healthy) ∧
    TakesHead (testHead .a (.rejoin 6#16 7#16) (testDrain .fenced .forced (some .b) .fenced)) .a (.rejoin 6#16 7#16) ∧
      (testDrain .fenced .forced (some .b) .fenced).role .a = .fenced ∧
      (testDrain .fenced .forced (some .b) .fenced).owc.state = .draining ∧
    (TakesHead (testHead .a (.rejoin 6#16 7#16) testFenced) .a (.rejoin 6#16 7#16) ∧ testFenced.role .a = .fenced ∧
      (testFenced.hmon.get .a).health = .healthy ∧ testFenced.owc.state ≠ .draining) := by
  unfold TakesHead
  decide +kernel

/-- Another epoch; FENCED; a sender that is not HEALTHY and not the owner; a non-owner; a commit in flight; a record that fails validation; the default record from the owner. -/
theorem witness_policyDecided :
    TakesHead (testHead .a (.policy 9#16 8#16 defaultPolicy) testOwned) .a (.policy 9#16 8#16 defaultPolicy) ∧
    TakesHead (testHead .a (.policy 9#16 7#16 defaultPolicy) testFenced) .a (.policy 9#16 7#16 defaultPolicy) ∧
    (TakesHead (testHead .a (.policy 9#16 7#16 defaultPolicy) testSick) .a (.policy 9#16 7#16 defaultPolicy) ∧ testSick.owc.owner ≠ some .a ∧ (testSick.hmon.get .a).health ≠ .healthy) ∧
    (TakesHead (testHead .b (.policy 9#16 7#16 defaultPolicy) testOwned) .b (.policy 9#16 7#16 defaultPolicy) ∧ (testOwned.hmon.get .b).health = .healthy ∧ testOwned.role .b ≠ .fenced) ∧
    (TakesHead (testHead .a (.policy 9#16 7#16 defaultPolicy) testPolicyCommit) .a (.policy 9#16 7#16 defaultPolicy) ∧ testPolicyCommit.owc.contents.isSome = true) ∧
    TakesHead (testHead .a (.policy 9#16 7#16 { defaultPolicy with doubtLo := 96#8 }) testOwned) .a (.policy 9#16 7#16 { defaultPolicy with doubtLo := 96#8 }) ∧
      acceptPolicy testOwned.reportedCapacity { defaultPolicy with doubtLo := 96#8 } = none ∧
    (TakesHead (testHead .a (.policy 9#16 7#16 defaultPolicy) testOwned) .a (.policy 9#16 7#16 defaultPolicy) ∧ testOwned.owc.state = .owned ∧ testOwned.owc.owner = some .a ∧
      testOwned.owc.contents = none ∧ testOwned.owc.waitingTransition = none ∧
      acceptPolicy testOwned.reportedCapacity defaultPolicy = some defaultPolicy) := by
  unfold TakesHead
  decide +kernel

/-- Each mode; tables 7 and 8; a record, an empty position and one beyond the table; and no room for the answer. -/
theorem witness_inspectAnswered :
    TakesHead (testHead .b (.inspect 1#16 0#8 7#8 0#16) testIdle) .b (.inspect 1#16 0#8 7#8 0#16) ∧
    TakesHead (testHead .b (.inspect 1#16 0#8 8#8 0#16) testIdle) .b (.inspect 1#16 0#8 8#8 0#16) ∧
    TakesHead (testHead .b (.inspect 1#16 1#8 0#8 0#16) testIdle) .b (.inspect 1#16 1#8 0#8 0#16) ∧
    TakesHead (testHead .b (.inspect 1#16 2#8 0#8 0#16) testIdle) .b (.inspect 1#16 2#8 0#8 0#16) ∧
    answersRoom testIdle .b = true := by
  unfold TakesHead
  decide +kernel

/-- Each mode; tables 7 and 8; a record, an empty position and one beyond the table; and no room for the answer. -/
theorem witness_inspectAnswered_rest :
    (match readPosition testIdle .b { table := 5, index := 0 } with
      | .record _ => true
      | _ => false) = true ∧
    readPosition testIdle .b { table := 4, index := 0 } = .empty ∧
    readPosition testIdle .b { table := 5, index := 1 } = .beyond ∧
    TakesHead (testHead .b (.inspect 1#16 1#8 0#8 0#16) testNoRoom) .b (.inspect 1#16 1#8 0#8 0#16) ∧
    answersRoom testNoRoom .b = false := by
  unfold TakesHead
  decide +kernel

/-- A NOTIFY_MASK with room for its answer. -/
theorem witness_noticeMaskReplaced :
    TakesHead (testHead .a (.notifyMask 1#16 0xFE80#16) testIdle) .a (.notifyMask 1#16 0xFE80#16) ∧
    answersRoom (testHead .a (.notifyMask 1#16 0xFE80#16) testIdle) .a = true := by
  unfold TakesHead
  decide +kernel

/-- Targets 0, 1 and 2; a sender permitted in OWNED and in UNOWNED, and one that is not; and no room. -/
theorem witness_clearDecided :
    TakesHead (testHead .a (.clear 1#16 0#8 0x46#16) testIdle) .a (.clear 1#16 0#8 0x46#16) ∧
    (TakesHead (testHead .a (.clear 1#16 1#8 0x46#16) testIdle) .a (.clear 1#16 1#8 0x46#16) ∧ testIdle.owc.state = .unowned ∧ testIdle.role .a ≠ .fenced) ∧
    (TakesHead (testHead .a (.clear 1#16 1#8 0x46#16) testOwned) .a (.clear 1#16 1#8 0x46#16) ∧ testOwned.owc.state = .owned ∧ testOwned.owc.owner = some .a) ∧
    (TakesHead (testHead .b (.clear 1#16 1#8 0x46#16) testOwned) .b (.clear 1#16 1#8 0x46#16) ∧ ¬((testOwned.owc.state = .owned ∧ testOwned.owc.owner = some .b) ∨
      (testOwned.owc.state = .unowned ∧ testOwned.role .b ≠ .fenced))) ∧
    TakesHead (testHead .b (.clear 1#16 2#8 0x46#16) testIdle) .b (.clear 1#16 2#8 0x46#16) ∧
    (answersRoom testIdle .a = true ∧ answersRoom testIdle .b = true) ∧
    (TakesHead (testHead .b (.clear 1#16 0#8 0x46#16) testNoRoom) .b (.clear 1#16 0#8 0x46#16) ∧ answersRoom testNoRoom .b = false) := by
  unfold TakesHead
  decide +kernel

/-- Another epoch; a sender without standing; the owner, with entries; and a HEALTHY sender in FROZEN with no drive. -/
theorem witness_deviceResetDecided :
    TakesHead (testHead .a (.deviceReset 1#16 8#16) testIdle) .a (.deviceReset 1#16 8#16) ∧
    (TakesHead (testHead .b (.deviceReset 1#16 7#16) testOwned) .b (.deviceReset 1#16 7#16) ∧ testOwned.owc.owner ≠ some .b) ∧
    (TakesHead (testHead .a (.deviceReset 1#16 7#16) testWriting) .a (.deviceReset 1#16 7#16) ∧ testWriting.owc.owner = some .a ∧ testWriting.fnu.deciding = none ∧
      testWriting.ift.length + testWriting.owc.orphans.length ≤ 32 ∧ testWriting.dpt.state ≠ .absent) ∧
    (TakesHead (testHead .a (.deviceReset 1#16 7#16) testAbsent) .a (.deviceReset 1#16 7#16) ∧ testAbsent.owc.state = .frozen ∧ testAbsent.dpt.state = .absent ∧
      testAbsent.role .a ≠ .fenced ∧ (testAbsent.hmon.get .a).health = .healthy) ∧
    0 < lostCount [{ testPostedEntry with acked := true }] ∧
    testFenced.role .a = .fenced := by
  unfold TakesHead
  decide +kernel

/-- A running window with a pulse counted, without one, and with stall evidence; a window whose charge changes nothing; and one that does not run. -/
theorem witness_pulseWindowWorked :
    ((testIdle.hmon.get .a).window.isSome = true ∧ (testIdle.hmon.get .a).pulseCounted = false) ∧
    evaluate testIdle.owc.policy (testIdle.hmon.get .a).health 32 = (testIdle.hmon.get .a).health ∧
    ({ testWell with pulseCounted := true, heldThroughout := true } : Hmon).heldThroughout = true ∧
    (State.reset.hmon.get .a).window = none := by
  decide +kernel

/-- The owner in OWNED under each policy; GRACE with its timer; stage 1 of a drain; and timers that do not run. -/
theorem witness_ownerLossAndFencing :
    (testOwned.owc.state = .owned ∧ testOwned.owc.owner = some .a ∧ autoTakeover testOwned.owc.policy = true ∧
      testOwned.owc.policy.graceMs ≠ 0#16) ∧
    autoTakeover { defaultPolicy with flags := 0x04#8 } = false ∧
    (testGrace.owc.state = .grace ∧ testGrace.owc.graceTimer.isSome = true ∧ testGrace.owc.owner = some .a) ∧
    (testIdle.owc.state ≠ .grace ∧ testIdle.owc.state ≠ .draining) ∧
    (testDrain .cooperative .release none .releasing).owc.state = .draining ∧
      (testDrain .cooperative .release none .releasing).owc.drainStage = some .cooperative ∧
      (testDrain .cooperative .release none .releasing).owc.drainTimer.isSome = true ∧
      (testDrain .cooperative .release none .releasing).owc.drainedPath = some .a ∧
      (testDrain .cooperative .release none .releasing).owc.drainCause = some .release ∧
      (testDrain .cooperative .release none .releasing).owc.owner = none ∧
      (testDrain .cooperative .release none .releasing).owc.graceTimer = none := by
  decide +kernel

/-- The owner is fenced with a COMMAND in its queue and four entries: a write with segments at the drive, an acknowledged
write, a read with nothing issued, and a FLUSH at the drive. -/
def testFencing : State :=
  { testTable
      [testWritingEntry,
        { testEntry 1 .a 101#16 .write 2000 2 71 with posted := true, acked := true, staged := 2 },
        testEntry 2 .a 102#16 .read 3000 4 72,
        { testEntry 3 .a 103#16 .flush 0 0 73 with outstanding := [{ driveSlot := 2, offset := 0, length := 0 }] }]
      testGrace with
    pif := testGrace.pif.set .a { testUp with rxq := [.command 9#16 7#16 1#8 0#8 0#48 1#16, .rejoin 6#16 7#16] } }

/-- GRACE expires for that owner: an UP link, a queued COMMAND, and of its entries some with segments outstanding and one
with none, none reported and none with a reply that waits; with what the drain answers and records for three of them. -/
theorem witness_fencedDrain :
    TableInv testFencing ∧
    (testFencing.owc.state = .grace ∧ testFencing.owc.graceTimer.isSome = true ∧ testFencing.owc.owner = some .a) ∧
    (testFencing.linkUp .a = true ∧
      QueuedFrame.command 9#16 7#16 1#8 0#8 0#48 1#16 ∈ (testFencing.pif.get .a).rxq) ∧
    (∀ e ∈ testFencing.ift, e.origin = .a ∧ e.reported = false ∧
      ∀ w ∈ (testFencing.pif.get .a).waiting, w.producer ≠ .iftFinal e.slot) ∧
    gives .graceExpiry testFencing (fun t =>
      t.pif.a.outbound ==
          [.reply 9#16 .fenced 0#16 7#16, .flagNotice .orphans, .reply 102#16 .orphaned 0#16 7#16] &&
        t.owc.orphans.map (fun r => (r.tag, r.outcome)) == [(102#16, .notStarted)] &&
        t.ift.map (fun e => (e.tag, e.fencedOutcome)) ==
          [(100#16, some .torn), (101#16, none), (103#16, some .notStarted)]) = true := by
  unfold TableInv
  decide +kernel

/-- Stage 2 with the drive READY and with it RESETTING, and stage 3. -/
theorem witness_laterDrainTimersExpire :
    ((testDrain .fenced .forced (some .b) .fenced).owc.state = .draining ∧ (testDrain .fenced .forced (some .b) .fenced).owc.drainTimer.isSome = true ∧
      (testDrain .fenced .forced (some .b) .fenced).owc.drainedPath = some .a ∧ (testDrain .fenced .forced (some .b) .fenced).owc.drainCause = some .forced ∧
      (testDrain .fenced .forced (some .b) .fenced).owc.drainStage = some .fenced ∧ (testDrain .fenced .forced (some .b) .fenced).dpt.state = .ready) ∧
    { testDrain .fenced .forced (some .b) .fenced with dpt := { testDrive with state := .resetting } }.dpt.state ≠ .ready ∧
    ((testDrain .resetDone .forced (some .b) .fenced).owc.state = .draining ∧ (testDrain .resetDone .forced (some .b) .fenced).owc.drainTimer.isSome = true ∧
      (testDrain .resetDone .forced (some .b) .fenced).owc.drainedPath = some .a ∧ (testDrain .resetDone .forced (some .b) .fenced).owc.drainCause = some .forced ∧
      (testDrain .resetDone .forced (some .b) .fenced).owc.drainStage = some .resetDone) ∧
    TableInv (testDrain .resetDone .forced (some .b) .fenced) := by
  unfold TableInv
  decide +kernel

/-- A drain with no entry left, and with one; with a commit in flight and without. -/
theorem witness_drainEndsInCommit :
    { testDrain .fenced .forced (some .b) .fenced with ift := [] }.entryCount .a = 0 ∧
    0 < (testDrain .fenced .forced (some .b) .fenced).entryCount .a ∧
    ((testDrain .fenced .forced (some .b) .fenced).owc.state = .draining ∧ (testDrain .fenced .forced (some .b) .fenced).owc.drainTimer.isSome = true ∧
      (testDrain .fenced .forced (some .b) .fenced).owc.drainedPath = some .a ∧ (testDrain .fenced .forced (some .b) .fenced).owc.drainCause = some .forced ∧
      (testDrain .fenced .forced (some .b) .fenced).owc.drainStage = some .fenced) ∧
    ((testDrain .fenced .forced (some .b) .fenced).owc.contents = none ∧ testPolicyCommit.owc.contents.isSome = true) ∧
    (testDrain .fenced .forced (some .b) .fenced).owc.successor = some (some .b) ∧
    ((testIdle.hmon.get .b).health = .healthy ∧ testIdle.role .b ≠ .fenced) := by
  decide +kernel

/-- A transition that waits with no commit in flight; a load not begun; each waiting request; a drive with its reserved slot free. -/
theorem witness_ownershipOperationsBegin :
    { testIdle with owc := { testIdle.owc with waitingTransition := some .claim } }.owc.contents = none ∧
    (testLoading.owc.state = .loading ∧ testLoading.owc.attempt = 0) ∧
    (testIdle.dpt.state = .ready ∧ ∀ b ∈ testWriting.dpt.busy, b.slot ≠ testWriting.dpt.slotCount - 1) ∧
    ({ testDrive with request := some .load }.request = some .load ∧ { testDrive with request := some .commit }.request =
      some .commit) ∧
    testIdle.dpt.request = none ∧
    testIdentifying.dpt.state ≠ .ready := by
  decide +kernel

/-- A write's run of 16 blocks at its frontier, behind an older entry that has none due; a read's returned range of lowest
offset before its grant; a read's grant; and a FLUSH. -/
theorem witness_oldestSegmentIssued :
    (SegmentDue testSegmentEntry { offset := 0, length := 16 } ∧
      ∀ r, ¬SegmentDue (testEntry 2 .b 201#16 .read 1040 4 60) r) ∧
    SegmentDue testReturnedEntry { offset := 2, length := 3 } ∧
    SegmentDue testGrantedEntry { offset := 9, length := 3 } ∧
    SegmentDue (testEntry 4 .a 9#16 .flush 0 0 9) { offset := 0, length := 0 } := by
  simp [SegmentDue, testSegmentEntry, testEntry, testReturnedEntry, testGrantedEntry]

/-- For each of those, the lowest path slot free, the entry in the table and the pages of the run in the buffer. -/
theorem witness_oldestSegmentIssued_states :
    (TableInv testSegment ∧ TableInv testReturned ∧ TableInv testGranted) ∧
    (testSegment.dpt.state = .ready ∧ 0 + 1 < testSegment.dpt.slotCount ∧ testSegment.slotBusy 0 = false) ∧
    (testSegmentEntry ∈ testSegment.ift ∧
      ∀ i, i < 16 → ∃ r ∈ testSegment.stb.pages, r.slot = some 0 ∧ r.offset = 0 + i) ∧
    (testReturnedEntry ∈ testReturned.ift ∧ testReturned.dpt = testSegment.dpt ∧
      testReturnedEntry.returned.Pairwise (fun x y => x.offset ≤ y.offset) ∧
      ∀ i, i < 3 → ∃ r ∈ testReturned.stb.pages, r.slot = some 1 ∧ r.offset = 2 + i) ∧
    (testGrantedEntry ∈ testGranted.ift ∧ testGranted.dpt = testSegment.dpt ∧
      ∀ i, i < 3 → ∃ r ∈ testGranted.stb.pages, r.slot = some 1 ∧ r.offset = 9 + i) ∧
    (testFlushing.slotBusy 0 = true ∧ testFlushing.slotBusy 1 = false ∧ 1 + 1 < testFlushing.dpt.slotCount) ∧
    gives .segmentIssue testSegment (fun t => t.dpt.requests.take 1 == [.write 0 1000 16 (List.range 16)]) = true ∧
    gives .segmentIssue testReturned (fun t => t.dpt.requests.take 1 == [.read 0 502 3 [10, 11, 12]]) = true := by
  unfold TableInv
  decide +kernel

/-- A drive that is not READY; every path slot busy; and a table with nothing due. -/
theorem witness_oldestSegmentIssued_none :
    testIdentifying.dpt.state ≠ .ready ∧
    (∀ k, k + 1 < 3 →
      ({ testWriting with dpt := { testWriting.dpt with slotCount := 3 } } : State).slotBusy k = true) ∧
    ∀ e ∈ (testTable [testEntry 2 .b 201#16 .read 1040 4 60] testOwned).ift, ∀ run, ¬SegmentDue e run := by
  refine ⟨by decide +kernel, ?_, ?_⟩
  · intro k h
    have : k = 0 ∨ k = 1 := by omega
    rcases this with rfl | rfl <;> decide +kernel
  · simp [testTable, SegmentDue, testEntry]

/-- A request for four pages at the head of the list, with the drive RESETTING and READY. -/
theorem witness_oldestRequestGranted :
    (TableInv testGrant ∧ PagesInv testGrant) ∧
    (testGrant.dpt.state ≠ .ready ∧ testGrant.stb.grants = testGrantRequest :: []) ∧
    testGrant.entry? 2 = some (testEntry 2 .b 201#16 .read 1040 4 72) ∧
    (testGrant.occupancy .b + 4 ≤ quotaOf testGrant.owc.policy .b ∧ 4 ≤ testGrant.freePages.length) ∧
    (∀ x ∈ testGrant.ift, ∃ h ∈ testGrant.stb.grants, h.slot = x.slot) ∧
    ({ testGrant with dpt := testDrive } : State).dpt.state = .ready ∧
    gives .readGrant { testGrant with dpt := testDrive } (fun t => t.dpt.requests == [.read 0 1040 4 [0, 1, 2, 3]]) = true := by
  unfold TableInv PagesInv
  decide +kernel

/-- A read that asks for pages while no request stands in the list. -/
theorem witness_oldestRequestGranted_placed :
    ({ testGrant with stb := { testGrant.stb with grants := [] } } : State).stb.grants = [] ∧
    AsksPages (testEntry 2 .b 201#16 .read 1040 4 72) ∧
    (∀ x ∈ testGrant.ift, AsksPages x → 72 ≤ x.age) ∧
    testGrantRequest =
      { slot := 2, path := .b, age := 72
        length := min 16 ((testEntry 2 .b 201#16 .read 1040 4 72).count - (testEntry 2 .b 201#16 .read 1040 4 72).frontier) } := by
  refine ⟨rfl, ?_, ?_, by decide +kernel⟩
  · simp [AsksPages, testEntry]
  · simp [testGrant, testTable, testEntry]

/-- A read with two fetched blocks; and a path with none to deliver. -/
theorem witness_readDataOffered :
    (testFetched.pif.get .b).holdsReadData = false ∧
    testFetched.ift.find? (fun x => x.origin == .b && testFetched.deliverable x) = some testFetchedEntry ∧
    testFetched.pageAt 0 0 = some { number := 0, path := .b, slot := some 0, offset := 0, state := .fetched } ∧
    (∀ x ∈ testFetched.ift, x.origin = .a → testFetched.deliverable x = false) := by
  decide +kernel

/-- A READ_DATA in transmission whose block is not the last; no frame in transmission; and waiting frames of each kind, with room. -/
theorem witness_framesLeaveAndEnter :
    ((testSending.pif.get .b).sending = some { source := .queue, item := testBlock } ∧ testBlock.tie = .block 0 1 0) ∧
    (testSending.entry? 0 = some testFetchedEntry ∧ testFetchedEntry.age = 1 ∧ testFetchedEntry.phase = .running ∧
      testFetchedEntry.delivered + 1 < testFetchedEntry.count) ∧
    TableInv testSending ∧
    ((testSending.pif.get .b).waiting.all (fun w => w.producer != .iftFinal 0)) = true ∧
    (testIdle.pif.get .a).sending = none ∧
    (testWaiting .owc).pif.a.waiting = [{ producer := .owc, item := testBlock }] ∧
      ((testWaiting .owc).pif.get .a).hasRoom = true ∧
    (testWaiting (.iftFinal 0)).pif.a.waiting = [{ producer := .iftFinal 0, item := testBlock }] ∧
      ((testWaiting (.iftFinal 0)).pif.get .a).hasRoom = true := by
  unfold TableInv
  decide +kernel

/-- A write ended OK, with room for its reply. -/
theorem witness_entryReportedAndRemoved :
    TableInv testEnded ∧
    testEnded.entry? 0 = some testEndedEntry ∧
    testEnded.reportDue testEndedEntry = true ∧
    (testEndedEntry.fencedOutcome = none ∧ testEndedEntry.acked = false ∧ testEndedEntry.cut = false ∧
      testEndedEntry.endStatus = some .ok) ∧
    (testEnded.linkUp .a = true ∧ (testEnded.pif.get .a).hasRoom = true) := by
  unfold TableInv
  decide +kernel

/-- A record for a segment with done at its length; each kind of record that is not well-formed, with done one past the length; and the states that discard a record. -/
theorem witness_pathSlotRecordJudged :
    (testWriting.dpt.state = .ready ∧ testWriting.holderOf 1 = some (.segment 0 16 16 .write) ∧ 1 < testWriting.dpt.slotCount) ∧
    (DriveStatus.media ≠ .other ∧ (16#16).toNat ≤ (if Op.write = .flush then 0 else 16)) ∧
    testWriting.dpt.slotCount ≤ 4 ∧
    testWriting.holderOf 2 = none ∧
    (Holder.segment 0 16 16 .write).length < (17#16).toNat ∧
    { testDrive with state := .resetting }.state = .resetting ∧
    (testIdentifying.dpt.state = .identifying ∧ 1 ≠ 0) ∧
    testWriting.owc.state ≠ .frozen := by
  decide +kernel

/-- A write with two segments at the drive; done 0, 5 and 16 of 16; a reissue count of 2 and of 3. -/
theorem witness_writeCompletionCounted :
    TableInv testWriting ∧
    testWriting.ift = [testWritingEntry] ∧
    (testWritingEntry.op = .write ∧ testWritingEntry.phase = .running ∧ testWritingEntry.endStatus = none) ∧
    (16 ≤ testWritingEntry.issued ∧ testWritingEntry.issued ≤ testWritingEntry.count ∧
      testWritingEntry.committed ≤ testWritingEntry.count) ∧
    (testWritingEntry.reissue < 3 ∧ { testWritingEntry with reissue := 3 }.reissue = 3) ∧
    testWritingEntry.committed + 16 ≠ testWritingEntry.count ∧
      { testWritingEntry with committed := 24 }.committed + 16 = testWritingEntry.count ∧
    RangesOrdered testWritingEntry ∧
      RangesOrdered { testWritingEntry with returned := [{ offset := 0, length := 4 }, { offset := 20, length := 2 }] } := by
  unfold TableInv RangesOrdered
  decide +kernel

/-- A claim commit and a POLICY commit in flight, with HEALTHY paths. -/
theorem witness_commitSucceeds :
    (testClaimCommit.dpt.state = .ready ∧ 2 ≤ testClaimCommit.dpt.slotCount ∧
      testClaimCommit.holderOf (testClaimCommit.dpt.slotCount - 1) = some (.blockOp .commit 1)) ∧
    (testClaimCommit.owc.purpose = some .claim ∧ testClaimCommit.owc.contents =
      some { owner := some .a, epoch := 8#16, count := 42#32, policy := defaultPolicy }) ∧
    (historyCause .claim = some .claim ∧ (testClaimCommit.hmon.get .a).health ≠ .lost) ∧
    (testClaimCommit.linkUp .a = true ∧ testClaimCommit.linkUp .b = true) ∧
    testPolicyCommit.dpt.state = .ready ∧
      testPolicyCommit.holderOf (testPolicyCommit.dpt.slotCount - 1) = some (.blockOp .commit 1) ∧
    (testPolicyCommit.owc.purpose = some .policy ∧ testPolicyCommit.owc.contents.isSome = true ∧
      testPolicyCommit.owc.pendingPolicy = some defaultPolicy) := by
  decide +kernel

/-- The closing commit of a forced claim of Path B, which names no owner, with the claimant's reply owed. -/
def testForcedCommit : State :=
  { testClaimCommit with
    owc := { testClaimCommit.owc with
      successor := some none, purpose := some .forced, drainedPath := some .a, roles := { a := .fenced, b := .sharer }
      contents := some { owner := none, epoch := 8#16, count := 42#32, policy := defaultPolicy }
      owedReplies := [{ path := .b, tag := 4#16, purpose := .forced }] } }

/-- An owed reply of a claimant that is owner now, and of a forced claimant that is not, with what each path is sent. -/
theorem witness_commitSucceeds_replies :
    (testForcedCommit.owc.owedReplies.find? (fun r => r.purpose == .forced) =
        some { path := .b, tag := 4#16, purpose := .forced } ∧
      testForcedCommit.linkUp .b = true ∧ testForcedCommit.owc.purpose = some .forced ∧
      (none : Option Path) ≠ some .b ∧ testForcedCommit.role .a = .fenced) ∧
    gives (.reservedSlotCompletion .good 1#16 []) testForcedCommit (fun t =>
      t.pif.a.outbound == [.ownershipNotice 8#16 none .fenced 42#32] &&
        t.pif.b.outbound == [.ownershipNotice 8#16 none .sharer 42#32, .reply 4#16 .notHealthy 0#16 8#16]) = true ∧
    gives (.reservedSlotCompletion .good 1#16 [])
      { testClaimCommit with
        owc := { testClaimCommit.owc with owedReplies := [{ path := .a, tag := 5#16, purpose := .claim }] } }
      (fun t => t.pif.a.outbound == [.ownershipNotice 8#16 (some .a) .owner 42#32, .reply 5#16 .ok 0#16 8#16]) = true := by
  decide +kernel

/-- The third failure of that commit while a POLICY's reply is owed as well: the notices, COMMIT_FAILED and FROZEN. -/
theorem witness_failedAttemptsAskAgain_replies :
    gives (.reservedSlotCompletion .media 0#16 [])
      { testForcedCommit with
        owc := { testForcedCommit.owc with
          attempt := 3
          owedReplies := testForcedCommit.owc.owedReplies ++ [{ path := .b, tag := 6#16, purpose := .policy }] } }
      (fun t =>
        t.pif.b.outbound.drop 2 ==
            [.ownershipNotice 7#16 none .sharer 41#32, .reply 4#16 .commitFailed 0#16 7#16, .reply 6#16 .frozen 0#16 7#16] &&
          t.owc.owedReplies == []) = true := by
  decide +kernel

/-- A load in flight; a blank block, a bad one, and a valid one that names Path A. -/
theorem witness_loadJudgesBlock :
    (testLoad.dpt.state = .ready ∧ 2 ≤ testLoad.dpt.slotCount ∧ testLoad.owc.state = .loading ∧
      testLoad.holderOf (testLoad.dpt.slotCount - 1) = some (.blockOp .load 1) ∧ testLoad.owc.history.length ≤ 8) ∧
    judgeBlock (fillPage testLoad.mem Config.ownershipPage []) = .blank ∧
    judgeBlock (fillPage testLoad.mem Config.ownershipPage [1#8]) = .bad ∧
    judgeBlock (fillPage testLoad.mem Config.ownershipPage testBlockOfA) = .valid 1#8 9#16 12#32 defaultPolicy ∧
    (1#8 = BitVec.ofNat 8 (pathCode (some .a)) ∧ testLoad.role .a ≠ .fenced ∧
      gives (.reservedSlotCompletion .good 1#16 testBlockOfA) testLoad (fun t => (t.hmon.get .a).health != .lost) = true) ∧
    judgeBlock (fillOwnershipPage { owner := none, epoch := 9#16, count := 12#32, policy := defaultPolicy } []) =
      .valid 0#8 9#16 12#32 defaultPolicy ∧
    (testLoad.linkUp .a = true ∧ testLoad.linkUp .b = true ∧
      gives (.reservedSlotCompletion .good 1#16 testBlockOfA) testLoad
        (fun t => t.pif.b.outbound == [.ownershipNotice 9#16 (some .a) .sharer 12#32]) = true) ∧
    { testLoad with owc := { testLoad.owc with roles := { a := .fenced, b := .sharer } } }.role .a = .fenced := by
  decide +kernel

/-- A commit at its second attempt and at its third; a load at each. -/
theorem witness_failedAttemptsAskAgain :
    testClaimCommit.dpt.state = .ready ∧
      testClaimCommit.holderOf (testClaimCommit.dpt.slotCount - 1) = some (.blockOp .commit 1) ∧
    (DriveStatus.media = .media ∧ (1#16).toNat ≤ 1) ∧
    (testClaimCommit.owc.contents.isSome = true ∧ testClaimCommit.owc.state ≠ .frozen ∧ testClaimCommit.owc.attempt < 3) ∧
    3 ≤ ({ testClaimCommit with owc := { testClaimCommit.owc with attempt := 3 } } : State).owc.attempt ∧
    (testLoad.owc.state = .loading ∧ 0 < testLoad.owc.attempt ∧ testLoad.owc.attempt < 3) ∧
    3 ≤ ({ testLoad with owc := { testLoad.owc with attempt := 3 } } : State).owc.attempt := by
  decide +kernel

/-- IDENTIFYING, with the reference mark set, and results at their smallest. -/
theorem witness_identifyResultsJudged :
    testIdentifying.dpt.state = .identifying ∧
    (4096 = 4096 ∧ 16 ≤ (16#48).toNat ∧ 2 ≤ 2) ∧
    (¬(16 ≤ (15#48).toNat) ∧ ¬(2 ≤ 1) ∧ 512 ≠ 4096) ∧
    (testIdentifying.dpt.referenceMark = true ∧ testIdentifying.dpt.identity =
      some { capacity := 2000000, blockSize := 4096, depth := 4 }) ∧
    ((2000000#48).toNat = 2000000 ∧ (1000000#48).toNat ≠ 2000000) := by
  decide +kernel

/-- IDENTIFYING with fewer than 2 failures and with 2. -/
theorem witness_identifyAttemptsFail :
    (testIdentifying.dpt.state = .identifying ∧ testIdentifying.dpt.identifyFailures < 2 ∧ testIdentifying.slotBusy 0 = true) ∧
    2 ≤ ({ testIdentifying with dpt := { testIdentifying.dpt with identifyFailures := 2 } } : State).dpt.identifyFailures := by
  decide +kernel

/-- READY with slot 1 busy and slot 2 free; RESETTING; and neither. -/
theorem witness_timeoutResetsDrive :
    (testWriting.dpt.state = .ready ∧ testWriting.slotBusy 1 = true ∧ testWriting.slotBusy 2 = false) ∧
    (testResetting.dpt.state = .resetting ∧ testIdle.dpt.state ≠ .resetting) := by
  decide +kernel

/-- RESETTING with its timer, a drive present, and no drive. -/
theorem witness_driveLostAndReturned :
    (testResetting.dpt.state = .resetting ∧ testResetting.dpt.resetTimer.isSome = true) ∧
    (testIdle.dpt.state ≠ .resetting ∧ testIdle.dpt.state ≠ .absent) ∧
    testAbsent.dpt.state = .absent := by
  decide +kernel

/-- A command that is none of those excepted. -/
theorem witness_blockFieldsChangeAtCompletions :
    Instr.hold .a ≠ .powerOnReset true ∧
    Instr.hold .a ≠ .pinReset ∧
    Instr.hold .a ≠ .pathSlotCompletion 0 .good 1#16 [] ∧
    Instr.hold .a ≠ .reservedSlotCompletion .good 1#16 [] ∧
    gives (.hold .a) testIdle (fun _ => true) = true := by
  decide +kernel

/-- The HOLD and GO tests of a path of quota 16, whose hold_hi is 1 and hold_lo is 0, at the occupancies 0 and 1, and on a DOWN link. -/
theorem witness_stagingTests :
    ((testPages 1 false).linkUp .a = true ∧ ((testPages 1 false).pif.get .a).link = .up ∧ ((testPages 1 false).pif.get .a).partHold = false ∧
      holdHi (testPages 1 false).owc.policy .a ≤ (testPages 1 false).occupancy .a) ∧
    (testPages 0 false).occupancy .a < holdHi (testPages 0 false).owc.policy .a ∧
    (((testPages 0 true).pif.get .a).link = .up ∧ ((testPages 0 true).pif.get .a).partHold = true ∧
      (testPages 0 true).occupancy .a ≤ holdLo (testPages 0 true).owc.policy .a) ∧
    holdLo (testPages 1 true).owc.policy .a < (testPages 1 true).occupancy .a ∧
    (State.reset.pif.get .a).link = .down ∧
    ((testSending.onPif .b (fun f => f)).pif.get .b).sending.isSome = true ∧
    (testPages 0 true).occupancy .a < (testPages 1 true).occupancy .a ∧
    ((testPages 0 true).pif.get .a).flowWaiting ≠ some .hold ∧
    (((testHoldNotBegun false).pif.get .a).link = .up ∧ ((testHoldNotBegun false).pif.get .a).partHold = true ∧
      (testHoldNotBegun false).occupancy .a ≤ holdLo (testHoldNotBegun false).owc.policy .a ∧
      ((testHoldNotBegun false).pif.get .a).flowWaiting = some .hold ∧
      ((testHoldNotBegun false).pif.get .a).sending.isSome = true ∧
      ((testHoldNotBegun false).pif.get .a).heldServer = false) ∧
    ((testHoldNotBegun true).pif.get .a).heldServer = true := by
  decide +kernel

/-- R17, R193: a soft reset that finds the part-hold flag set sends GO, also in place of a HOLD not yet begun. -/
theorem test_softReset_sendsGo :
    ((testHoldNotBegun false).pif.get .a).softReset.flowWaiting = some .go := by
  decide +kernel

/-- A block that brings the occupancy to hold_hi. -/
theorem witness_writeDataStaged_hold :
    (TableInv testHoldNext ∧ ReportsMade testHoldNext) ∧
    (memoryWf testHoldNext.mem = true ∧ testHoldNext.linkUp .a = true ∧ testHoldNext.role .a ≠ .fenced) ∧
    (testHoldNext.writeEntry? .a 21#16 = some testPostedEntry ∧ testHoldNext.pageAllowed .a = true) ∧
    holdHi testHoldNext.owc.policy .a ≤ testHoldNext.occupancy .a + 1 ∧
    (testHoldNext.pif.get .a).partHold = false := by
  unfold TableInv ReportsMade
  decide +kernel

/-- Ends decided for an entry with nothing outstanding and with two segments outstanding. -/
theorem witness_writeDataTurnedAway_ends :
    (TableInv testPosted ∧ ReportsMade testPosted) ∧
    (testPostedEntry.endStatus = none ∧ testPostedEntry.fencedOutcome = none ∧ testPostedEntry.reported = false ∧
      testPostedEntry.outstanding = []) ∧
    (testPosted.pif.get .a).hasRoom = true ∧
    (TableInv testWriting ∧ testWriting.writeEntry? .a 100#16 = some testWritingEntry) ∧
    (testWritingEntry.acked = false ∧ testWritingEntry.phase ≠ .ending ∧ testWritingEntry.cut = false ∧
      testWritingEntry.outstanding ≠ [] ∧ (33#16).toNat ≠ testWritingEntry.staged) := by
  unfold TableInv ReportsMade
  decide +kernel

/-- A DOWN link: a FENCED path, no write with the tag, and a cut entry. -/
theorem witness_writeDataTurnedAway_down :
    ((testCut .fenced).linkUp .a = false ∧ (testCut .fenced).role .a = .fenced) ∧
    ((testCut .owner).linkUp .a = false ∧ (testCut .owner).role .a ≠ .fenced) ∧
    (testCut .owner).writeEntry? .a 9#16 = none ∧
    ((testCut .owner).writeEntry? .a 21#16 = some testCutEntry ∧ testCutEntry.cut = true) := by
  decide +kernel

/-- A link that is not free; a flow frame; an ECHO; a READ_DATA held back before another frame; and READ_DATA alone. -/
theorem witness_arbiterOfLink :
    (¬((testSending.pif.get .b).link = .up ∧ (testSending.pif.get .b).sending = none)) ∧
    ({ testUp with flowWaiting := some .hold }.link = .up ∧ { testUp with flowWaiting := some .hold }.sending = none) ∧
    ({ testUp with echoWaiting := some .hold }.flowWaiting = none ∧ { testUp with echoWaiting := some .hold }.echoWaiting = some .hold) ∧
    OldestSendable { testUp with serverHold := true, txq := [testBlock, { frame := .flagNotice .frozen, tie := .plain }] }
      [testBlock] { frame := .flagNotice .frozen, tie := .plain } [] ∧
    OldestSendable { testUp with txq := [testBlock] } [] testBlock [] ∧
    (∀ y ∈ { testUp with serverHold := true, txq := [testBlock] }.txq, y.frame.isReadData = true) := by
  unfold OldestSendable
  decide +kernel

/-- Each frame that may follow the one in transmission. -/
theorem witness_framesLeaveAndEnter_next :
    (testSending.pif.get .b).link = .up ∧
    ((testSending.onPif .b (fun f => { f with flowWaiting := some .go })).pif.get .b).flowWaiting = some .go ∧
    ((testSending.onPif .b (fun f => { f with echoWaiting := some .go })).pif.get .b).echoWaiting = some .go ∧
    OldestSendable ((testSending.onPif .b (fun f => { f with txq := [testBlock] })).pif.get .b) [] testBlock [] := by
  unfold OldestSendable
  decide +kernel

/-- The last block of a read in transmission; and, in ENDING, a block whose next one is fetched and one whose next one is not. -/
theorem witness_framesLeaveAndEnter_last :
    ((testLastBlock.pif.get .b).sending = some { source := .queue, item := testLastItem } ∧ testLastItem.tie = .block 0 1 1) ∧
    (testLastBlock.entry? 0 = some testLastEntry ∧ testLastEntry.age = 1 ∧ testLastEntry.op = .read ∧ testLastEntry.origin = .b ∧
      testLastEntry.fencedOutcome = none ∧ testLastEntry.acked = false ∧ testLastEntry.cut = false ∧
      testLastEntry.reported = false ∧ testLastEntry.phase = .running ∧ testLastEntry.outstanding = []) ∧
    testLastEntry.delivered + 1 = testLastEntry.count ∧
    (TableInv testLastBlock ∧ ReportsMade testLastBlock ∧ (testLastBlock.pif.get .b).waiting = [] ∧
      (testLastBlock.pif.get .b).transmitCount ≤ 32) ∧
    (testStalled.entry? 0 = some testStalledEntry ∧ testStalledEntry.phase = .ending ∧
      testStalledEntry.delivering (testStalled.role .b) = true ∧ testStalledEntry.endStatus = some .driveStall ∧
      (testStalled.pif.get .b).sending = some { source := .queue, item := testBlock }) ∧
    (TableInv testStalled ∧ ∃ r ∈ testStalled.stb.pages, r.slot = some 0 ∧ r.offset = testStalledEntry.delivered + 1 ∧
      r.state = .fetched ∧ r.number ≠ 0) ∧
    (testStalledShort.entry? 0 = some testStalledEntry ∧ testStalledShort.isFetched 0 (testStalledEntry.delivered + 1) = false ∧
      testStalledEntry.outstanding = []) ∧
    (testStalledEntry.origin = .b ∧ testStalledEntry.fencedOutcome = none ∧ testStalledEntry.cut = false) := by
  unfold TableInv ReportsMade
  decide +kernel

/-- An entry of each row of R128, done in full and not; and a slot with no report due. -/
theorem witness_entryReportedAndRemoved_rows :
    (testWriting.entry? 0 = some testWritingEntry ∧ testWriting.reportDue testWritingEntry = false) ∧
    (TableInv (testEndedAs { testEndedEntry with endStatus := some .fenced, fencedOutcome := some .torn }) ∧ (testEndedAs { testEndedEntry with endStatus := some .fenced, fencedOutcome := some .torn }).entry? 0 = some { testEndedEntry with endStatus := some .fenced, fencedOutcome := some .torn } ∧
      (testEndedAs { testEndedEntry with endStatus := some .fenced, fencedOutcome := some .torn }).reportDue { testEndedEntry with endStatus := some .fenced, fencedOutcome := some .torn } = true) ∧
    (TableInv (testEndedAs { testEndedEntry with endStatus := some .fenced, fencedOutcome := some .torn, committed := 1 }) ∧ (testEndedAs { testEndedEntry with endStatus := some .fenced, fencedOutcome := some .torn, committed := 1 }).entry? 0 = some { testEndedEntry with endStatus := some .fenced, fencedOutcome := some .torn, committed := 1 } ∧
      (testEndedAs { testEndedEntry with endStatus := some .fenced, fencedOutcome := some .torn, committed := 1 }).reportDue { testEndedEntry with endStatus := some .fenced, fencedOutcome := some .torn, committed := 1 } = true) ∧
    (TableInv (testEndedAs { testEndedEntry with op := .read, endStatus := some .fenced, fencedOutcome := some .readCut }) ∧ (testEndedAs { testEndedEntry with op := .read, endStatus := some .fenced, fencedOutcome := some .readCut }).entry? 0 = some { testEndedEntry with op := .read, endStatus := some .fenced, fencedOutcome := some .readCut } ∧
      (testEndedAs { testEndedEntry with op := .read, endStatus := some .fenced, fencedOutcome := some .readCut }).reportDue { testEndedEntry with op := .read, endStatus := some .fenced, fencedOutcome := some .readCut } = true) ∧
    (TableInv (testEndedAs { testEndedEntry with acked := true }) ∧ (testEndedAs { testEndedEntry with acked := true }).entry? 0 = some { testEndedEntry with acked := true } ∧
      (testEndedAs { testEndedEntry with acked := true }).reportDue { testEndedEntry with acked := true } = true) ∧
    (TableInv (testEndedAs { testEndedEntry with acked := true, committed := 1 }) ∧ (testEndedAs { testEndedEntry with acked := true, committed := 1 }).entry? 0 = some { testEndedEntry with acked := true, committed := 1 } ∧
      (testEndedAs { testEndedEntry with acked := true, committed := 1 }).reportDue { testEndedEntry with acked := true, committed := 1 } = true) := by
  unfold TableInv
  decide +kernel

/-- An entry of each row of R128, done in full and not; and a slot with no report due. -/
theorem witness_entryReportedAndRemoved_rows_rest :
    (TableInv (testEndedAs { testEndedEntry with cut := true }) ∧ (testEndedAs { testEndedEntry with cut := true }).entry? 0 = some { testEndedEntry with cut := true } ∧
      (testEndedAs { testEndedEntry with cut := true }).reportDue { testEndedEntry with cut := true } = true) ∧
    (TableInv (testEndedAs { testEndedEntry with cut := true, committed := 1 }) ∧ (testEndedAs { testEndedEntry with cut := true, committed := 1 }).entry? 0 = some { testEndedEntry with cut := true, committed := 1 } ∧
      (testEndedAs { testEndedEntry with cut := true, committed := 1 }).reportDue { testEndedEntry with cut := true, committed := 1 } = true) ∧
    (testEnded.role .a ≠ .fenced ∧ (setRole .a .fenced testEnded).role .a = .fenced) ∧
    (testEndedEntry.committed = testEndedEntry.count ∧ { testEndedEntry with committed := 1 }.committed ≠ testEndedEntry.count) ∧
    ((testEnded.pif.get .a).link = .up ∧ (testEnded.pif.get .a).transmitCount + 3 ≤ 32) ∧
    ((testFuller.pif.get .a).link = .up ∧ (testFuller.pif.get .a).transmitCount = 32 ∧ (testFuller.pif.get .a).hasRoom = false) := by
  unfold TableInv
  decide +kernel

/-- A write in ENDING with two segments at the drive. -/
theorem witness_writeCompletionCounted_ending :
    TableInv (testTable [{ testWritingEntry with phase := .ending, endStatus := some .badData }] testWriting) ∧
    { testWritingEntry with phase := .ending, endStatus := some .badData }.phase = .ending ∧
    { testWritingEntry with phase := .ending, endStatus := some .badData }.endStatus = some .badData ∧
    (CompletionClass.partialDone ≠ .good ∧ CompletionClass.media ≠ .good) := by
  unfold TableInv
  decide +kernel

/-- A read with a segment of two blocks at the drive; done 1 of 2; a reissue count of 0 and of 3. -/
theorem witness_readCompletionCounted :
    (TableInv testReading ∧ PagesInv testReading) ∧
    (memoryWf testReading.mem = true ∧ testReading.ift = [testReadingEntry]) ∧
    (testReadingEntry.op = .read ∧ testReadingEntry.phase = .running ∧ testReadingEntry.endStatus = none ∧
      2 ≤ testReadingEntry.issued) ∧
    (∀ r ∈ testReading.stb.pages, r.within 0 0 2 = true → r.state = .atDrive) ∧
    testReading.pageAt 0 1 = some { number := 4, path := .b, slot := some 0, offset := 1, state := .atDrive } ∧
    (List.replicate 4096 (9#8 : Byte)).length = 4096 ∧
    (testReadingEntry.reissue < 3 ∧ { testReadingEntry with reissue := 3 }.reissue = 3) ∧
    (testReadingEntry.fencedOutcome = none ∧ testReadingEntry.cut = false ∧ testReading.role .b ≠ .fenced) := by
  unfold TableInv PagesInv
  decide +kernel

/-- A FLUSH at the drive; a reissue count of 0 and of 3. -/
theorem witness_flushCompletionCounted :
    (TableInv testFlushing ∧ testFlushing.ift = [testFlushEntry]) ∧
    (testFlushEntry.op = .flush ∧ testFlushEntry.phase = .running ∧ testFlushEntry.endStatus = none) ∧
    (testFlushEntry.reissue < 3 ∧ { testFlushEntry with reissue := 3 }.reissue = 3) := by
  unfold TableInv
  decide +kernel

/-- A valid block that names a LOST owner, under auto_takeover with and without a grace time, and without auto_takeover. -/
theorem witness_loadJudgesBlock_lost :
    (testLoadLost.dpt.state = .ready ∧ testLoadLost.owc.state = .loading ∧ testLoadLost.role .a ≠ .fenced ∧
      testLoadLost.holderOf (testLoadLost.dpt.slotCount - 1) = some (.blockOp .load 1)) ∧
    gives (.reservedSlotCompletion .good 1#16 testBlockOfA) testLoadLost (fun t => (t.hmon.get .a).health == .lost) = true ∧
    (autoTakeover defaultPolicy = true ∧ defaultPolicy.graceMs ≠ 0#16) ∧
    acceptPolicy testLoadLost.reportedCapacity { defaultPolicy with graceMs := 0#16 } = some { defaultPolicy with graceMs := 0#16 } ∧
      autoTakeover { defaultPolicy with graceMs := 0#16 } = true ∧
    judgeBlock (fillOwnershipPage { owner := some .a, epoch := 9#16, count := 12#32, policy := { defaultPolicy with graceMs := 0#16 } }
      []) = .valid 1#8 9#16 12#32 { defaultPolicy with graceMs := 0#16 } ∧
    acceptPolicy testLoadLost.reportedCapacity { defaultPolicy with flags := 4#8 } = some { defaultPolicy with flags := 4#8 } ∧
      autoTakeover { defaultPolicy with flags := 4#8 } = false := by
  decide +kernel

/-- LOADING with no attempt begun; FROZEN with cause DRIVE; and a record in UNOWNED with a commit that waits for READY. -/
theorem witness_identifyResultsJudged_owc :
    ((testIdentifyingAs testLoading.owc).owc.state = .loading ∧ (testIdentifyingAs testLoading.owc).owc.attempt = 0) ∧
    (testIdentifyingAs { testIdle.owc with state := .frozen, frozenCause := some .drive }).owc.frozenCause = some .drive ∧
    (¬((testIdentifyingAs testPolicyCommit.owc).owc.state = .loading ∧ (testIdentifyingAs testPolicyCommit.owc).owc.attempt = 0) ∧
      ¬((testIdentifyingAs testPolicyCommit.owc).owc.state = .frozen ∧
        (testIdentifyingAs testPolicyCommit.owc).owc.frozenCause = some .drive)) ∧
    (testIdentifyingAs testPolicyCommit.owc).dpt.request = some .commit ∧
      (testIdentifyingAs testPolicyCommit.owc).dpt.state = .identifying := by
  decide +kernel

/-- An entry in a slot, a free slot, an orphan and a history record. -/
theorem witness_inspectAnswered_tables :
    (testWriting.entry? 0 = some testWritingEntry ∧ testWriting.entry? 31 = none) ∧
    ({ testIdle with owc := { testIdle.owc with orphans := [testEndedEntry.orphan .torn] } } : State).owc.orphans[0]? =
      some (testEndedEntry.orphan .torn) ∧
    ({ testIdle with owc := { testIdle.owc with history := [startRecord testIdle] } } : State).owc.history[0]? =
      some (startRecord testIdle) := by
  decide +kernel

/-- A part at work: a completion of a segment is at the front of its queue. -/
def testBusyStep : State :=
  { testWriting with pending := [.pathSlotCompletion 1 .partialDone 5#16 []] }

/-- The part at work meets every relation that the invariants keep, and its step answers a next state. -/
theorem witness_invariants :
    memoryWf testBusyStep.mem = true ∧ HealthInv testBusyStep ∧ OwnershipInv testBusyStep ∧ PagesInv testBusyStep ∧
      QueuesInv testBusyStep ∧ RecordsInv testBusyStep ∧ DriveInv testBusyStep ∧ TableInv testBusyStep ∧
      ReportsInv testBusyStep ∧
      (match step testBusyStep with
        | .next _ => true
        | _ => false) = true := by
  have noRecord : ∀ r, testBusyStep.owc.pendingPolicy = some r → thresholdsOrdered r = true := by
    intro r h
    cases h
  have noCommit : CommitSound testBusyStep := by
    refine ⟨?_, ?_, ?_⟩
    · intro c _ h
      cases h
    · intro _ h
      cases h
    · intro h
      cases h
  have roles : ∀ p, testBusyStep.role p = roleFor testBusyStep.owc p := by
    intro p
    cases p <;> decide +kernel
  have owner : ∀ p, testBusyStep.owc.owner = some p → testBusyStep.role p ≠ .fenced := by
    intro p
    cases p <;> decide +kernel
  have health : ∀ p, HealthSound testBusyStep.owc.policy (testBusyStep.pif.get p).link (testBusyStep.hmon.get p) := by
    unfold HealthSound
    intro p
    cases p <;> decide +kernel
  have queues : QueuesInv testBusyStep := by
    intro p
    unfold PifBounded
    cases p <;> refine ⟨?_, ?_, ?_, ?_, ?_⟩ <;> first | decide +kernel | (intro flag; cases flag <;> decide +kernel)
  have records : RecordsInv testBusyStep := by
    refine ⟨?_, ?_, ?_, ?_, ?_, ?_, ?_⟩ <;> decide +kernel
  have drive : DriveInv testBusyStep := by
    refine ⟨?_, ?_, ?_, ?_⟩
    · intro _
      refine ⟨?_, ?_, ?_, ?_⟩
      · decide +kernel
      · decide +kernel
      · decide +kernel
      · intro b h
        fin_cases h <;> simp [SlotSound, testBusyStep, testWriting, testTable, testDrive]
    · intro h
      cases h
    · intro h
      exact absurd rfl h
    · decide +kernel
  refine ⟨?_, ⟨⟨?_, noRecord⟩, health⟩, ⟨?_, owner, roles, noCommit⟩, ?_, queues, records, drive, ?_, ?_, ?_⟩
  · decide +kernel
  · decide +kernel
  · decide +kernel
  · unfold PagesInv
    decide +kernel
  · unfold TableInv
    decide +kernel
  · unfold ReportsInv TableInv ReportsMade
    decide +kernel
  · decide +kernel

/-- The owner in GRACE at score 80, which its next pulse takes to 32. -/
def testPulse : State :=
  { testGrace with hmon := { a := { testLost with score := 80 }, b := testWell } }

/-- A pulse that ends GRACE, and one that changes no health. -/
theorem witness_pulseCreditedAndEchoed :
    HealthInv testPulse ∧ OwnershipInv testPulse ∧ testPulse.linkUp .a = true ∧ testPulse.owc.state = .grace ∧
      testPulse.owc.owner = some .a ∧
      gives (.pulse .a 7#16 4#8) testPulse (fun t => (t.hmon.get .a).health != (testPulse.hmon.get .a).health) = true ∧
      gives (.pulse .b 7#16 4#8) testPulse (fun t => (t.hmon.get .b).health == (testPulse.hmon.get .b).health) = true := by
  have noRecord : ∀ r, testPulse.owc.pendingPolicy = some r → thresholdsOrdered r = true := by
    intro r h
    cases h
  have noCommit : CommitSound testPulse := by
    refine ⟨?_, ?_, ?_⟩
    · intro c _ h
      cases h
    · intro _ h
      cases h
    · intro h
      cases h
  have health : ∀ p, HealthSound testPulse.owc.policy (testPulse.pif.get p).link (testPulse.hmon.get p) := by
    unfold HealthSound
    intro p
    cases p <;> decide +kernel
  have roles : ∀ p, testPulse.role p = roleFor testPulse.owc p := by
    intro p
    cases p <;> decide +kernel
  have owner : ∀ p, testPulse.owc.owner = some p → testPulse.role p ≠ .fenced := by
    intro p
    cases p <;> decide +kernel
  refine ⟨⟨⟨?_, noRecord⟩, health⟩, ⟨?_, owner, roles, noCommit⟩, ?_, ?_, ?_, ?_, ?_⟩ <;> decide +kernel

/-- A DOWN link in a part whose health is sound, with no write entry. -/
theorem witness_writeDataTurnedAway_late :
    HealthInv State.reset ∧ State.reset.linkUp .a = false ∧ State.reset.role .a ≠ .fenced ∧
      State.reset.writeEntry? .a 9#16 = none := by
  have noRecord : ∀ r, State.reset.owc.pendingPolicy = some r → thresholdsOrdered r = true := by
    intro r h
    cases h
  have health : ∀ p, HealthSound State.reset.owc.policy (State.reset.pif.get p).link (State.reset.hmon.get p) := by
    unfold HealthSound
    intro p
    cases p <;> decide +kernel
  refine ⟨⟨⟨?_, noRecord⟩, health⟩, ?_, ?_, ?_⟩ <;> decide +kernel

end Sys2Proof.Machine
end

section
/-! The limits of queues, records and counters: what each operation of the model keeps of them (R10, R12, R55, R66, R90,
R97, R158, R180). -/

namespace Sys2Proof.Machine

-- One thread, as in the tests: with a thread per declaration the text runs into the check's memory limit.
set_option Elab.async false

/-! ## The limits, part by part -/

/-- How many frames of a producer may wait for one path; `none` where no rule limits them (R97, R180). -/
def Producer.limit : Producer → Option Nat
  | .adm => some 1
  | .fnuFlag _ => some 1
  | .fnuAnswer => some Config.waitingAnswers
  | .ift => none
  | .iftFinal _ => none
  | .owc => none
  | .stb => none

/-- The waiting producers of a path are within their limits. -/
def Pif.WaitingWithin (f : Pif) : Prop :=
  ∀ producer n, producer.limit = some n → f.waitingOf producer ≤ n

theorem pifBounded_iff (f : Pif) :
    PifBounded f ↔
      f.rxq.length ≤ Config.receiveDepth ∧ f.transmitCount ≤ Config.transmitDepth ∧ f.WaitingWithin := by
  unfold PifBounded
  refine and_congr_right fun _ => and_congr_right fun _ => ⟨fun ⟨adm, flag, answers⟩ producer n h => ?_, fun h => ?_⟩
  · cases producer <;> simp only [Producer.limit, Option.some.injEq, reduceCtorEq] at h <;> subst h
    · exact adm
    · exact answers
    · exact flag _
  · exact ⟨h .adm _ rfl, fun flag => h (.fnuFlag flag) _ rfl, h .fnuAnswer _ rfl⟩

/-- OWC's part of `RecordsInv` (R55, R66, R90). -/
def Owc.Within (o : Owc) : Prop :=
  o.history.length ≤ Config.historyDepth ∧ o.orphans.length ≤ Config.orphanDepth ∧ o.dropped ≤ Config.counterMax ∧
    (∀ n, o.orphansAdded = some n → n ≤ Config.counterMax) ∧ o.attempt ≤ Config.attemptMax

/-- DPT's part of `RecordsInv` (R158). -/
def Dpt.Within (d : Dpt) : Prop :=
  d.identifyFailures ≤ Config.attemptMax ∧
    (d.state = .identifying ∨ d.state = .resetting ∨ d.state = .ready → d.identifyFailures < Config.attemptMax)

theorem recordsInv_iff (s : State) : RecordsInv s ↔ s.owc.Within ∧ s.dpt.Within := by
  unfold RecordsInv Owc.Within Dpt.Within
  tauto

/-- Going from `s` to `t`, every part of the machine that was within its limits still is. Each limit rests on its own
part alone, so that one pass through the operations shows them all. -/
def KeepsLimits (s t : State) : Prop :=
  (∀ p, PifBounded (s.pif.get p) → PifBounded (t.pif.get p)) ∧ (s.owc.Within → t.owc.Within) ∧
    (s.dpt.Within → t.dpt.Within)

theorem KeepsLimits.queues {s t : State} (h : KeepsLimits s t) (hs : QueuesInv s) : QueuesInv t :=
  fun p => h.1 p (hs p)

theorem KeepsLimits.records {s t : State} (h : KeepsLimits s t) (hs : RecordsInv s) : RecordsInv t := by
  rw [recordsInv_iff] at hs ⊢
  exact ⟨h.2.1 hs.1, h.2.2 hs.2⟩

theorem KeepsLimits.refl (s : State) : KeepsLimits s s :=
  ⟨fun _ h => h, id, id⟩

theorem KeepsLimits.trans {s t u : State} (h : KeepsLimits s t) (k : KeepsLimits t u) : KeepsLimits s u :=
  ⟨fun p hp => k.1 p (h.1 p hp), fun ho => k.2.1 (h.2.1 ho), fun hd => k.2.2 (h.2.2 hd)⟩

/-- The limits do not see the rest of the state, and of the Drive Port only the state and the failure counter. -/
theorem KeepsLimits.of_frame {s t : State} (hpif : t.pif = s.pif := by simp) (howc : t.owc = s.owc := by simp)
    (hstate : t.dpt.state = s.dpt.state := by simp)
    (hfailures : t.dpt.identifyFailures = s.dpt.identifyFailures := by simp) : KeepsLimits s t := by
  refine ⟨fun p h => by rwa [hpif], fun h => by rwa [howc], fun h => ?_⟩
  unfold Dpt.Within
  rwa [hstate, hfailures]

/-- A change of OWC's record alone. -/
theorem KeepsLimits.of_owc {s t : State} (howc : s.owc.Within → t.owc.Within) (hpif : t.pif = s.pif := by simp)
    (hdpt : t.dpt = s.dpt := by simp) : KeepsLimits s t :=
  ⟨fun p h => by rwa [hpif], howc, fun h => by rwa [hdpt]⟩

/-- A change of the Drive Port alone. -/
theorem KeepsLimits.of_dpt {s t : State} (hdpt : s.dpt.Within → t.dpt.Within) (hpif : t.pif = s.pif := by simp)
    (howc : t.owc = s.owc := by simp) : KeepsLimits s t :=
  ⟨fun p h => by rwa [hpif], fun h => by rwa [howc], hdpt⟩

/-- A change of one path interface. -/
theorem KeepsLimits.onPif {p : Path} {f : Pif → Pif} {s : State}
    (h : PifBounded (s.pif.get p) → PifBounded (f (s.pif.get p))) : KeepsLimits s (s.onPif p f) := by
  refine ⟨fun q hq => ?_, id, id⟩
  rw [State.onPif_pif, Both.get_set]
  split
  · subst q
    exact h hq
  · exact hq

/-! ## A path interface -/

theorem Pif.waitingOf_append (producer : Producer) (w : Waiting) (f : Pif) :
    Pif.waitingOf producer { f with waiting := f.waiting ++ [w] } =
      f.waitingOf producer + if w.producer = producer then 1 else 0 := by
  by_cases h : w.producer = producer <;> simp [Pif.waitingOf, h]

/-- A sublist of the waiting frames, in no longer queues. -/
theorem PifBounded.of_le {f g : Pif} (h : PifBounded f) (hrxq : g.rxq.length ≤ f.rxq.length)
    (htxq : g.transmitCount ≤ f.transmitCount) (hwaiting : g.waiting.Sublist f.waiting) : PifBounded g := by
  rw [pifBounded_iff] at h ⊢
  obtain ⟨rxq, txq, waiting⟩ := h
  exact ⟨hrxq.trans rxq, htxq.trans txq, fun producer n hn =>
    ((hwaiting.filter _).length_le).trans (waiting producer n hn)⟩

/-- The same queues and the same waiting frames. -/
theorem PifBounded.of_eq {f g : Pif} (h : PifBounded f) (hrxq : g.rxq = f.rxq) (htxq : g.txq = f.txq)
    (hsending : g.sendingFromQueue = f.sendingFromQueue) (hwaiting : g.waiting = f.waiting) : PifBounded g := by
  refine h.of_le (by rw [hrxq]) ?_ (by rw [hwaiting])
  unfold Pif.transmitCount
  rw [htxq, hsending]

theorem takeSendable_length {held : Bool} {l rest : List TxItem} {x : TxItem}
    (h : takeSendable held l = some (x, rest)) : rest.length + 1 = l.length := by
  induction l generalizing rest with
  | nil => simp [takeSendable] at h
  | cons y l ih =>
    unfold takeSendable at h
    split at h
    · split at h
      · next z others hz =>
        cases h
        simp [← ih hz]
      · cases h
    · cases h
      rfl

/-- The frame chosen keeps its position of the transmit queue while it is sent (R13). -/
@[simp] theorem Pif.chooseNext_transmitCount (f : Pif) : f.chooseNext.transmitCount = f.transmitCount := by
  unfold Pif.chooseNext
  split
  · next idle =>
    obtain ⟨_, free⟩ := idle
    split
    · simp [Pif.transmitCount, Pif.sendingFromQueue, free]
    · split
      · simp [Pif.transmitCount, Pif.sendingFromQueue, free]
      · split
        · next x rest taken =>
          simp [Pif.transmitCount, Pif.sendingFromQueue, free, takeSendable_length taken]
        · rfl
  · rfl

@[simp] theorem Pif.enqueue_transmitCount (x : TxItem) (f : Pif) :
    (f.enqueue x).transmitCount = f.transmitCount + 1 := by
  have same : Pif.sendingFromQueue { f with txq := f.txq ++ [x] } = f.sendingFromQueue := rfl
  rw [Pif.enqueue, Pif.chooseNext_transmitCount, Pif.transmitCount, Pif.transmitCount, same, List.length_append,
    List.length_singleton, Nat.add_right_comm]

theorem Pif.transmitCount_lt_of_hasRoom {f : Pif} (h : f.hasRoom = true) : f.transmitCount < Config.transmitDepth := by
  simp only [Pif.hasRoom, Bool.and_eq_true, decide_eq_true_eq] at h
  exact h.2

theorem PifBounded.chooseNext {f : Pif} (h : PifBounded f) : PifBounded f.chooseNext :=
  h.of_le (by simp) (by simp) (by simp)

theorem PifBounded.enqueue {f : Pif} (x : TxItem) (room : f.transmitCount < Config.transmitDepth) (h : PifBounded f) :
    PifBounded (f.enqueue x) := by
  rw [pifBounded_iff] at h ⊢
  obtain ⟨rxq, _, waiting⟩ := h
  refine ⟨by simpa using rxq, by simpa using room, ?_⟩
  simpa [Pif.WaitingWithin, Pif.waitingOf] using waiting

/-- An offer keeps the limits where the producer, if its frame has to wait, is below its own. -/
theorem PifBounded.offer {f : Pif} (producer : Producer) (x : TxItem)
    (room : f.hasRoom = false → ∀ n, producer.limit = some n → f.waitingOf producer < n) (h : PifBounded f) :
    PifBounded (f.offer producer x) := by
  unfold Pif.offer
  split
  · exact h
  · split
    · next hasRoom => exact h.enqueue x (Pif.transmitCount_lt_of_hasRoom hasRoom)
    · next noRoom =>
      rw [pifBounded_iff] at h ⊢
      obtain ⟨rxq, txq, waiting⟩ := h
      refine ⟨rxq, txq, fun other n hn => ?_⟩
      rw [Pif.waitingOf_append]
      split
      · next same =>
        subst same
        exact room (by simpa using noRoom) n hn
      · exact waiting other n hn

/-- A producer without a limit may always offer. -/
theorem PifBounded.offer_unlimited {f : Pif} {producer : Producer} (x : TxItem) (unlimited : producer.limit = none)
    (h : PifBounded f) : PifBounded (f.offer producer x) :=
  h.offer producer x fun _ n hn => by simp [unlimited] at hn

theorem Pif.waitingOf_eq_zero {f : Pif} {producer : Producer}
    (h : f.waiting.any (fun w => w.producer == producer) = false) : f.waitingOf producer = 0 := by
  rw [Pif.waitingOf, List.length_eq_zero_iff, List.filter_eq_nil_iff]
  simpa using h

theorem PifBounded.offerFlagNotice {f : Pif} (flag : Flag) (h : PifBounded f) :
    PifBounded (f.offerFlagNotice flag) := by
  unfold Pif.offerFlagNotice
  split
  · exact h
  · next free =>
    refine h.offer _ _ fun noRoom n hn => ?_
    cases hn
    rw [Pif.waitingOf_eq_zero (by simpa [noRoom] using free)]
    decide

theorem PifBounded.enterWaiting {f : Pif} (h : PifBounded f) : PifBounded f.enterWaiting := by
  unfold Pif.enterWaiting
  split
  · exact h
  · next w rest hw =>
    split
    · next room =>
      have popped : PifBounded { f with waiting := rest } := h.of_le le_rfl le_rfl (by simp [hw])
      exact popped.enqueue w.item (Pif.transmitCount_lt_of_hasRoom room)
    · exact h

theorem PifBounded.placeFlow {f : Pif} (frame : OutFrame) (h : PifBounded f) : PifBounded (f.placeFlow frame) :=
  PifBounded.chooseNext (h.of_eq rfl rfl rfl rfl)

theorem PifBounded.placeEcho {f : Pif} (frame : OutFrame) (h : PifBounded f) : PifBounded (f.placeEcho frame) :=
  PifBounded.chooseNext (h.of_eq rfl rfl rfl rfl)

theorem PifBounded.sendHold {f : Pif} (h : PifBounded f) : PifBounded f.sendHold :=
  PifBounded.placeFlow .hold (h.of_eq rfl rfl rfl rfl)

theorem PifBounded.sendGo {f : Pif} (h : PifBounded f) : PifBounded f.sendGo :=
  PifBounded.placeFlow .go (h.of_eq rfl rfl rfl rfl)

theorem PifBounded.askGo {f : Pif} (h : PifBounded f) : PifBounded f.askGo := by
  unfold Pif.askGo Pif.withdrawGo
  split
  · split
    · exact h.sendGo.of_eq rfl rfl rfl rfl
    · exact h.sendGo
  · exact h.sendGo

theorem PifBounded.withdrawReadData {f : Pif} (h : PifBounded f) : PifBounded f.withdrawReadData := by
  have same : f.withdrawReadData.sendingFromQueue = f.sendingFromQueue := by
    unfold Pif.sendingFromQueue Pif.withdrawReadData
    cases f.sending with
    | none => rfl
    | some x => cases hx : x.item.tie <;> simp [hx]
  refine h.of_le le_rfl ?_ List.filter_sublist
  unfold Pif.transmitCount
  rw [same]
  exact Nat.add_le_add_right (List.length_filter_le _ _) _

/-- Only a final reply's frame changes its producer, which has no limit before or after. -/
theorem PifBounded.keepReply {f : Pif} (slot : Nat) (h : PifBounded f) : PifBounded (f.keepReply slot) := by
  rw [pifBounded_iff] at h ⊢
  obtain ⟨rxq, txq, waiting⟩ := h
  refine ⟨rxq, txq, fun producer n hn => ?_⟩
  have same : (f.keepReply slot).waitingOf producer = f.waitingOf producer := by
    unfold Pif.waitingOf Pif.keepReply
    rw [List.filter_map, List.length_map]
    congr 1
    refine List.filter_congr fun w _ => ?_
    by_cases hw : w.producer = .iftFinal slot
    · cases producer <;> simp_all [Producer.limit]
    · simp [hw]
  rw [same]
  exact waiting producer n hn

theorem PifBounded.finishSending {f : Pif} (x : Sending) (h : PifBounded f) : PifBounded (f.finishSending x) :=
  h.of_le le_rfl (by simp [Pif.transmitCount, Pif.sendingFromQueue, Pif.finishSending]) (List.Sublist.refl _)

theorem PifBounded.arrives {f : Pif} (frame : QueuedFrame) (h : PifBounded f)
    (room : f.rxq.length < Config.receiveDepth) : PifBounded { f with rxq := f.rxq ++ [frame] } := by
  rw [pifBounded_iff] at h ⊢
  exact ⟨by simpa using room, h.2⟩

/-- An interface whose queues are empty and for which no frame waits. -/
theorem PifBounded.of_empty {f : Pif} (hrxq : f.rxq = []) (htxq : f.txq = []) (hwaiting : f.waiting = []) :
    PifBounded f := by
  rw [pifBounded_iff]
  refine ⟨by simp [hrxq], ?_, fun producer n _ => by simp [Pif.waitingOf, hwaiting]⟩
  unfold Pif.transmitCount
  rw [htxq]
  split <;> decide

theorem PifBounded.softReset (f : Pif) : PifBounded f.softReset := by
  have cleared : PifBounded f.softClear := PifBounded.of_empty rfl rfl rfl
  unfold Pif.softReset
  split
  · exact cleared.placeFlow .go
  · exact cleared

end Sys2Proof.Machine
end

section
/-! The limits of queues, records and counters: the shared operations keep them. -/

namespace Sys2Proof.Machine

set_option Elab.async false

/-! ## Chains of operations -/

theorem forSlots_limits {op : Nat → State → State} (h : ∀ k s, KeepsLimits s (op k s)) (l : List Nat) (s : State) :
    KeepsLimits s (forSlots op l s) := by
  induction l generalizing s with
  | nil => exact .refl s
  | cons k rest ih => exact (h k s).trans (ih (op k s))

theorem foldl_limits {α : Type} {op : State → α → State} (h : ∀ x s, KeepsLimits s (op s x)) (l : List α) (s : State) :
    KeepsLimits s (l.foldl op s) := by
  induction l generalizing s with
  | nil => exact .refl s
  | cons x rest ih => exact (h x s).trans (ih (op s x))

/-! ## Frames and flags -/

theorem offer_limits (p : Path) {producer : Producer} (frame : OutFrame) (s : State) (unlimited : producer.limit = none) :
    KeepsLimits s (s.offer p producer frame) :=
  .onPif (.offer_unlimited _ unlimited)

/-- ADM's offer, made while none of its frames waits (R97). -/
theorem offer_adm_limits (p : Path) (frame : OutFrame) (s : State) (none : s.admWaits p = false) :
    KeepsLimits s (s.offer p .adm frame) := by
  refine .onPif fun h => h.offer _ _ fun _ n hn => ?_
  cases hn
  rw [Pif.waitingOf_eq_zero none]
  decide

/-- FNU's offer of an answer, made while fewer than 16 wait (R180). -/
theorem offer_answer_limits (p : Path) (frame : OutFrame) (s : State) (room : answersRoom s p = true) :
    KeepsLimits s (s.offer p .fnuAnswer frame) := by
  refine .onPif fun h => h.offer _ _ fun _ n hn => ?_
  cases hn
  exact of_decide_eq_true room

theorem raiseIn_limits (p : Path) (flag : Flag) (s : State) : KeepsLimits s (raiseIn p flag s) := by
  unfold raiseIn
  split
  · exact .refl s
  · dsimp only
    split
    · exact KeepsLimits.trans (.of_frame rfl rfl rfl rfl) (.onPif (.offerFlagNotice flag))
    · exact .of_frame rfl rfl rfl rfl

theorem raiseBoth_limits (flag : Flag) (s : State) : KeepsLimits s (raiseBoth flag s) :=
  (raiseIn_limits .a flag s).trans (raiseIn_limits .b flag _)

/-! ## The staging buffer and the drive's slots -/

theorem testHold_limits (p : Path) (s : State) : KeepsLimits s (testHold p s) := by
  unfold testHold
  split
  · exact .onPif .sendHold
  · exact .refl s

theorem testGo_limits (p : Path) (s : State) : KeepsLimits s (testGo p s) := by
  unfold testGo
  split
  · exact .onPif .askGo
  · exact .refl s

theorem testGoAfter_limits (before : State) (p : Path) (s : State) : KeepsLimits s (testGoAfter before p s) := by
  unfold testGoAfter
  split
  · exact testGo_limits p s
  · exact .refl s

theorem testThresholds_limits (p : Path) (s : State) : KeepsLimits s (testThresholds p s) := by
  unfold testThresholds
  split
  · exact testGo_limits p s
  · exact testHold_limits p s

theorem makeGrant_limits (g : GrantRequest) (s : State) : KeepsLimits s (makeGrant g s) := by
  unfold makeGrant
  split
  · exact .of_frame
  · exact KeepsLimits.trans .of_frame (testHold_limits _ _)

theorem walkFrom_limits (l : List GrantRequest) (full : Both Bool) (s : State) : KeepsLimits s (walkFrom l full s) := by
  induction l generalizing full s with
  | nil => exact .refl s
  | cons g rest ih =>
    unfold walkFrom
    split
    · exact ih full s
    · split
      · exact ih _ s
      · split
        · exact .refl s
        · exact (makeGrant_limits g s).trans (ih full _)

theorem walkGrants_limits (s : State) : KeepsLimits s (walkGrants s) :=
  KeepsLimits.trans (t := placeRequests s) .of_frame (walkFrom_limits _ _ _)

theorem issueReserved_limits (s : State) : KeepsLimits s (issueReserved s) :=
  .of_frame

theorem requestBlockOp_limits (op : BlockOp) (s : State) : KeepsLimits s (requestBlockOp op s) :=
  .of_frame

theorem arbiterGift_limits {s t : State} (h : arbiterGift s = some t) : KeepsLimits s t := by
  unfold arbiterGift at h
  split at h
  · split at h
    · split at h
      · cases h
        exact KeepsLimits.trans .of_frame (walkGrants_limits _)
      · cases h
    · cases h
  · cases h

theorem arbiterRuns_limits (n : Nat) (s : State) : KeepsLimits s (arbiterRuns n s) := by
  induction n generalizing s with
  | zero => exact .refl s
  | succ n ih =>
    unfold arbiterRuns
    split
    · next t gift => exact (arbiterGift_limits gift).trans (ih t)
    · exact .refl s

theorem runArbiter_limits (s : State) : KeepsLimits s (runArbiter s) :=
  arbiterRuns_limits _ s

/-- An identify attempt begins only below three failures (R158). -/
theorem startIdentify_limits (s : State) (h : s.dpt.Within → s.dpt.identifyFailures < Config.attemptMax) :
    KeepsLimits s (startIdentify s) :=
  .of_dpt (fun hs => ⟨hs.1, fun _ => h hs⟩) rfl rfl

theorem offerReadData_limits (p : Path) (s : State) : KeepsLimits s (offerReadData p s) := by
  unfold offerReadData
  split
  · exact .refl s
  · split
    · exact .refl s
    · split
      · exact .refl s
      · exact .onPif (.offer_unlimited _ rfl)

theorem follow_limits (before s : State) : KeepsLimits s (follow before s) :=
  (testGoAfter_limits before .a s).trans <| (testGoAfter_limits before .b _).trans <| (walkGrants_limits _).trans <|
    (runArbiter_limits _).trans <| (offerReadData_limits .a _).trans (offerReadData_limits .b _)

/-! ## Ownership and reports -/

theorem refreshRoles_limits (s : State) : KeepsLimits s (refreshRoles s) :=
  .of_owc id

theorem sendNotices_limits (s : State) : KeepsLimits s (sendNotices s) :=
  (offer_limits .a _ s rfl).trans (offer_limits .b _ _ rfl)

theorem produceReply_limits (status : Status) (r : OwedReply) (s : State) : KeepsLimits s (produceReply status r s) :=
  offer_limits _ _ s rfl

theorem addHistory_limits (r : HistoryRecord) (s : State) : KeepsLimits s (addHistory r s) :=
  .of_owc fun ⟨_, rest⟩ => ⟨List.length_take_le _ _, rest⟩

theorem Owc.Within.withOrphan {o : Owc} (r : OrphanRecord) (h : o.Within) : (o.withOrphan r).Within := by
  obtain ⟨history, orphans, dropped, added, attempt⟩ := h
  refine ⟨history, ?_, ?_, fun n hn => ?_, attempt⟩
  · simp only [Owc.withOrphan, List.length_append, List.length_singleton]
    split <;> simp only [Config.orphanDepth, List.length_drop] at * <;> omega
  · simp only [Owc.withOrphan]
    split
    · exact min_le_right _ _
    · exact dropped
  · obtain ⟨m, _, rfl⟩ := Option.map_eq_some_iff.1 hn
    exact min_le_right _ _

theorem addOrphan_limits (r : OrphanRecord) (s : State) : KeepsLimits s (addOrphan r s) := by
  refine .trans ?_ (raiseBoth_limits _ _)
  exact .of_owc (.withOrphan r) rfl rfl

/-- The same records and counters, with another count of attempts. -/
theorem Owc.Within.of_attempt {o o' : Owc} (h : o.Within) (attempt : o'.attempt ≤ Config.attemptMax)
    (history : o'.history = o.history := by rfl) (orphans : o'.orphans = o.orphans := by rfl)
    (dropped : o'.dropped = o.dropped := by rfl) (added : o'.orphansAdded = o.orphansAdded := by rfl) : o'.Within := by
  unfold Owc.Within
  rw [history, orphans, dropped, added]
  exact ⟨h.1, h.2.1, h.2.2.1, h.2.2.2.1, attempt⟩

theorem beginCommit_limits (purpose : Purpose) (c : Contents) (s : State) :
    KeepsLimits s (beginCommit purpose c s) := by
  refine .trans ?_ (requestBlockOp_limits _ _)
  exact .of_owc (fun h => h.of_attempt (by decide : 1 ≤ Config.attemptMax)) rfl rfl

theorem beginTransition_limits (purpose : Purpose) (s : State) : KeepsLimits s (beginTransition purpose s) := by
  unfold beginTransition
  split
  · exact .of_owc id
  · exact beginCommit_limits _ _ s

theorem endDrain_limits (cause : DrainCause) (drained : Path) (s : State) : KeepsLimits s (endDrain cause drained s) := by
  refine .trans ?_ (beginTransition_limits _ _)
  exact .of_owc id rfl rfl

theorem checkDrainEnd_limits (s : State) : KeepsLimits s (checkDrainEnd s) := by
  unfold checkDrainEnd
  split
  · split
    · exact endDrain_limits _ _ s
    · exact .refl s
  · exact .refl s

theorem onEntry_limits (slot : Nat) (f : Entry → Entry) (s : State) : KeepsLimits s (s.onEntry slot f) :=
  .of_frame

theorem dropEntry_limits (slot : Nat) (s : State) : KeepsLimits s (dropEntry slot s) :=
  .of_frame

theorem finalReply_limits (e : Entry) (status : Status) (s : State) : KeepsLimits s (finalReply e status s) := by
  unfold finalReply
  dsimp only
  split
  · exact .trans (offer_limits e.origin _ s rfl) (onEntry_limits _ _ _)
  · exact .trans (offer_limits e.origin _ s rfl) (dropEntry_limits _ _)

theorem reportOrphan_limits (e : Entry) (outcome : Outcome) (s : State) : KeepsLimits s (reportOrphan e outcome s) := by
  unfold reportOrphan
  split
  · exact (raiseBoth_limits _ s).trans (addOrphan_limits _ _)
  · exact addOrphan_limits _ s

theorem makeReport_limits (e : Entry) (s : State) : KeepsLimits s (makeReport e s) := by
  have removed (outcome : Outcome) : KeepsLimits s (dropEntry e.slot (reportOrphan e outcome s)) :=
    (reportOrphan_limits e outcome s).trans (dropEntry_limits _ _)
  unfold makeReport
  split
  · refine .trans ?_ (finalReply_limits _ _ _)
    exact (reportOrphan_limits e _ s).trans (onEntry_limits _ _ _)
  · split
    · split
      · exact removed _
      · split
        · exact dropEntry_limits _ s
        · exact removed _
    · split
      · exact removed _
      · split
        · exact finalReply_limits _ _ s
        · exact .refl s

theorem reportSlot_limits (slot : Nat) (s : State) : KeepsLimits s (reportSlot slot s) := by
  unfold reportSlot
  split
  · exact .refl s
  · split
    · exact KeepsLimits.trans .of_frame (makeReport_limits _ _)
    · exact .refl s

theorem reportAll_limits (s : State) : KeepsLimits s (reportAll s) :=
  forSlots_limits reportSlot_limits _ s

theorem conclude_limits (before s : State) : KeepsLimits s (conclude before s) :=
  (reportAll_limits s).trans <| (checkDrainEnd_limits _).trans (follow_limits _ _)

theorem enterWaiting_limits (p : Path) (s : State) : KeepsLimits s (enterWaiting p s) := by
  have entered : KeepsLimits s (s.onPif p Pif.enterWaiting) := .onPif .enterWaiting
  unfold enterWaiting
  dsimp only
  split
  · exact entered.trans (dropEntry_limits _ _)
  · exact entered

/-! ## Fencing and the owner's health -/

theorem answerFenced_limits (p : Path) (frame : QueuedFrame) (s : State) : KeepsLimits s (answerFenced p s frame) := by
  unfold answerFenced
  split
  · exact offer_limits _ _ s rfl
  · exact .refl s

theorem withdrawPathReadData_limits (p : Path) (s : State) : KeepsLimits s (withdrawPathReadData p s) := by
  unfold withdrawPathReadData
  dsimp only
  split
  · exact KeepsLimits.trans .of_frame (.onPif .withdrawReadData)
  · exact .onPif .withdrawReadData

theorem fenceEntry_limits (slot : Nat) (s : State) : KeepsLimits s (fenceEntry slot s) := by
  unfold fenceEntry
  split
  · exact .refl s
  · split
    · exact KeepsLimits.trans (.onPif (.keepReply slot)) (dropEntry_limits _ _)
    · split
      · exact .refl s
      · dsimp only
        split <;> exact .of_frame

theorem fence_limits (p : Path) (s : State) : KeepsLimits s (fence p s) :=
  KeepsLimits.trans (t := (setRole p .fenced s).onPif p Pif.emptyReceive)
      (KeepsLimits.trans (.of_owc id) (.onPif fun h => h.of_le (Nat.zero_le _) le_rfl (.refl _))) <|
    (foldl_limits (answerFenced_limits p) _ _).trans <| (withdrawPathReadData_limits p _).trans <|
    (enterWaiting_limits p _).trans <| (forSlots_limits fenceEntry_limits _ _).trans (reportAll_limits _)

theorem Owc.Within.beginDrain {o : Owc} (stage : DrainStage) (cause : DrainCause) (drained : Path)
    (successor : Option Path) (h : o.Within) : (o.beginDrain stage cause drained successor).Within := by
  obtain ⟨history, orphans, dropped, _, attempt⟩ := h
  exact ⟨history, orphans, dropped, fun n hn => by cases hn; decide, attempt⟩

theorem startDrainTimer_limits (s : State) : KeepsLimits s (startDrainTimer s) :=
  .of_owc id

theorem beginFencedDrain_limits (cause : DrainCause) (owner : Path) (s : State) :
    KeepsLimits s (beginFencedDrain cause owner s) := by
  refine .trans ?_ <| (fence_limits owner _).trans <| (startDrainTimer_limits _).trans <|
    (refreshRoles_limits _).trans (conclude_limits s _)
  exact .of_owc (.beginDrain .fenced cause owner (some owner.other)) rfl rfl

theorem beginReleaseDrain_limits (cause : DrainCause) (releaser : Path) (successor : Option Path) (s : State) :
    KeepsLimits s (beginReleaseDrain cause releaser successor s) := by
  refine .trans ?_ <| (startDrainTimer_limits _).trans <| (refreshRoles_limits _).trans (conclude_limits s _)
  exact .of_owc (.beginDrain .cooperative cause releaser successor) rfl rfl

theorem ownerLost_limits (p : Path) (s : State) : KeepsLimits s (ownerLost p s) := by
  unfold ownerLost
  split
  · split
    · exact beginFencedDrain_limits _ _ s
    · exact .of_owc id
  · exact .refl s

theorem ownerHealthy_limits (p : Path) (s : State) : KeepsLimits s (ownerHealthy p s) := by
  unfold ownerHealthy
  split
  · exact .of_owc id
  · exact .refl s

theorem reportHealth_limits (p : Path) (old new : Health) (s : State) : KeepsLimits s (reportHealth p old new s) := by
  have told : KeepsLimits s
      (match new with
        | .lost => ownerLost p s
        | .healthy => ownerHealthy p s
        | .doubtful => s) := by
    split
    · exact ownerLost_limits p s
    · exact ownerHealthy_limits p s
    · exact .refl s
  unfold reportHealth
  dsimp only
  split
  · exact told.trans (raiseIn_limits _ _ _)
  · exact told

theorem reportChange_limits (p : Path) (old : Health) (s : State) : KeepsLimits s (reportChange p old s) := by
  unfold reportChange
  split
  · exact .refl s
  · exact reportHealth_limits _ _ _ s

theorem reevaluate_limits (p : Path) (s : State) : KeepsLimits s (reevaluate p s) :=
  KeepsLimits.trans (t := judgeHealth p s) .of_frame (reportChange_limits _ _ _)

theorem reevaluateBoth_limits (s : State) : KeepsLimits s (reevaluateBoth s) :=
  KeepsLimits.trans (t := judgeHealth .b (judgeHealth .a s)) .of_frame <|
    (reportChange_limits .a _ _).trans (reportChange_limits .b _ _)

theorem applyScore_limits (p : Path) (score : Nat) (s : State) : KeepsLimits s (applyScore p score s) := by
  unfold applyScore
  split
  · exact .refl s
  · exact KeepsLimits.trans .of_frame (reevaluate_limits _ _)

theorem linkError_limits (p : Path) (s : State) : KeepsLimits s (linkError p s) :=
  (applyScore_limits p _ s).trans (raiseIn_limits _ _ _)

theorem takePulse_limits (p : Path) (s : State) : KeepsLimits s (takePulse p s) := by
  unfold takePulse
  dsimp only
  split
  · exact .refl s
  · exact KeepsLimits.trans .of_frame (applyScore_limits _ _ _)

end Sys2Proof.Machine
end

section
/-! The limits of queues, records and counters: OWC's and DPT's courses keep them. -/

namespace Sys2Proof.Machine

set_option Elab.async false

/-! ## Commits, FROZEN and the load -/

theorem takeEffect_limits (r : PolicyRecord) (s : State) : KeepsLimits s (takeEffect r s) := by
  refine .trans ?_ <| (reevaluateBoth_limits _).trans <| (testThresholds_limits .a _).trans <|
    (testThresholds_limits .b _).trans (follow_limits _ _)
  exact .of_owc id rfl rfl

/-- A record that keeps the histories, with the drain's counter absent and no attempt counted. -/
theorem Owc.Within.of_cleared {o o' : Owc} (h : o.Within) (attempt : o'.attempt = 0 := by rfl)
    (added : o'.orphansAdded = none := by rfl) (history : o'.history = o.history := by rfl)
    (orphans : o'.orphans = o.orphans := by rfl) (dropped : o'.dropped = o.dropped := by rfl) : o'.Within := by
  unfold Owc.Within
  rw [history, orphans, dropped, added, attempt]
  exact ⟨h.1, h.2.1, h.2.2.1, by simp, Nat.zero_le _⟩

theorem Owc.Within.freeze {o : Owc} (cause : FrozenCause) (h : o.Within) : (o.freeze cause).Within :=
  h.of_cleared

theorem settleReplies_limits (o : Owc) (l : List OwedReply) (s : State) : KeepsLimits s (settleReplies o l s) := by
  induction l generalizing s with
  | nil => exact .refl s
  | cons r rest ih => exact (produceReply_limits _ r s).trans (ih _)

theorem enterFrozen_limits (cause : FrozenCause) (s : State) : KeepsLimits s (enterFrozen cause s) := by
  unfold enterFrozen
  split
  · exact .of_owc id rfl rfl
  · refine .trans ?_ <| (refreshRoles_limits _).trans <| (raiseBoth_limits _ _).trans <|
      (sendNotices_limits _).trans (settleReplies_limits _ _ _)
    exact .of_owc (.freeze cause) rfl rfl

theorem enterLoading_limits (s : State) : KeepsLimits s (enterLoading s) := by
  refine .trans ?_ (refreshRoles_limits _)
  exact .of_owc (fun h => h.of_cleared) rfl rfl

theorem beginLoad_limits (s : State) : KeepsLimits s (beginLoad s) := by
  refine .trans ?_ (requestBlockOp_limits .load _)
  exact .of_owc (fun h => h.of_attempt (by decide : 1 ≤ Config.attemptMax)) rfl rfl

theorem driveReady_limits (s : State) : KeepsLimits s (driveReady s) := by
  unfold driveReady
  split
  · exact beginLoad_limits s
  · split
    · exact (enterLoading_limits s).trans (beginLoad_limits _)
    · exact issueReserved_limits s

theorem loadBad_limits (s : State) : KeepsLimits s (loadBad s) := by
  have frozen (t : State) : KeepsLimits t (refreshRoles { t with owc := t.owc.freeze .blockBad }) := by
    refine .trans ?_ (refreshRoles_limits _)
    exact .of_owc (.freeze .blockBad) rfl rfl
  unfold loadBad
  exact (takeEffect_limits _ s).trans <| (frozen _).trans <| (addHistory_limits _ _).trans <|
    (raiseBoth_limits _ _).trans <| (raiseBoth_limits _ _).trans (sendNotices_limits _)

theorem reportIfOwnerLost_limits (s : State) : KeepsLimits s (reportIfOwnerLost s) := by
  unfold reportIfOwnerLost
  split
  · split
    · exact ownerLost_limits _ s
    · exact .refl s
  · exact .refl s

theorem loadGood_limits (owner : Option Path) (epoch : Word) (count : CommitCount) (r : PolicyRecord) (s : State) :
    KeepsLimits s (loadGood owner epoch count r s) := by
  have recorded (t : State) : KeepsLimits t (refreshRoles { t with owc := t.owc.loaded owner epoch count }) := by
    refine .trans ?_ (refreshRoles_limits _)
    exact .of_owc (fun h => h.of_attempt (Nat.zero_le _)) rfl rfl
  unfold loadGood
  exact (takeEffect_limits r s).trans <| (recorded _).trans <| (addHistory_limits _ _).trans <|
    (sendNotices_limits _).trans (reportIfOwnerLost_limits _)

theorem completeLoad_limits (s : State) : KeepsLimits s (completeLoad s) := by
  unfold completeLoad
  split
  · exact loadGood_limits _ _ _ _ s
  · exact loadGood_limits _ _ _ _ s
  · exact loadBad_limits s

theorem attemptFailed_limits (op : BlockOp) (s : State) : KeepsLimits s (attemptFailed op s) := by
  unfold attemptFailed
  split
  · next more =>
    refine .trans ?_ (requestBlockOp_limits _ _)
    exact .of_owc (fun h => h.of_attempt more) rfl rfl
  · split
    · exact loadBad_limits s
    · exact enterFrozen_limits _ s

theorem Owc.Within.succeed {o : Owc} (purpose : Purpose) (c : Contents) (h : o.Within) :
    (o.succeed purpose c).Within := by
  unfold Owc.succeed
  dsimp only
  split
  · exact h.of_attempt (Nat.zero_le _)
  · exact h.of_cleared

theorem replyFor_limits (purpose : Purpose) (c : Contents) (s : State) : KeepsLimits s (replyFor purpose c s) := by
  unfold replyFor
  split
  · exact .refl s
  · refine .trans ?_ (produceReply_limits _ _ _)
    exact .of_owc id rfl rfl

theorem beginWaiting_limits (s : State) : KeepsLimits s (beginWaiting s) := by
  unfold beginWaiting
  split
  · split
    · exact .refl s
    · exact beginCommit_limits _ _ s
  · exact .refl s

theorem policyStep_limits (purpose : Purpose) (s : State) : KeepsLimits s (policyStep purpose s) := by
  unfold policyStep
  split
  · split
    · refine .trans ?_ (takeEffect_limits _ _)
      exact .of_owc id rfl rfl
    · exact .refl s
  · exact .refl s

theorem historyStep_limits (before : Owc) (purpose : Purpose) (c : Contents) (s : State) :
    KeepsLimits s (historyStep before purpose c s) := by
  unfold historyStep
  split
  · exact addHistory_limits _ s
  · exact .refl s

theorem commitSuccess_limits (purpose : Purpose) (c : Contents) (s : State) :
    KeepsLimits s (commitSuccess purpose c s) := by
  have recorded : KeepsLimits s (refreshRoles { s with owc := s.owc.succeed purpose c }) := by
    refine .trans ?_ (refreshRoles_limits _)
    exact .of_owc (.succeed purpose c) rfl rfl
  have done := recorded.trans <| (policyStep_limits purpose _).trans <| (historyStep_limits s.owc purpose c _).trans <|
    (sendNotices_limits _).trans <| (replyFor_limits purpose c _).trans (beginWaiting_limits _)
  unfold commitSuccess
  dsimp only
  split
  · exact done
  · exact done.trans (reportIfOwnerLost_limits _)

theorem operationSucceeded_limits (op : BlockOp) (s : State) : KeepsLimits s (operationSucceeded op s) := by
  unfold operationSucceeded
  split
  · split
    · exact completeLoad_limits s
    · exact .refl s
  · split
    · exact commitSuccess_limits _ _ s
    · exact .refl s

theorem operationFailed_limits (op : BlockOp) (s : State) : KeepsLimits s (operationFailed op s) := by
  unfold operationFailed
  split <;> split
  · exact attemptFailed_limits _ s
  · exact .refl s
  · exact attemptFailed_limits _ s
  · exact .refl s

/-! ## The drive -/

/-- A drive reset begins below three failed identify attempts (R158). -/
theorem beginReset_limits (s : State) (h : s.dpt.Within → s.dpt.identifyFailures < Config.attemptMax) :
    KeepsLimits s (beginReset s) := by
  have started : KeepsLimits s { s with dpt := s.dpt.startReset } := .of_dpt (fun hs => ⟨hs.1, fun _ => h hs⟩) rfl rfl
  have aborted := started.trans <| KeepsLimits.trans
    (forSlots_limits (op := abortEntry) (fun _ _ => .of_frame)
      (({ s with dpt := s.dpt.startReset } : State).slotsWhere (fun _ => true)) _) (conclude_limits s _)
  refine aborted.trans <| .trans ?_ (raiseBoth_limits _ _)
  split
  · exact operationFailed_limits _ _
  · exact .refl _

theorem requestReset_limits (s : State) : KeepsLimits s (requestReset s) := by
  unfold requestReset
  split
  · next ready => exact beginReset_limits s fun h => h.2 (.inr (.inr ready))
  · exact .refl s

/-- In FAILED, HALTED and ABSENT the failure counter may stand at three (R158): the drive may be given up after a change
of the Drive Port that has brought it there. -/
theorem giveUp_limits_after {s₀ s : State} {state : DriveState} (cause : DriveCause)
    (given : ¬(state = .identifying ∨ state = .resetting ∨ state = .ready))
    (hdpt : s₀.dpt.Within → s.dpt.identifyFailures ≤ Config.attemptMax) (hpif : s.pif = s₀.pif)
    (howc : s.owc = s₀.owc) : KeepsLimits s₀ (giveUp state cause s) := by
  refine .trans ?_ <| (enterFrozen_limits .drive _).trans <|
    (forSlots_limits (op := failEntry) (fun _ _ => .of_frame) _ _).trans <|
    (conclude_limits s _).trans (raiseBoth_limits _ _)
  exact .of_dpt (fun h => ⟨hdpt h, fun live => absurd live given⟩) hpif howc

theorem giveUp_limits {state : DriveState} (cause : DriveCause) (s : State)
    (given : ¬(state = .identifying ∨ state = .resetting ∨ state = .ready)) : KeepsLimits s (giveUp state cause s) :=
  giveUp_limits_after cause given (fun h => h.1) rfl rfl

theorem enterReady_limits (i : Identity) (s : State) : KeepsLimits s (enterReady i s) := by
  refine .trans ?_ <| (driveReady_limits _).trans (follow_limits s _)
  exact .of_dpt (fun _ => ⟨Nat.zero_le _, fun _ => (by decide : 0 < Config.attemptMax)⟩) rfl rfl

theorem judgeIdentify_limits (i : Identity) (s : State) : KeepsLimits s (judgeIdentify i s) := by
  unfold judgeIdentify
  split
  · exact giveUp_limits _ s (by decide)
  · split
    · exact giveUp_limits _ s (by decide)
    · exact enterReady_limits i s

/-- A failed identify attempt, counted from below three; what follows is begun below three again. -/
theorem identifyFailed_limits {again : State → State} (s : State) (identifying : s.dpt.state = .identifying)
    (h : ∀ t : State, t.dpt.identifyFailures < Config.attemptMax → KeepsLimits t (again t)) :
    KeepsLimits s (identifyFailed again s) := by
  unfold identifyFailed
  dsimp only
  split
  · next more =>
    refine .trans ?_ (h _ more)
    exact .of_dpt (fun _ => ⟨Nat.le_of_lt more, fun _ => more⟩) rfl rfl
  · exact giveUp_limits_after .noIdentify (by decide) (fun h => h.2 (.inl identifying)) rfl rfl

theorem identifyRejected_limits (status : DriveStatus) (s : State) (identifying : s.dpt.state = .identifying) :
    KeepsLimits s (identifyRejected status s) := by
  have again : KeepsLimits s (identifyFailed startIdentify s) :=
    identifyFailed_limits s identifying fun t ht => startIdentify_limits t fun _ => ht
  cases status with
  | good => exact .refl s
  | partialDone => exact again
  | media => exact again
  | other => exact giveUp_limits .violation s (by decide)

theorem identifyExpired_limits (s : State) : KeepsLimits s (identifyExpired s) := by
  unfold identifyExpired
  split
  · next due => exact identifyFailed_limits s due.1 fun t ht => beginReset_limits t fun _ => ht
  · exact .refl s

theorem raiseMedia_limits (status : DriveStatus) (s : State) : KeepsLimits s (raiseMedia status s) := by
  unfold raiseMedia
  split
  · exact raiseBoth_limits _ s
  · exact .refl s

theorem freeSlot_limits (slot : Nat) (s : State) : KeepsLimits s (s.freeSlot slot) :=
  .of_dpt id

theorem acceptSegment_limits (slot entry offset length : Nat) (op : Op) (status : DriveStatus) (done : Nat)
    (blocks : List (List Byte)) (s : State) :
    KeepsLimits s (acceptSegment slot entry offset length op status done blocks s) :=
  (freeSlot_limits slot s).trans <| (raiseMedia_limits status _).trans <|
    KeepsLimits.trans (t := takeCompletion entry slot offset length (classOf op status done length) done blocks _)
      .of_frame (conclude_limits s _)

theorem acceptOperation_limits (slot : Nat) (op : BlockOp) (status : DriveStatus) (done : Nat) (block : List Byte)
    (s : State) : KeepsLimits s (acceptOperation slot op status done block s) := by
  have freed := (freeSlot_limits slot s).trans (raiseMedia_limits status _)
  unfold acceptOperation
  dsimp only
  split
  · refine freed.trans <| .trans ?_ (operationSucceeded_limits op _)
    split
    · exact .of_frame
    · exact .refl _
  · exact freed.trans (operationFailed_limits op _)

theorem takeReadyRecord_limits (slot : Nat) (status : DriveStatus) (done : Nat) (blocks : List (List Byte)) (s : State) :
    KeepsLimits s (takeReadyRecord slot status done blocks s) := by
  have violation : KeepsLimits s (giveUp .halted .violation s) := giveUp_limits _ s (by decide)
  unfold takeReadyRecord
  split
  · exact violation
  · split
    · split
      · exact acceptSegment_limits _ _ _ _ _ _ _ _ s
      · exact acceptOperation_limits _ _ _ _ _ s
      · exact violation
    · exact violation

theorem takeRecord_limits (slot : Nat) (status : DriveStatus) (done : Nat) (blocks : List (List Byte)) (s : State) :
    KeepsLimits s (takeRecord slot status done blocks s) := by
  unfold takeRecord
  split
  case h_1 => exact takeReadyRecord_limits _ _ _ _ s
  case h_2 identifying =>
    split
    · exact identifyRejected_limits _ s identifying
    · exact .refl s
  all_goals exact .refl s

theorem takeIdentifyRecord_limits (status : DriveStatus) (done : Nat) (i : Identity) (s : State) :
    KeepsLimits s (takeIdentifyRecord status done i s) := by
  unfold takeIdentifyRecord
  split
  · exact (freeSlot_limits 0 s).trans (judgeIdentify_limits i _)
  · exact takeRecord_limits _ _ _ _ s

theorem takeReservedRecord_limits (status : DriveStatus) (done : Nat) (block : List Byte) (s : State) :
    KeepsLimits s (takeReservedRecord status done block s) := by
  unfold takeReservedRecord
  split
  · exact .refl s
  · exact takeRecord_limits _ _ _ _ s

theorem slotExpired_limits (slot : Nat) (s : State) : KeepsLimits s (slotExpired slot s) := by
  unfold slotExpired
  split
  case h_1 ready =>
    split
    · exact beginReset_limits s fun h => h.2 (.inr (.inr ready))
    · exact .refl s
  case h_2 =>
    split
    · exact identifyExpired_limits s
    · exact .refl s
  all_goals exact .refl s

theorem takeReadyIndication_limits (s : State) : KeepsLimits s (takeReadyIndication s) := by
  unfold takeReadyIndication
  split
  · next resetting =>
    refine KeepsLimits.trans ?_ (startIdentify_limits _ fun h => h.2 (.inr (.inl resetting)))
    exact .of_dpt id rfl rfl
  · exact .refl s

theorem resetExpired_limits (s : State) : KeepsLimits s (resetExpired s) := by
  unfold resetExpired
  split
  · exact giveUp_limits _ s (by decide)
  · exact .refl s

theorem presentFalls_limits (s : State) : KeepsLimits s (presentFalls s) := by
  unfold presentFalls
  dsimp only
  split
  · exact .of_dpt id rfl rfl
  · refine KeepsLimits.trans ?_ (giveUp_limits _ _ (by decide))
    exact .of_dpt id rfl rfl

theorem presentRises_limits (s : State) : KeepsLimits s (presentRises s) := by
  unfold presentRises
  dsimp only
  split
  · next absent =>
    refine KeepsLimits.trans ?_ (startIdentify_limits _ fun _ => (by decide : 0 < Config.attemptMax))
    exact .of_dpt (fun _ => ⟨Nat.zero_le _, fun _ => (by decide : 0 < Config.attemptMax)⟩) rfl rfl
  · exact .of_dpt id rfl rfl

end Sys2Proof.Machine
end

section
/-! The limits of queues, records and counters: the events of the links, the resets and the heads taken keep them, and so
does every step. -/

namespace Sys2Proof.Machine

set_option Elab.async false

/-! ## Inbound frames -/

theorem takeBlock_limits (e : Entry) (offset : Nat) (data : List Byte) (s : State) :
    KeepsLimits s (takeBlock e offset data s) := by
  have staged : KeepsLimits s (stageBlock e data s) := by
    have counted := KeepsLimits.trans
      (t := { s.allocate { number := s.freePages.headD 0, path := e.origin, slot := some e.slot, offset := e.staged,
                           state := .staged } with mem := fillPage s.mem (s.freePages.headD 0) data })
      (.of_frame rfl rfl rfl rfl : KeepsLimits s _)
      ((testHold_limits e.origin _).trans (onEntry_limits e.slot (fun x => { x with staged := x.staged + 1 }) _))
    unfold stageBlock
    dsimp only
    split
    · exact counted.trans <| (onEntry_limits e.slot (fun x => { x with acked := true }) _).trans (offer_limits _ _ _ rfl)
    · exact counted
  unfold takeBlock
  split
  · exact .of_frame
  · split
    · exact staged
    · exact .of_frame

theorem takeWriteData_limits (p : Path) (tag offset : Word) (data : List Byte) (s : State) :
    KeepsLimits s (takeWriteData p tag offset data s) := by
  unfold takeWriteData
  split
  · exact .refl s
  · split
    · exact linkError_limits p s
    · split
      · exact .refl s
      · exact (takeBlock_limits _ _ _ s).trans (conclude_limits s _)

theorem onHmon_limits (p : Path) (f : Hmon → Hmon) (s : State) : KeepsLimits s (s.onHmon p f) :=
  .of_frame

theorem takeGo_limits (p : Path) (s : State) : KeepsLimits s (takeGo p s) := by
  unfold takeGo
  split
  · refine KeepsLimits.trans (.onPif fun h => ?_) (onHmon_limits _ _ _)
    exact PifBounded.chooseNext (h.of_eq rfl rfl rfl rfl)
  · exact .refl s

theorem arrive_limits (p : Path) (frame : QueuedFrame) (s : State) : KeepsLimits s (arrive p frame s) := by
  unfold arrive
  dsimp only
  split
  · next room => exact .onPif fun h => h.arrives frame room
  · split
    · next room => exact .onPif (.enqueue _ (Pif.transmitCount_lt_of_hasRoom room))
    · exact .refl s

theorem routeFrame_limits (p : Path) (frame : InFrame) (s : State) : KeepsLimits s (routeFrame p frame s) := by
  cases frame with
  | pulse epoch sequence => exact (takePulse_limits p s).trans (.onPif (.placeEcho _))
  | writeData tag offset data => exact takeWriteData_limits p tag offset data s
  | hold => exact .onPif fun h => h.of_eq rfl rfl rfl rfl
  | go => exact takeGo_limits p s
  | queued q => exact arrive_limits p q s

theorem clearAssembler_limits (p : Path) (s : State) : KeepsLimits s (s.onPif p Pif.clearAssembler) :=
  .onPif fun h => h.of_eq rfl rfl rfl rfl

theorem assemble_limits (p : Path) (a : Assembler) (s : State) : KeepsLimits s (s.onPif p (Pif.assemble a)) :=
  .onPif fun h => h.of_eq rfl rfl rfl rfl

theorem frameCompletes_limits (p : Path) (frame : InFrame) (s : State) : KeepsLimits s (frameCompletes p frame s) := by
  unfold frameCompletes
  split
  · exact (clearAssembler_limits p s).trans (routeFrame_limits p frame _)
  · cases frame with
    | writeData tag offset data => exact takeWriteData_limits p tag offset data s
    | pulse _ _ | hold | go | queued _ => exact .refl s

theorem discardFrame_limits (p : Path) (s : State) : KeepsLimits s (discardFrame p s) :=
  (clearAssembler_limits p s).trans (linkError_limits p _)

theorem completeFrame_limits (p : Path) (kind : Byte) (length : Nat) (bytes : List Byte) (sum : Word) (s : State) :
    KeepsLimits s (completeFrame p kind length bytes sum s) := by
  unfold completeFrame
  split
  · split
    · exact (clearAssembler_limits p s).trans (routeFrame_limits p _ _)
    · exact discardFrame_limits p s
  · exact discardFrame_limits p s

theorem takeBody_limits (p : Path) (kind : Byte) (length : Nat) (bytes : List Byte) (sum : Word) (byte : Byte)
    (s : State) : KeepsLimits s (takeBody p kind length bytes sum byte s) := by
  unfold takeBody
  split
  · exact assemble_limits p _ s
  · split
    · exact assemble_limits p _ s
    · exact completeFrame_limits p kind length _ sum s

theorem takeCharacter_limits (p : Path) (marked : Bool) (byte : Byte) (s : State) :
    KeepsLimits s (takeCharacter p marked byte s) := by
  have begun (t : State) : KeepsLimits t (t.onPif p (Pif.beginFrame byte)) := assemble_limits p _ t
  unfold takeCharacter
  split
  · split
    · unfold takeMarked
      split
      · exact begun s
      · exact (discardFrame_limits p s).trans (begun _)
      · exact (discardFrame_limits p s).trans (begun _)
    · unfold takeUnmarked
      split
      · exact .refl s
      · exact assemble_limits p _ s
      · unfold takeLength
        dsimp only
        split
        · exact discardFrame_limits p s
        · exact assemble_limits p _ s
      · exact takeBody_limits p _ _ _ _ byte s
  · exact .refl s

theorem takeCharacterIf_limits (due : Assembler → Bool) (p : Path) (marked : Bool) (byte : Byte) (s : State) :
    KeepsLimits s (takeCharacterIf due p marked byte s) := by
  unfold takeCharacterIf
  split
  · exact takeCharacter_limits p marked byte s
  · exact .refl s

theorem gapExpired_limits (p : Path) (s : State) : KeepsLimits s (gapExpired p s) := by
  unfold gapExpired
  split
  · exact discardFrame_limits p s
  · exact .refl s

theorem frameSent_limits (p : Path) (s : State) : KeepsLimits s (frameSent p s) := by
  have reported (tie : Tie) (t : State) : KeepsLimits t (reportTransmitted tie t) := by
    unfold reportTransmitted
    split <;> exact .of_frame
  unfold frameSent
  split
  · exact .refl s
  · next x _ =>
    exact KeepsLimits.trans (.onPif (.finishSending x)) <| (enterWaiting_limits p _).trans <|
      KeepsLimits.trans (.onPif .chooseNext) <| (reported _ _).trans (conclude_limits s _)

/-! ## Resets and carrier -/

theorem Owc.Within.reset : Owc.reset.Within := by
  refine ⟨?_, ?_, ?_, ?_, ?_⟩ <;> decide

theorem powerUp_limits (cause : ResetCause) (present : Bool) (s : State) : KeepsLimits s (powerUp cause present s) := by
  have cleared : KeepsLimits s (clearAll cause present s) := by
    refine ⟨fun p _ => ?_, fun _ => .reset, fun _ => ⟨Nat.zero_le _, fun _ => (by decide : 0 < Config.attemptMax)⟩⟩
    cases p <;> exact .of_empty rfl rfl rfl
  unfold powerUp
  dsimp only
  split
  · exact cleared.trans (startIdentify_limits _ fun _ => (by decide : 0 < Config.attemptMax))
  · exact cleared.trans <| (enterFrozen_limits _ _).trans (raiseBoth_limits _ _)

theorem softResetLinks_limits (s : State) : KeepsLimits s (softResetLinks s) := by
  have held (p : Path) (t : State) : KeepsLimits t (clearHeld p t) := by
    unfold clearHeld
    split
    · exact .of_frame
    · exact .refl t
  exact (held .a s).trans <| (held .b _).trans <| KeepsLimits.trans (.onPif fun _ => .softReset _) <|
    .onPif fun _ => .softReset _

theorem cutAll_limits (l : List Entry) (s : State) : KeepsLimits s (cutAll l s) := by
  induction l generalizing s with
  | nil => exact .refl s
  | cons e rest ih => exact (addOrphan_limits _ s).trans (ih _)

theorem softResetWork_limits (s : State) : KeepsLimits s (softResetWork s) := by
  have emptied : KeepsLimits s { s with stb := { pages := [], grants := [] } } := .of_frame rfl rfl rfl rfl
  exact emptied.trans <| (cutAll_limits s.ift _).trans (.of_frame rfl rfl rfl rfl)

theorem softResetDrive_limits (s : State) : KeepsLimits s (softResetDrive s) := by
  have cleared : KeepsLimits s { s with dpt := s.dpt.softClear } :=
    .of_dpt (fun _ => ⟨Nat.zero_le _, fun _ => (by decide : 0 < Config.attemptMax)⟩) rfl rfl
  have reset := cleared.trans (beginReset_limits _ fun _ => (by decide : 0 < Config.attemptMax))
  unfold softResetDrive
  dsimp only
  split
  case h_1 => exact cleared.trans (enterFrozen_limits _ _)
  case h_2 => exact cleared
  all_goals exact reset

theorem softReset_limits (s : State) : KeepsLimits s (softReset s) := by
  have recorded := (softResetLinks_limits s).trans <| (softResetWork_limits _).trans <| (enterLoading_limits _).trans <|
    softResetDrive_limits _
  unfold softReset
  dsimp only
  split
  · refine .trans ?_ (raiseBoth_limits _ _)
    exact recorded.trans (.of_frame rfl rfl rfl rfl)
  · exact recorded.trans (.of_frame rfl rfl rfl rfl)

theorem carrierLost_limits (p : Path) (s : State) : KeepsLimits s (carrierLost p s) := by
  have lost (t : State) : KeepsLimits t (healthLost p t) := by
    unfold healthLost
    dsimp only
    split
    · exact .of_frame
    · exact KeepsLimits.trans .of_frame (reportHealth_limits _ _ _ _)
  have cut (t : State) : KeepsLimits t (cutEntries p t) := .of_frame
  unfold carrierLost
  split
  · exact KeepsLimits.trans (.onPif fun _ => .of_empty rfl rfl rfl) <| (lost _).trans <| (cut _).trans (conclude_limits s _)
  · exact .refl s

theorem carrierBack_limits (p : Path) (s : State) : KeepsLimits s (carrierBack p s) := by
  unfold carrierBack
  split
  · exact .refl s
  · refine KeepsLimits.trans ?_ (reevaluate_limits p _)
    exact KeepsLimits.trans (.onPif fun _ => .of_empty rfl rfl rfl) (onHmon_limits _ _ _)

/-! ## Heads taken -/

theorem removeHead_limits (p : Path) (s : State) : KeepsLimits s (removeHead p s) :=
  KeepsLimits.trans (t := s.onPif p fun f => { f with rxq := f.rxq.drop 1 })
    (.onPif fun h => h.of_le (by simp) le_rfl (.refl _)) (.of_frame rfl rfl rfl rfl)

theorem removeHead_admWaits (p q : Path) (s : State) : (removeHead p s).admWaits q = s.admWaits q := by
  have same : ((removeHead p s).pif.get q).waiting = (s.pif.get q).waiting := by
    cases p <;> cases q <;> rfl
  unfold State.admWaits
  rw [same]

/-- Only a path with a takeable head is chosen (R95, R96). -/
theorem takeable_of_chosenPath {p : Path} {s : State} (h : s.chosenPath = some p) : s.takeable p = true := by
  unfold State.chosenPath at h
  split at h
  · next both =>
    rw [Bool.and_eq_true] at both
    cases p
    · exact both.1
    · exact both.2
  · split at h
    · cases h
      assumption
    · split at h
      · cases h
        assumption
      · cases h

/-- While ADM's frame waits for a path, no head of it is taken (R95). -/
theorem admWaits_of_chosenPath {p : Path} {s : State} (h : s.chosenPath = some p) : s.admWaits p = false := by
  have takeable := takeable_of_chosenPath h
  unfold State.takeable at takeable
  split at takeable
  · cases takeable
  · simp only [headTakeable, Bool.and_eq_true, Bool.not_eq_true'] at takeable
    exact takeable.1.1.2

/-- A decision is made while no frame of ADM waits for the path (R95). -/
theorem takeHead_limits {p : Path} {decision : QueuedFrame → Option (State → State)} (s : State)
    (h : ∀ head act t, decision head = some act → t.admWaits p = false → KeepsLimits t (act t)) :
    KeepsLimits s (takeHead p decision s) := by
  unfold takeHead
  split
  · next chosen =>
    split
    · exact .refl s
    · split
      · next head _ _ _ act decided =>
        have waits : (removeHead p s).admWaits p = false := by
          rw [removeHead_admWaits]
          exact admWaits_of_chosenPath chosen
        exact (removeHead_limits p s).trans (h head act _ decided waits)
      · exact .refl s
  · exact .refl s

theorem acceptCommand_limits (p : Path) (c : CommandFields) (op : Op) (slot : Nat) (s : State)
    (none : s.admWaits p = false) : KeepsLimits s (acceptCommand p c op slot s) := by
  have added : KeepsLimits s (addEntry (newEntry s p c op slot) s) := .of_frame
  unfold acceptCommand
  dsimp only
  refine .trans ?_ <| (reportSlot_limits slot _).trans <| (checkDrainEnd_limits _).trans (walkGrants_limits _)
  split
  · exact added.trans (offer_adm_limits p _ _ none)
  · exact added

theorem decideCommand_limits (p : Path) (c : CommandFields) (s : State) (none : s.admWaits p = false) :
    KeepsLimits s (decideCommand p c s) := by
  unfold decideCommand
  split
  · exact offer_adm_limits p _ s none
  · split
    · exact acceptCommand_limits p c _ _ s none
    · exact .refl s

theorem commandRow_limits (p : Path) (test : Byte → Byte → Bool) (s : State) :
    KeepsLimits s (takeHead p (commandWhere p test) s) := by
  refine takeHead_limits s fun head act t decided none => ?_
  unfold commandWhere at decided
  split at decided
  · split at decided
    · cases decided
      exact decideCommand_limits p _ t none
    · cases decided
  · cases decided

theorem oweReply_limits (p : Path) (tag : Word) (purpose : Purpose) (s : State) : KeepsLimits s (oweReply p tag purpose s) :=
  .of_owc id

theorem decideClaim_limits (p : Path) (c : ClaimFields) (s : State) (none : s.admWaits p = false) :
    KeepsLimits s (decideClaim p c s) := by
  have claimed (tag : Word) (purpose : Purpose) :
      KeepsLimits s (oweReply p tag purpose (refreshRoles { s with owc := s.owc.claimBy p })) := by
    refine .trans ?_ <| (refreshRoles_limits _).trans (oweReply_limits p tag purpose _)
    exact .of_owc id rfl rfl
  unfold decideClaim
  split
  · exact offer_adm_limits p _ s none
  · exact (claimed _ _).trans (beginTransition_limits _ _)
  · exact (oweReply_limits p _ _ s).trans (beginFencedDrain_limits _ _ _)
  · exact (claimed _ _).trans (beginCommit_limits _ _ _)

theorem claimRow_limits (p : Path) (test : Byte → Bool) (s : State) :
    KeepsLimits s (takeHead p (claimWhere p test) s) := by
  refine takeHead_limits s fun head act t decided none => ?_
  unfold claimWhere at decided
  split at decided
  · split at decided
    · cases decided
      exact decideClaim_limits p _ t none
    · cases decided
  · cases decided

theorem decideRelease_limits (p : Path) (tag epoch : Word) (flags : Byte) (s : State) (none : s.admWaits p = false) :
    KeepsLimits s (decideRelease p tag epoch flags s) := by
  unfold decideRelease
  split
  · exact offer_adm_limits p _ s none
  · unfold acceptRelease
    split <;> exact (oweReply_limits p _ _ s).trans (beginReleaseDrain_limits _ _ _ _)

theorem releaseRow_limits (p : Path) (handover : Bool) (s : State) :
    KeepsLimits s (takeHead p (releaseWhere p handover) s) := by
  refine takeHead_limits s fun head act t decided none => ?_
  unfold releaseWhere at decided
  split at decided
  · split at decided
    · cases decided
      exact decideRelease_limits p _ _ _ t none
    · cases decided
  · cases decided

theorem rejoinRow_limits (p : Path) (s : State) : KeepsLimits s (takeHead p (rejoinHead p) s) := by
  refine takeHead_limits s fun head act t decided none => ?_
  unfold rejoinHead at decided
  split at decided
  · cases decided
    unfold decideRejoin
    split
    · have readmitted : KeepsLimits t (readmit p t) := KeepsLimits.trans (.of_owc id) (refreshRoles_limits _)
      exact readmitted.trans (offer_adm_limits p _ _ none)
    · exact offer_adm_limits p _ t none
  · cases decided

theorem policyRow_limits (p : Path) (s : State) : KeepsLimits s (takeHead p (policyHead p) s) := by
  refine takeHead_limits s fun head act t decided none => ?_
  unfold policyHead at decided
  split at decided
  · cases decided
    unfold decidePolicy
    split
    · exact offer_adm_limits p _ t none
    · split
      · exact offer_adm_limits p _ t none
      · refine .trans ?_ <| (oweReply_limits p _ .policy _).trans (beginCommit_limits _ _ _)
        exact .of_owc id rfl rfl
  · cases decided

/-- A decision of FNU is made while fewer than 16 of its answers wait (R180). -/
theorem withRoom_limits {p : Path} {act : State → State} (s : State)
    (h : answersRoom s p = true → KeepsLimits s (act s)) : KeepsLimits s (withRoom p act s) := by
  unfold withRoom
  split
  · next room => exact h room
  · exact .refl s

theorem answerPosition_limits (p : Path) (tag : Word) (c : Cursor) (s : State) (room : answersRoom s p = true) :
    KeepsLimits s (answerPosition p tag c s) := by
  have recorded (c : Cursor) (frame : OutFrame) : KeepsLimits s ((setCursor p c s).offer p .fnuAnswer frame) :=
    KeepsLimits.trans .of_frame (offer_answer_limits p frame _ room)
  unfold answerPosition
  split <;> exact recorded _ _

theorem inspectSetRow_limits (p : Path) (s : State) : KeepsLimits s (takeHead p (inspectSetHead p) s) := by
  refine takeHead_limits s fun head act t decided _ => ?_
  unfold inspectSetHead at decided
  split at decided
  · split at decided
    · cases decided
      refine withRoom_limits t fun room => ?_
      unfold inspectAt
      split
      · exact answerPosition_limits p _ _ t room
      · exact offer_answer_limits p _ t room
    · cases decided
  · cases decided

theorem inspectNextRow_limits (p : Path) (s : State) : KeepsLimits s (takeHead p (inspectNextHead p) s) := by
  refine takeHead_limits s fun head act t decided _ => ?_
  unfold inspectNextHead at decided
  split at decided
  · split at decided
    · cases decided
      exact withRoom_limits t (answerPosition_limits p _ _ t)
    · cases decided
  · cases decided

theorem inspectBadRow_limits (p : Path) (s : State) : KeepsLimits s (takeHead p (inspectBadHead p) s) := by
  refine takeHead_limits s fun head act t decided _ => ?_
  unfold inspectBadHead at decided
  split at decided
  · split at decided
    · cases decided
    · cases decided
      exact withRoom_limits t (offer_answer_limits p _ t)
  · cases decided

theorem clearFlagsRow_limits (p : Path) (s : State) : KeepsLimits s (takeHead p (clearFlagsHead p) s) := by
  refine takeHead_limits s fun head act t decided _ => ?_
  unfold clearFlagsHead at decided
  split at decided
  · split at decided
    · cases decided
      refine withRoom_limits t fun room => ?_
      refine .trans ?_ (offer_answer_limits p _ _ room)
      exact .of_frame rfl rfl rfl rfl
    · cases decided
  · cases decided

theorem clearOrphansRow_limits (p : Path) (s : State) : KeepsLimits s (takeHead p (clearOrphansHead p) s) := by
  refine takeHead_limits s fun head act t decided _ => ?_
  unfold clearOrphansHead at decided
  split at decided
  · split at decided
    · cases decided
      refine withRoom_limits t fun room => ?_
      unfold clearOrphans
      split
      · refine .trans ?_ (offer_answer_limits p _ _ room)
        exact .of_owc (fun ⟨history, _, _, rest⟩ => ⟨history, Nat.zero_le _, Nat.zero_le _, rest⟩) rfl rfl
      · exact offer_answer_limits p _ t room
    · cases decided
  · cases decided

theorem clearBadRow_limits (p : Path) (s : State) : KeepsLimits s (takeHead p (clearBadHead p) s) := by
  refine takeHead_limits s fun head act t decided _ => ?_
  unfold clearBadHead at decided
  split at decided
  · split at decided
    · cases decided
    · cases decided
      exact withRoom_limits t (offer_answer_limits p _ t)
  · cases decided

theorem notifyMaskRow_limits (p : Path) (s : State) : KeepsLimits s (takeHead p (notifyMaskHead p) s) := by
  refine takeHead_limits s fun head act t decided _ => ?_
  unfold notifyMaskHead at decided
  split at decided
  · cases decided
    refine withRoom_limits t fun room => ?_
    refine .trans ?_ (offer_answer_limits p _ _ room)
    exact .of_frame rfl rfl rfl rfl
  · cases decided

theorem deviceResetRow_limits (p : Path) (s : State) : KeepsLimits s (takeHead p (deviceResetHead p) s) := by
  refine takeHead_limits s fun head act t decided _ => ?_
  unfold deviceResetHead at decided
  split at decided
  · next tag epoch =>
    cases decided
    have deciding (d : Option (Path × Word)) (u : State) : KeepsLimits u (setDeciding d u) := .of_frame
    refine .trans (deciding (some (p, tag)) t) (.trans ?_ (deciding none _))
    split
    · exact withRoom_limits _ (offer_answer_limits p _ _)
    · exact softReset_limits _
  · cases decided

/-! ## Timers -/

theorem windowExpires_limits (p : Path) (s : State) : KeepsLimits s (windowExpires p s) := by
  unfold windowExpires
  split
  · exact (applyScore_limits p _ s).trans (onHmon_limits _ _ _)
  · exact .refl s

theorem graceExpires_limits (s : State) : KeepsLimits s (graceExpires s) := by
  unfold graceExpires
  split
  · split
    · exact beginFencedDrain_limits _ _ s
    · exact .refl s
  · exact .refl s

theorem enterStage_limits (stage : DrainStage) (s : State) : KeepsLimits s (enterStage stage s) :=
  .of_owc id rfl rfl

theorem stage1Expires_limits (s : State) : KeepsLimits s (stage1Expires s) := by
  unfold stage1Expires
  split
  · exact (fence_limits _ s).trans <| (enterStage_limits _ _).trans <| (refreshRoles_limits _).trans (conclude_limits s _)
  · exact .refl s

theorem stage2Expires_limits (s : State) : KeepsLimits s (stage2Expires s) := by
  unfold stage2Expires
  split
  · dsimp only
    split
    · exact (requestReset_limits s).trans <| (enterStage_limits _ _).trans (conclude_limits _ _)
    · exact requestReset_limits s
  · exact .refl s

theorem stage3Expires_limits (s : State) : KeepsLimits s (stage3Expires s) := by
  unfold stage3Expires
  split
  · next drained _ =>
    have ended : KeepsLimits s (conclude s (forSlots (decideEnd .driveStall)
        (({ s with owc := { s.owc with drainTimer := none } } : State).slotsWhere (fun e => e.origin == drained))
        { s with owc := { s.owc with drainTimer := none } })) := by
      refine .trans ?_ <| (forSlots_limits (op := decideEnd .driveStall) (fun _ _ => .of_frame) _ _).trans
        (conclude_limits s _)
      exact .of_owc id rfl rfl
    dsimp only
    split
    · exact ended.trans (requestReset_limits _)
    · exact ended
  · exact .refl s

/-! ## Every step -/

theorem removeDue_limits (slot : Nat) (s : State) : KeepsLimits s (removeDue slot s) :=
  (reportSlot_limits slot s).trans <| (checkDrainEnd_limits _).trans (follow_limits s _)

theorem beginDueLoad_limits (s : State) : KeepsLimits s (beginDueLoad s) := by
  unfold beginDueLoad
  split
  · exact beginLoad_limits s
  · exact .refl s

theorem KeepsLimits.of_next {s t u : State} (k : KeepsLimits s u)
    (h : (.next u : Host.Outcome State Fault Refusal) = .next t) : KeepsLimits s t := by
  cases h
  exact k

theorem exec_limits {c : Instr} {s t : State} (h : exec c s = .next t) : KeepsLimits s t := by
  cases c with
  | powerOnReset drivePresent => exact (powerUp_limits .power drivePresent s).of_next h
  | pinReset => exact (powerUp_limits .pin s.dpt.present s).of_next h
  | carrierLoss p => exact (carrierLost_limits p s).of_next h
  | carrierReturn p => exact (carrierBack_limits p s).of_next h
  | truncation p kind => exact (takeCharacterIf_limits _ p true kind s).of_next h
  | overLength p low => exact (takeCharacterIf_limits _ p false low s).of_next h
  | gapTimeout p => exact (gapExpired_limits p s).of_next h
  | checkFailure p low => exact (takeCharacterIf_limits _ p false low s).of_next h
  | unknownKind p low => exact (takeCharacterIf_limits _ p false low s).of_next h
  | pulse p epoch sequence => exact (frameCompletes_limits p (.pulse epoch sequence) s).of_next h
  | hold p => exact (frameCompletes_limits p .hold s).of_next h
  | go p => exact (frameCompletes_limits p .go s).of_next h
  | writeData p tag offset data => exact (frameCompletes_limits p (.writeData tag offset data) s).of_next h
  | receiveQueueArrival p frame => exact (frameCompletes_limits p (.queued frame) s).of_next h
  | commandRead p => exact (commandRow_limits p _ s).of_next h
  | commandWrite p => exact (commandRow_limits p _ s).of_next h
  | commandWritePosted p => exact (commandRow_limits p _ s).of_next h
  | commandFlush p => exact (commandRow_limits p _ s).of_next h
  | commandBadOp p => exact (commandRow_limits p _ s).of_next h
  | claim p => exact (claimRow_limits p _ s).of_next h
  | forcedClaim p => exact (claimRow_limits p _ s).of_next h
  | overrideClaim p => exact (claimRow_limits p _ s).of_next h
  | release p => exact (releaseRow_limits p false s).of_next h
  | releaseHandover p => exact (releaseRow_limits p true s).of_next h
  | rejoin p => exact (rejoinRow_limits p s).of_next h
  | policy p => exact (policyRow_limits p s).of_next h
  | inspectSet p => exact (inspectSetRow_limits p s).of_next h
  | inspectNext p => exact (inspectNextRow_limits p s).of_next h
  | clearFaultFlags p => exact (clearFlagsRow_limits p s).of_next h
  | clearOrphanList p => exact (clearOrphansRow_limits p s).of_next h
  | notifyMask p => exact (notifyMaskRow_limits p s).of_next h
  | deviceReset p => exact (deviceResetRow_limits p s).of_next h
  | waitingFrameEntry p => exact ((enterWaiting_limits p s).trans (conclude_limits s _)).of_next h
  | frameTransmitted p => exact (frameSent_limits p s).of_next h
  | readDataOffer p => exact (offerReadData_limits p s).of_next h
  | pulseWindowExpiry p => exact (windowExpires_limits p s).of_next h
  | graceExpiry => exact (graceExpires_limits s).of_next h
  | drainStage1Expiry => exact (stage1Expires_limits s).of_next h
  | drainStage2Expiry => exact (stage2Expires_limits s).of_next h
  | drainStage3Expiry => exact (stage3Expires_limits s).of_next h
  | drainEnd => exact (checkDrainEnd_limits s).of_next h
  | waitingTransition => exact (beginWaiting_limits s).of_next h
  | loadBegin => exact (beginDueLoad_limits s).of_next h
  | reservedOperationIssue => exact (issueReserved_limits s).of_next h
  | segmentIssue => exact (runArbiter_limits s).of_next h
  | readGrant => exact ((walkGrants_limits s).trans (runArbiter_limits _)).of_next h
  | pathSlotCompletion slot status done blocks => exact (takeRecord_limits slot status done.toNat blocks s).of_next h
  | entryRemoval slot => exact (removeDue_limits slot s).of_next h
  | reservedSlotCompletion status done block => exact (takeReservedRecord_limits status done.toNat block s).of_next h
  | identifyCompletion status done capacity blockSize depth =>
    exact (takeIdentifyRecord_limits status done.toNat _ s).of_next h
  | identifyTimeout => exact (identifyExpired_limits s).of_next h
  | slotTimeout slot => exact (slotExpired_limits slot s).of_next h
  | readyIndication => exact (takeReadyIndication_limits s).of_next h
  | resetTimeout => exact (resetExpired_limits s).of_next h
  | drvPresentFall => exact (presentFalls_limits s).of_next h
  | drvPresentRise => exact (presentRises_limits s).of_next h
  | linkCharacter p marked byte => exact (takeCharacter_limits p marked byte s).of_next h
  | inspectBadMode p => exact (inspectBadRow_limits p s).of_next h
  | clearBadTarget p => exact (clearBadRow_limits p s).of_next h

theorem step_limits {s t : State} (h : step s = .next t) : KeepsLimits s t := by
  unfold step at h
  split at h
  · exact (KeepsLimits.refl s).of_next h
  · next c rest _ =>
    have queued : KeepsLimits s (s.withPending rest) := .of_frame
    exact queued.trans (exec_limits h)

/-- Settles O8: no step takes a part of the machine beyond its limits. -/
theorem stepKeepsLimits : Obligations.StepKeepsLimits :=
  ⟨fun _ _ queues h => (step_limits h).queues queues, fun _ _ records h => (step_limits h).records records⟩

end Sys2Proof.Machine
end

section
/-! The path links: power-up, characters, control frames, the arbiter over the heads, and the offer of read data
(R1 to R4, R10, R15, R17, R95, R96, R131, R157). -/

namespace Sys2Proof.Machine

set_option Elab.async false

/-! ## Updates of one path interface -/

theorem State.onPif_onPif (p : Path) (f g : Pif → Pif) (s : State) :
    (s.onPif p f).onPif p g = s.onPif p (fun x => g (f x)) := by
  cases p <;> rfl

theorem State.onPif_eq_self {p : Path} {f : Pif → Pif} {s : State} (h : f (s.pif.get p) = s.pif.get p) :
    s.onPif p f = s := by
  unfold State.onPif
  rw [h]
  cases p <;> rfl

@[simp] theorem State.onPif_get_same (p : Path) (f : Pif → Pif) (s : State) :
    (s.onPif p f).pif.get p = f (s.pif.get p) := by
  cases p <;> rfl

@[simp] theorem State.onPif_get_other (p : Path) (f : Pif → Pif) (s : State) :
    (s.onPif p f).pif.get p.other = s.pif.get p.other := by
  cases p <;> rfl

theorem State.linkUp_eq_true {p : Path} {s : State} : s.linkUp p = true ↔ (s.pif.get p).link = .up := by
  simp [State.linkUp]

theorem State.linkUp_eq_false {p : Path} {s : State} : s.linkUp p = false ↔ (s.pif.get p).link = .down := by
  cases h : (s.pif.get p).link <;> simp [State.linkUp, h]

theorem State.linkUp_clearAssembler (p : Path) (s : State) : (s.onPif p Pif.clearAssembler).linkUp p = s.linkUp p := by
  simp [State.linkUp]

/-! ## Frames offered on a DOWN link (R6) -/

theorem Pif.offer_of_down {f : Pif} (producer : Producer) (x : TxItem) (h : f.link = .down) : f.offer producer x = f := by
  rw [Pif.offer, if_pos h]

theorem State.offer_of_down {p : Path} {s : State} (producer : Producer) (frame : OutFrame)
    (h : (s.pif.get p).link = .down) : s.offer p producer frame = s :=
  State.onPif_eq_self (Pif.offer_of_down _ _ h)

theorem Pif.offerFlagNotice_of_down {f : Pif} (flag : Flag) (h : f.link = .down) : f.offerFlagNotice flag = f := by
  unfold Pif.offerFlagNotice
  split
  · rfl
  · exact Pif.offer_of_down _ _ h

theorem sendNotices_of_down {s : State} (h : ∀ p, (s.pif.get p).link = .down) : sendNotices s = s := by
  unfold sendNotices sendNotice
  rw [State.offer_of_down _ _ (h .a), State.offer_of_down _ _ (h .b)]

/-- A flag raised on a DOWN link changes the path's copy alone. -/
theorem raiseIn_of_down {p : Path} {s : State} (flag : Flag) (h : (s.pif.get p).link = .down)
    (clear : hasFlag (s.fnu.flags.get p) flag = false) :
    raiseIn p flag s =
      { s with fnu := { s.fnu with flags := s.fnu.flags.set p (s.fnu.flags.get p ||| flagMask flag) } } := by
  simp only [raiseIn, clear, Bool.false_eq_true, if_false]
  split
  · exact State.onPif_eq_self (Pif.offerFlagNotice_of_down flag h)
  · rfl

/-- A flag raised in two copies that agree, with both links DOWN. -/
theorem raiseBoth_of_down {s : State} {flag : Flag} {x y : FlagSet} (h : ∀ p, (s.pif.get p).link = .down)
    (flags : s.fnu.flags = { a := x, b := x }) (clear : hasFlag x flag = false) (set : x ||| flagMask flag = y) :
    raiseBoth flag s = { s with fnu := { s.fnu with flags := { a := y, b := y } } } := by
  have copies (p : Path) : hasFlag (s.fnu.flags.get p) flag = false := by
    rw [flags]
    cases p <;> exact clear
  subst set
  unfold raiseBoth
  rw [raiseIn_of_down flag (h .a) (copies .a), raiseIn_of_down flag (by exact h .b) (by exact copies .b)]
  simp [flags, Both.get, Both.set]

/-! ## Power-up (R17, R157) -/

theorem powerUp_present (cause : ResetCause) (s : State) :
    powerUp cause true s =
      { State.reset with
        pif := { a := { Pif.reset with sent := s.pif.a.sent }, b := { Pif.reset with sent := s.pif.b.sent } }
        dpt := { Dpt.reset with requests := s.dpt.requests ++ [.identify] }
        fnu := { Fnu.reset with resetCause := cause }
        pending := s.pending } :=
  rfl

/-- Both links are DOWN after a power-up, so that no frame of the entry into FROZEN is sent. -/
theorem powerUp_absent (cause : ResetCause) (s : State) :
    powerUp cause false s =
      { State.reset with
        pif := { a := { Pif.reset with sent := s.pif.a.sent }, b := { Pif.reset with sent := s.pif.b.sent } }
        owc := { Owc.reset with state := .frozen, frozenCause := some .drive }
        dpt := { Dpt.reset with state := .absent, busy := [], present := false, requests := s.dpt.requests }
        fnu := { Fnu.reset with resetCause := cause, flags := { a := 0x028#9, b := 0x028#9 } }
        pending := s.pending } := by
  have down (t : State) (h : t.pif = (clearAll cause false s).pif) (p : Path) : (t.pif.get p).link = .down := by
    rw [h]
    cases p <;> rfl
  have silent (t : State) (h : t.pif = (clearAll cause false s).pif) : sendNotices t = t :=
    sendNotices_of_down (down t h)
  have sharer (p : Path) : roleFor (Owc.reset.freeze .drive) p = .sharer := by
    cases p <;> decide
  have recorded : refreshRoles { clearAll cause false s with owc := Owc.reset.freeze .drive } =
      { clearAll cause false s with owc := { Owc.reset with state := .frozen, frozenCause := some .drive } } := by
    simp only [refreshRoles, sharer]
    rfl
  have entered : enterFrozen .drive (clearAll cause false s) =
      sendNotices (raiseBoth .frozen
        { clearAll cause false s with owc := { Owc.reset with state := .frozen, frozenCause := some .drive } }) := by
    rw [← recorded]
    rfl
  have frozen : enterFrozen .drive (clearAll cause false s) =
      { clearAll cause false s with
        owc := { Owc.reset with state := .frozen, frozenCause := some .drive }
        fnu := { Fnu.reset with resetCause := cause, flags := { a := 0x020#9, b := 0x020#9 } } } := by
    rw [entered, raiseBoth_of_down (x := 0#9) (y := 0x020#9) (by exact down _ rfl) (by rfl) (by decide) (by decide)]
    exact silent _ rfl
  unfold powerUp
  rw [if_neg Bool.false_ne_true, frozen]
  exact raiseBoth_of_down (x := 0x020#9) (down _ rfl) rfl (by decide) (by decide)

/-- Settles O4: by what `powerUp` leaves with a drive and without one. -/
theorem powerUpAndPinReset : Obligations.PowerUpAndPinReset := by
  intro s
  have pin (h : s.dpt.present = true ∨ s.dpt.present = false) :
      exec .pinReset s = .next (powerUp .pin s.dpt.present s) := rfl
  refine ⟨congrArg Host.Outcome.next (powerUp_present .power s), congrArg Host.Outcome.next (powerUp_absent .power s), fun high => ?_, fun low => ?_⟩
  · rw [pin (.inl high), high, powerUp_present]
  · rw [pin (.inr low), low, powerUp_absent]

/-! ## Characters (R1, R2, R4) -/

theorem takeCharacter_up {p : Path} {s : State} (h : s.linkUp p = true) (byte : Byte) :
    takeCharacter p true byte s = takeMarked p byte s ∧ takeCharacter p false byte s = takeUnmarked p byte s := by
  simp [takeCharacter, h]

theorem takeLength_within {p : Path} {kind high low : Byte} {sum : Word} {s : State}
    (h : high.toNat * 256 + low.toNat ≤ Config.maxPayload) :
    takeLength p kind high low sum s =
      s.onPif p (Pif.assemble (.body kind (high.toNat * 256 + low.toNat) [] (sum + low.setWidth 16))) := by
  simp [takeLength, h]

theorem takeBody_payload {p : Path} {kind : Byte} {n : Nat} {bytes : List Byte} {sum : Word} {byte : Byte} {s : State}
    (h : bytes.length < n) :
    takeBody p kind n bytes sum byte s =
      s.onPif p (Pif.assemble (.body kind n (bytes ++ [byte]) (sum + byte.setWidth 16))) := by
  rw [takeBody, if_pos h]

theorem takeBody_check {p : Path} {kind : Byte} {n : Nat} {bytes : List Byte} {sum : Word} {byte : Byte} {s : State}
    (h : bytes.length = n) :
    takeBody p kind n bytes sum byte s = s.onPif p (Pif.assemble (.body kind n (bytes ++ [byte]) sum)) := by
  rw [takeBody, if_neg (by omega), if_pos (by omega)]

theorem takeBody_last {p : Path} {kind : Byte} {n : Nat} {bytes : List Byte} {sum : Word} {byte : Byte} {s : State}
    (h : bytes.length = n + 1) :
    takeBody p kind n bytes sum byte s = completeFrame p kind n (bytes ++ [byte]) sum s := by
  rw [takeBody, if_neg (by omega), if_neg (by omega)]

/-- Settles O18: one case for each state of the assembler. -/
theorem charactersJoinFrame : Obligations.CharactersJoinFrame := by
  intro p byte s
  refine ⟨fun up => ?_, fun down marked => ?_⟩
  · have taken := takeCharacter_up up byte
    have marked : exec (.linkCharacter p true byte) s = .next (takeMarked p byte s) := congrArg _ taken.1
    have unmarked : exec (.linkCharacter p false byte) s = .next (takeUnmarked p byte s) := congrArg _ taken.2
    dsimp only
    rw [marked, unmarked]
    refine ⟨fun idle => ?_, fun kind sum h => ?_, fun kind high sum h length => ?_, fun kind n bytes sum h => ?_⟩
    · simp only [takeMarked, takeUnmarked, idle, and_true]
      rfl
    · simp only [takeUnmarked, h]
      rfl
    · simp only [takeUnmarked, h, takeLength_within (show _ ≤ Config.maxPayload from length)]
      rfl
    · simp only [takeUnmarked, h]
      refine ⟨fun payload => ?_, fun check => ?_⟩
      · rw [takeBody_payload payload]
        rfl
      · rw [takeBody_check check]
        rfl
  · show Host.Outcome.next (takeCharacter p marked byte s) = _
    rw [takeCharacter, if_neg (by simp [down])]

/-! ## Control frames and arrivals (R10, R15, R32) -/

theorem frameCompletes_up {p : Path} {s : State} (frame : InFrame) (h : s.linkUp p = true) :
    frameCompletes p frame s = routeFrame p frame (s.onPif p Pif.clearAssembler) := by
  rw [frameCompletes, if_pos h]

theorem frameCompletes_down {p : Path} {s : State} (frame : InFrame) (h : s.linkUp p = false) :
    frameCompletes p frame s = takeLateFrame p frame s := by
  rw [frameCompletes, if_neg (by simp [h])]

theorem takeGo_clear {p : Path} {s : State} (h : (s.pif.get p).serverHold = false) : takeGo p s = s := by
  simp [takeGo, h]

theorem takeGo_held {p : Path} {s : State} (h : (s.pif.get p).serverHold = true) :
    takeGo p s =
      (s.onPif p (fun f => { f with serverHold := false }.chooseNext)).onHmon p
        (fun h => { h with heldThroughout := false }) := by
  rw [takeGo, if_pos h]

theorem arrive_room {p : Path} {s : State} (frame : QueuedFrame) (h : (s.pif.get p).rxq.length < Config.receiveDepth) :
    arrive p frame s = s.onPif p (fun x => { x with rxq := x.rxq ++ [frame] }) := by
  simp [arrive, h]

theorem arrive_full {p : Path} {s : State} (frame : QueuedFrame) (h : (s.pif.get p).rxq.length = Config.receiveDepth) :
    arrive p frame s =
      if (s.pif.get p).hasRoom then
        s.onPif p (Pif.enqueue { frame := .reply (frameTag frame) .queueFull 0#16 s.owc.epoch, tie := .plain })
      else s := by
  simp [arrive, h]

theorem Pif.hasRoom_clearAssembler (f : Pif) : f.clearAssembler.hasRoom = f.hasRoom := rfl

/-- Settles O23: HOLD, GO and an arrival are each `routeFrame` after the assembler is cleared. -/
theorem controlFramesTaken : Obligations.ControlFramesTaken := by
  intro p s frame
  have route (f : InFrame) (up : s.linkUp p = true) := frameCompletes_up f up
  refine ⟨fun up => ⟨?_, fun clear => ?_, fun held => ?_⟩, fun down => ⟨?_, ?_⟩, fun up => ?_⟩
  · refine congrArg Host.Outcome.next ((route .hold up).trans ?_)
    rw [routeFrame, takeHold, State.onPif_onPif]
    rfl
  · refine congrArg Host.Outcome.next ((route .go up).trans ?_)
    exact takeGo_clear (by simpa using clear)
  · refine congrArg Host.Outcome.next ((route .go up).trans ?_)
    rw [routeFrame, takeGo_held (by simpa using held), State.onPif_onPif]
    rfl
  · exact congrArg Host.Outcome.next (frameCompletes_down .hold down)
  · exact congrArg Host.Outcome.next (frameCompletes_down .go down)
  · have cleared : ((s.onPif p Pif.clearAssembler).pif.get p).rxq = (s.pif.get p).rxq := by simp
    have room : ((s.onPif p Pif.clearAssembler).pif.get p).hasRoom = decide ((s.pif.get p).transmitCount < 32) := by
      rw [State.onPif_get_same, Pif.hasRoom_clearAssembler, Pif.hasRoom, State.linkUp_eq_true.1 up]
      rfl
    refine ⟨fun free => ?_, fun full free => ?_, fun full none => ?_⟩ <;>
      refine congrArg Host.Outcome.next ((route (.queued frame) up).trans ?_) <;> rw [routeFrame]
    · rw [arrive_room frame (by rw [cleared]; exact free), State.onPif_onPif]
      rfl
    · rw [arrive_full frame (by rw [cleared]; exact full), if_pos (by rw [room]; exact decide_eq_true free),
        State.onPif_onPif]
      rfl
    · rw [arrive_full frame (by rw [cleared]; exact full), if_neg (by rw [room]; simp [none])]
      rfl

/-! ## The arbiter over the heads (R11, R95, R96) -/

theorem chosenPath_of_one {s : State} {p : Path} (h : s.takeable p = true) (other : s.takeable p.other = false) :
    s.chosenPath = some p := by
  cases p <;> simp_all [State.chosenPath, Path.other]

theorem takeHead_of_not_chosen {p : Path} {decision : QueuedFrame → Option (State → State)} {s : State}
    (h : s.chosenPath ≠ some p) : takeHead p decision s = s := by
  rw [takeHead, if_neg h]

/-- What holds back every head of a path (R95). -/
def State.holdsHeads (s : State) (p : Path) : Bool :=
  s.owc.state == .loading || (s.owc.state == .grace && s.owc.owner == some p) || s.admWaits p || s.fnu.deciding.isSome

theorem headTakeable_of_holdsHeads {s : State} {p : Path} {head : QueuedFrame} (h : s.holdsHeads p = true) :
    headTakeable s p head = false := by
  simp only [State.holdsHeads, Bool.or_eq_true] at h
  rcases h with ((h | h) | h) | h
  · simp [headTakeable, beq_iff_eq.1 h]
  · simp [headTakeable, h]
  · simp [headTakeable, h]
  · cases hd : s.fnu.deciding <;> simp [headTakeable, hd] at h ⊢

/-- Where nothing holds the heads back, only a COMMAND that passes its checks has a condition to meet (R95). -/
theorem headTakeable_of_not_holdsHeads {s : State} {p : Path} (head : QueuedFrame) (h : s.holdsHeads p = false) :
    headTakeable s p head =
      match head with
      | .command tag epoch op flags start count =>
        (checkCommand s p { tag := tag, epoch := epoch, op := op, flags := flags, start := start,
                            count := count }).isSome || s.hasCapacity p
      | _ => true := by
  simp only [State.holdsHeads, Bool.or_eq_false_iff] at h
  obtain ⟨⟨⟨loading, grace⟩, waits⟩, deciding⟩ := h
  have free : s.fnu.deciding.isNone = true := by
    rw [Option.isNone_iff_eq_none]
    exact Option.isSome_eq_false_iff.1 deciding |> Option.isNone_iff_eq_none.1
  unfold headTakeable
  rw [bne, loading, grace, waits, free]
  rfl

theorem hasCapacity_iff (s : State) (p : Path) :
    s.hasCapacity p = true ↔
      s.freeEntrySlot.isSome = true ∧ s.entryCount p < s.owc.policy.maxEntries.toNat ∧
        (s.adm.sequence < 2 ^ 48 - 1 ∨ s.ift = []) := by
  simp only [State.hasCapacity, Bool.and_eq_true, Bool.or_eq_true, decide_eq_true_eq, List.isEmpty_iff, and_assoc]
  rfl

/-- Settles O26: the choice by cases on the takeable heads, takeability by what holds every head back. -/
theorem arbiterTakesHeads : Obligations.ArbiterTakesHeads := by
  refine ⟨fun s => ⟨fun a b => ?_, fun p => chosenPath_of_one, fun a b => ?_, fun p => ?_, fun p h => ?_⟩,
    fun p s head => ⟨fun h => ?_, fun h howner => ?_, fun h => ?_, fun h => ?_, ?_, ?_⟩⟩
  · simp [State.chosenPath, a, b]
  · simp [State.chosenPath, a, b]
  · simp [removeHead, State.onPif]
  · exact congrArg Host.Outcome.next (takeHead_of_not_chosen h)
  · exact headTakeable_of_holdsHeads (by simp [State.holdsHeads, h])
  · exact headTakeable_of_holdsHeads (by simp [State.holdsHeads, h, howner])
  · exact headTakeable_of_holdsHeads (by simp [State.holdsHeads, h])
  · exact headTakeable_of_holdsHeads (by simp [State.holdsHeads, h])
  · rintro tag epoch op flags start count rfl passes full
    by_cases held : s.holdsHeads p = true
    · exact headTakeable_of_holdsHeads held
    · have no : s.hasCapacity p = false := by
        rw [← Bool.not_eq_true, hasCapacity_iff]
        rintro ⟨slot, entries, age⟩
        rcases full with full | full | ⟨last, busy⟩
        · simp [full] at slot
        · omega
        · exact age.elim (by omega) busy
      rw [headTakeable_of_not_holdsHeads _ (by simpa using held)]
      simp [passes, no]
  · intro loading grace waits deciding fits
    have free : s.holdsHeads p = false := by
      simp only [State.holdsHeads, waits, deciding, Option.isSome_none, Bool.or_false, Bool.or_eq_false_iff,
        beq_eq_false_iff_ne, ne_eq, loading, not_false_eq_true, true_and]
      simpa using grace
    rw [headTakeable_of_not_holdsHeads _ free]
    rcases fits with other | ⟨tag, epoch, op, flags, start, count, rfl, fits⟩
    · split
      · exact absurd rfl (other _ _ _ _ _ _)
      · rfl
    · rw [Bool.or_eq_true, hasCapacity_iff, Option.isSome_iff_exists]
      exact fits

/-! ## The offer of read data (R14, R131) -/

/-- Settles O49: `offerReadData`, branch by branch. -/
theorem readDataOffered : Obligations.ReadDataOffered := by
  intro p s e r
  refine ⟨fun free found page => ?_, fun idle => ?_⟩ <;> refine congrArg Host.Outcome.next ?_ <;> unfold offerReadData
  · simp only [free, Bool.false_eq_true, if_false, found, page]
    rfl
  · split
    · rfl
    · next free =>
      have nothing : s.ift.find? (fun x => x.origin == p && s.deliverable x) = none := by
        rw [List.find?_eq_none]
        intro x hx
        simpa using idle.resolve_left free x hx
      simp [nothing]

end Sys2Proof.Machine
end

section
/-! The encodings: a frame's characters reach their route (R1 to R3, R18, R19), and the policy record and the ownership block
read back as they were written (R23, R24, R53, R61). -/

namespace Sys2Proof.Machine

set_option Elab.async false

/-! ## Big-endian fields and sums -/

theorem beBytes_length (width n : Nat) : (beBytes width n).length = width := by
  induction width generalizing n with
  | zero => rfl
  | succ width ih => simp [beBytes, ih]

theorem foldl_beNat (bytes : List Byte) (k : Nat) :
    bytes.foldl (fun n b => n * 256 + b.toNat) k = k * 256 ^ bytes.length + beNat bytes := by
  unfold beNat
  induction bytes generalizing k with
  | nil => simp
  | cons b rest ih =>
    rw [List.foldl_cons, List.foldl_cons, ih, ih (0 * 256 + b.toNat), List.length_cons]
    ring

theorem beNat_cons (b : Byte) (rest : List Byte) : beNat (b :: rest) = b.toNat * 256 ^ rest.length + beNat rest := by
  have := foldl_beNat rest (0 * 256 + b.toNat)
  simpa [beNat] using this

/-- A field of `width` bytes holds a number modulo 256 ^ `width`. -/
theorem beNat_beBytes (width n : Nat) : beNat (beBytes width n) = n % 256 ^ width := by
  induction width generalizing n with
  | zero => simp [beBytes, beNat, Nat.mod_one]
  | succ width ih =>
    rw [beBytes, beNat_cons, beBytes_length, ih, BitVec.toNat_ofNat, show 256 ^ (width + 1) = 256 ^ width * 256 from rfl,
      Nat.mod_mul, Nat.mul_comm, Nat.add_comm]

theorem byteSum_append (x y : List Byte) : byteSum (x ++ y) = byteSum x + byteSum y := by
  have shift (l : List Byte) (k : Nat) : l.foldl (fun n b => n + b.toNat) k = k + byteSum l := by
    unfold byteSum
    induction l generalizing k with
    | nil => simp
    | cons b rest ih => rw [List.foldl_cons, List.foldl_cons, ih, ih (0 + b.toNat)]; omega
  rw [byteSum, List.foldl_append, shift]
  rfl

theorem byteSum_cons (b : Byte) (l : List Byte) : byteSum (b :: l) = b.toNat + byteSum l := by
  simpa [byteSum] using byteSum_append [b] l

/-! ## A frame, character by character -/

theorem feed_cons {p : Path} {c : Bool × Byte} {rest : List (Bool × Byte)} {s t : State}
    (h : takeCharacter p c.1 c.2 s = t) : feed p (c :: rest) s = feed p rest t := by
  subst h
  rfl

/-- The assembler is in the course of a frame on an UP link. -/
def Assembling (p : Path) (a : Assembler) (s : State) : Prop :=
  s.linkUp p = true ∧ (s.pif.get p).assembler = a

theorem Assembling.assemble {p : Path} {a : Assembler} {s : State} (up : s.linkUp p = true) :
    Assembling p a (s.onPif p (Pif.assemble a)) := by
  simp [Assembling, State.linkUp, Pif.assemble] at up ⊢
  exact up

theorem assemble_assemble (p : Path) (a b : Assembler) (s : State) :
    (s.onPif p (Pif.assemble a)).onPif p (Pif.assemble b) = s.onPif p (Pif.assemble b) :=
  State.onPif_onPif p _ _ s

/-- The payload, taken byte by byte, is what BODY holds, and its sum is added to the running sum. -/
theorem feed_payload (p : Path) (kind : Byte) (n : Nat) (rest : List (Bool × Byte)) (s : State) (up : s.linkUp p = true)
    (payload held : List Byte) (sum : Word) (room : held.length + payload.length ≤ n) :
    feed p (payload.map (fun b => (false, b)) ++ rest) (s.onPif p (Pif.assemble (.body kind n held sum))) =
      feed p rest
        (s.onPif p (Pif.assemble (.body kind n (held ++ payload) (sum + BitVec.ofNat 16 (byteSum payload))))) := by
  induction payload generalizing held sum with
  | nil => simp [byteSum]
  | cons b payload ih =>
    rw [List.length_cons] at room
    have ⟨up', assembler⟩ := Assembling.assemble (a := .body kind n held sum) up
    have taken : takeCharacter p false b (s.onPif p (Pif.assemble (.body kind n held sum))) =
        s.onPif p (Pif.assemble (.body kind n (held ++ [b]) (sum + b.setWidth 16))) := by
      rw [(takeCharacter_up up' b).2, takeUnmarked, assembler]
      exact (takeBody_payload (by omega)).trans (assemble_assemble p _ _ s)
    have added : sum + b.setWidth 16 + BitVec.ofNat 16 (byteSum payload) =
        sum + BitVec.ofNat 16 (byteSum (b :: payload)) := by
      rw [byteSum_cons, BitVec.ofNat_add, BitVec.ofNat_toNat, BitVec.add_assoc]
    rw [List.map_cons, List.cons_append, feed_cons taken, ih _ _ (by simp; omega), added, List.append_assoc,
      List.singleton_append]

theorem le_of_ite_some {c : Prop} [Decidable c] {a b n : Nat} {rest : Option Nat} (ha : a ≤ b)
    (h : rest = some n → n ≤ b) : (if c then some a else rest) = some n → n ≤ b := by
  split
  · rintro ⟨⟩
    exact ha
  · exact h

/-- The lengths that R19 gives are within the limit of R2. -/
theorem inboundLength_le {kind : Byte} {n : Nat} (h : inboundLength kind = some n) : n ≤ Config.maxPayload := by
  revert h
  unfold inboundLength
  iterate 13 refine le_of_ite_some (by decide) ?_
  exact nofun

theorem beBytes_two (n : Nat) : beBytes 2 n = [BitVec.ofNat 8 (n / 256), BitVec.ofNat 8 n] := by
  simp [beBytes]

/-- Kind and length bytes bring an assembler in IDLE to BODY. -/
theorem feed_header (p : Path) (kind : Byte) (n : Nat) (rest : List (Bool × Byte)) (s : State) (up : s.linkUp p = true)
    (idle : (s.pif.get p).assembler = .idle) (hn : n ≤ Config.maxPayload) :
    feed p ((true, kind) :: ((beBytes 2 n).map (fun b => (false, b)) ++ rest)) s =
      feed p rest (s.onPif p (Pif.assemble (.body kind n [] (BitVec.ofNat 16 (byteSum (kind :: beBytes 2 n)))))) := by
  unfold Config.maxPayload at hn
  set high := BitVec.ofNat 8 (n / 256) with hhigh
  set low := BitVec.ofNat 8 n with hlow
  have length : high.toNat * 256 + low.toNat = n := by
    rw [hhigh, hlow, BitVec.toNat_ofNat, BitVec.toNat_ofNat]
    omega
  have first : takeCharacter p true kind s = s.onPif p (Pif.assemble (.length kind none (kind.setWidth 16))) := by
    rw [(takeCharacter_up up kind).1, takeMarked, idle]
    rfl
  have ⟨up1, assembler1⟩ := Assembling.assemble (a := .length kind none (kind.setWidth 16)) up
  have second : takeCharacter p false high (s.onPif p (Pif.assemble (.length kind none (kind.setWidth 16)))) =
      s.onPif p (Pif.assemble (.length kind (some high) (kind.setWidth 16 + high.setWidth 16))) := by
    rw [(takeCharacter_up up1 high).2, takeUnmarked, assembler1]
    exact assemble_assemble p _ _ s
  have ⟨up2, assembler2⟩ := Assembling.assemble (a := .length kind (some high) (kind.setWidth 16 + high.setWidth 16)) up
  have third : takeCharacter p false low
      (s.onPif p (Pif.assemble (.length kind (some high) (kind.setWidth 16 + high.setWidth 16)))) =
      s.onPif p (Pif.assemble (.body kind n [] (kind.setWidth 16 + high.setWidth 16 + low.setWidth 16))) := by
    rw [(takeCharacter_up up2 low).2, takeUnmarked, assembler2]
    refine (takeLength_within (by rw [length]; exact hn)).trans ?_
    rw [length]
    exact assemble_assemble p _ _ s
  have sum : BitVec.ofNat 16 (byteSum (kind :: beBytes 2 n)) = kind.setWidth 16 + high.setWidth 16 + low.setWidth 16 := by
    simp only [beBytes_two, byteSum_cons, BitVec.ofNat_add, BitVec.ofNat_toNat, BitVec.add_assoc, ← hhigh, ← hlow]
    rw [show byteSum [] = 0 from rfl, BitVec.add_zero]
  rw [sum, beBytes_two, List.map_cons, List.map_cons, List.map_nil, List.cons_append, List.cons_append, List.nil_append,
    feed_cons first, feed_cons second, feed_cons third]

/-- The two check bytes complete a frame whose check is the running sum. -/
theorem feed_check (p : Path) (kind : Byte) (payload : List Byte) (frame : InFrame) (total : Nat) (s : State)
    (up : s.linkUp p = true) (decoded : decodeFrame kind payload = some frame) :
    feed p ((beBytes 2 total).map (fun b => (false, b)))
        (s.onPif p (Pif.assemble (.body kind payload.length payload (BitVec.ofNat 16 total)))) =
      .next (routeFrame p frame (s.onPif p Pif.clearAssembler)) := by
  set high := BitVec.ofNat 8 (total / 256) with hhigh
  set low := BitVec.ofNat 8 total with hlow
  have ⟨up1, assembler1⟩ := Assembling.assemble (a := .body kind payload.length payload (BitVec.ofNat 16 total)) up
  have first : takeCharacter p false high
      (s.onPif p (Pif.assemble (.body kind payload.length payload (BitVec.ofNat 16 total)))) =
      s.onPif p (Pif.assemble (.body kind payload.length (payload ++ [high]) (BitVec.ofNat 16 total))) := by
    rw [(takeCharacter_up up1 high).2, takeUnmarked, assembler1]
    exact (takeBody_check rfl).trans (assemble_assemble p _ _ s)
  have ⟨up2, assembler2⟩ :=
    Assembling.assemble (a := .body kind payload.length (payload ++ [high]) (BitVec.ofNat 16 total)) up
  have check : beNat ((payload ++ [high] ++ [low]).drop payload.length) = (BitVec.ofNat 16 total).toNat := by
    rw [List.append_assoc, List.drop_left, List.singleton_append, hhigh, hlow, ← beBytes_two, beNat_beBytes,
      BitVec.toNat_ofNat]
    rfl
  have taken : (payload ++ [high] ++ [low]).take payload.length = payload := by
    rw [List.append_assoc, List.take_left]
  have second : takeCharacter p false low
      (s.onPif p (Pif.assemble (.body kind payload.length (payload ++ [high]) (BitVec.ofNat 16 total)))) =
      routeFrame p frame (s.onPif p Pif.clearAssembler) := by
    rw [(takeCharacter_up up2 low).2, takeUnmarked, assembler2]
    refine (takeBody_last (by simp)).trans ?_
    rw [completeFrame, if_pos check, taken, decoded]
    exact congrArg (routeFrame p frame) (State.onPif_onPif p _ _ s)
  rw [beBytes_two, List.map_cons, List.map_cons, List.map_nil, feed_cons first, feed_cons second]
  rfl

/-- Settles O13: header, payload and check, one after the other. -/
theorem frameCharactersReachRoute : Obligations.FrameCharactersReachRoute := by
  intro p s kind payload frame up idle decoded
  have length : payload.length ≤ Config.maxPayload := by
    unfold decodeFrame at decoded
    split at decoded
    · next h => exact inboundLength_le h
    · cases decoded
  have total : BitVec.ofNat 16 (byteSum (kind :: beBytes 2 payload.length)) + BitVec.ofNat 16 (byteSum payload) =
      BitVec.ofNat 16 (byteSum (kind :: (beBytes 2 payload.length ++ payload))) := by
    rw [← BitVec.ofNat_add, ← byteSum_append, List.cons_append]
  unfold inboundCharacters
  dsimp only
  rw [List.map_append, List.map_append, List.append_assoc, feed_header p kind _ _ s up idle length,
    feed_payload p kind _ _ s up payload [] _ (by simp), total, List.nil_append,
    feed_check p kind payload frame _ s up decoded]

end Sys2Proof.Machine
end

section
/-! The policy record and the ownership block read back as they were written (R23, R24, R53, R61). -/

namespace Sys2Proof.Machine

set_option Elab.async false

/-! ## Fields read back -/

theorem fieldAt_of_beBytes {bytes : List Byte} {offset size n : Nat}
    (h : (bytes.drop offset).take size = beBytes size n) : fieldAt bytes offset size = n % 256 ^ size := by
  rw [fieldAt, h, beNat_beBytes]

theorem byteAt_of_beBytes {bytes : List Byte} {offset n : Nat} (h : (bytes.drop offset).take 1 = beBytes 1 n) :
    byteAt bytes offset = BitVec.ofNat 8 n := by
  rw [byteAt, fieldAt_of_beBytes h]
  exact BitVec.eq_of_toNat_eq (by simp)

theorem byteAt_of_byte {bytes : List Byte} {offset : Nat} {x : Byte} (h : (bytes.drop offset).take 1 = [x]) :
    byteAt bytes offset = x := by
  rw [byteAt, fieldAt, h]
  simp [beNat]

theorem ofNat_fieldAt_of_beBytes {bytes : List Byte} {offset size w : Nat} {x : BitVec w}
    (h : (bytes.drop offset).take size = beBytes size x.toNat) (hw : 256 ^ size = 2 ^ w) :
    BitVec.ofNat w (fieldAt bytes offset size) = x := by
  rw [fieldAt_of_beBytes h, hw, Nat.mod_eq_of_lt x.isLt, BitVec.ofNat_toNat, BitVec.setWidth_eq]

theorem wordAt_of_beBytes {bytes : List Byte} {offset : Nat} {x : Word}
    (h : (bytes.drop offset).take 2 = beBytes 2 x.toNat) : wordAt bytes offset = x :=
  ofNat_fieldAt_of_beBytes h rfl

theorem encodePolicy_length (r : PolicyRecord) : (encodePolicy r).length = 28 := rfl

theorem decodePolicy_encodePolicy (r : PolicyRecord) : decodePolicy (encodePolicy r) = r := by
  obtain ⟨period, credit, miss, link, stall, lo, hi, lost, grace, drain, timeout, flags, a, b, margin, entries, start,
    count⟩ := r
  simp only [decodePolicy, PolicyRecord.mk.injEq]
  exact ⟨wordAt_of_beBytes rfl, byteAt_of_byte rfl, byteAt_of_byte rfl, byteAt_of_byte rfl, byteAt_of_byte rfl,
    byteAt_of_byte rfl, byteAt_of_byte rfl, byteAt_of_byte rfl, wordAt_of_beBytes rfl, wordAt_of_beBytes rfl,
    wordAt_of_beBytes rfl, byteAt_of_byte rfl, byteAt_of_byte rfl, byteAt_of_byte rfl, byteAt_of_byte rfl,
    byteAt_of_byte rfl, ofNat_fieldAt_of_beBytes rfl rfl, wordAt_of_beBytes rfl⟩

/-! ## The cells of a filled page -/

theorem cellsIn_cellsFrom {lo n a : Nat} {l : List Byte} (hlo : lo ≤ a) (hn : a + l.length ≤ lo + n) :
    cellsIn (cellsFrom a l) lo n = cellsFrom a l := by
  rw [cellsIn, List.filter_eq_self]
  intro c hc
  obtain ⟨h1, h2, _⟩ := mem_cellsFrom hc
  simp
  omega

theorem cellsIn_cellsFrom_above {lo n a : Nat} {l : List Byte} (h : lo + n ≤ a) : cellsIn (cellsFrom a l) lo n = [] := by
  rw [cellsIn, List.filter_eq_nil_iff]
  intro c hc
  have := (mem_cellsFrom hc).1
  simp
  omega

theorem cellsIn_append (m n : Memory) (lo k : Nat) : cellsIn (m ++ n) lo k = cellsIn m lo k ++ cellsIn n lo k :=
  List.filter_append _ _

/-- Whatever the memory held, the cells of a page just filled are those of its block. -/
theorem cellsIn_fillPage (m : Memory) (page : Nat) (bytes : List Byte) :
    cellsIn (fillPage m page bytes) (pageBase page) Config.blockBytes =
      cellsFrom (pageBase page) (bytes.take Config.blockBytes) := by
  have below : cellsIn (m.filter (fun c => decide (c.1 < pageBase page))) (pageBase page) Config.blockBytes = [] := by
    rw [cellsIn, List.filter_eq_nil_iff]
    intro c hc
    have := (List.mem_filter.1 hc).2
    simp at this ⊢
    omega
  have above : cellsIn (m.filter (fun c => decide (pageBase page + Config.blockBytes ≤ c.1))) (pageBase page)
      Config.blockBytes = [] := by
    rw [cellsIn, List.filter_eq_nil_iff]
    intro c hc
    have := (List.mem_filter.1 hc).2
    simp at this ⊢
    omega
  rw [fillPage, cellsIn_append, cellsIn_append, below, above, List.nil_append, List.append_nil,
    cellsIn_cellsFrom le_rfl (by have := List.length_take_le Config.blockBytes bytes; omega)]

theorem cellsIn_writeByte {m : Memory} {lo n a : Nat} (v : Byte) (hlo : lo ≤ a) (hn : a < lo + n) :
    cellsIn (writeByte m a v) lo n = writeByte (cellsIn m lo n) a v := by
  have cell : cellsIn (if v = Config.unfilledByte then [] else [(a, v)]) lo n =
      if v = Config.unfilledByte then [] else [(a, v)] := by
    split
    · rfl
    · simp [cellsIn, hlo, hn]
  rw [writeByte, cellsIn_append, cellsIn_append, cell]
  simp only [writeByte, cellsIn, List.filter_filter, Bool.and_comm]

/-- A byte written behind every cell is the last cell. -/
theorem writeByte_of_below {m : Memory} {a : Nat} (v : Byte) (h : ∀ c ∈ m, c.1 < a) :
    writeByte m a v = m ++ cellsFrom a [v] := by
  have below : m.filter (fun c => decide (c.1 < a)) = m := List.filter_eq_self.2 (by simpa using h)
  have above : m.filter (fun c => decide (a < c.1)) = [] :=
    List.filter_eq_nil_iff.2 fun c hc => by have := h c hc; simp; omega
  rw [writeByte, below, above, List.append_nil]
  rfl

theorem byteSum_cellsFrom (a : Nat) (l : List Byte) : byteSum ((cellsFrom a l).map (fun c => c.2)) = byteSum l := by
  induction l generalizing a with
  | nil => rfl
  | cons v rest ih =>
    unfold cellsFrom
    split
    · next unfilled =>
      rw [ih, byteSum_cons, unfilled]
      exact (Nat.zero_add _).symm
    · rw [List.map_cons, byteSum_cons, ih, byteSum_cons]

/-! ## The ownership block -/

theorem blockHeader_length (c : Contents) : (blockHeader c).length = 40 := rfl

/-- The cells of page 255 after a commit has filled it: the header's, and the checksum's. -/
theorem cellsIn_fillOwnershipPage (c : Contents) (m : Memory) :
    cellsIn (fillOwnershipPage c m) (pageBase Config.ownershipPage) Config.blockBytes =
      cellsFrom (pageBase Config.ownershipPage) (blockHeader c) ++
        cellsFrom (pageBase Config.ownershipPage + 4094) (beBytes 2 (byteSum (blockHeader c))) := by
  have short : (blockHeader c).take Config.blockBytes = blockHeader c :=
    List.take_of_length_le (by rw [blockHeader_length]; decide)
  have header (x : Host.Cell) (hx : x ∈ cellsFrom (pageBase Config.ownershipPage) (blockHeader c)) :
      x.1 < pageBase Config.ownershipPage + 4094 :=
    (mem_cellsFrom hx).2.1.trans_le (Nat.add_le_add_left (by rw [blockHeader_length]; decide) _)
  unfold fillOwnershipPage
  dsimp only
  rw [cellsIn_writeByte _ (by omega) (by unfold Config.blockBytes; omega),
    cellsIn_writeByte _ (by omega) (by unfold Config.blockBytes; omega), cellsIn_fillPage, short,
    writeByte_of_below (a := pageBase Config.ownershipPage + 4094) _ header,
    writeByte_of_below _ fun x hx => ?_, List.append_assoc]
  · congr 1
    rw [beBytes_two]
    simp only [cellsFrom]
    split <;> rfl
  · rcases List.mem_append.1 hx with hx | hx
    · exact (header x hx).trans (Nat.lt_succ_self _)
    · exact (mem_cellsFrom hx).2.1

/-- A byte of page 255 after a commit has filled it. -/
theorem readByte_fillOwnershipPage (c : Contents) (m : Memory) (k : Nat) (h : k < Config.blockBytes) :
    readByte (fillOwnershipPage c m) (pageBase Config.ownershipPage + k) =
      if k = 4095 then BitVec.ofNat 8 (byteSum (blockHeader c))
      else if k = 4094 then BitVec.ofNat 8 (byteSum (blockHeader c) / 256)
      else (blockHeader c).getD k Config.unfilledByte := by
  unfold fillOwnershipPage
  dsimp only
  rw [readByte_writeByte, readByte_writeByte, readByte_fillPage]
  simp only [Nat.add_right_inj, Nat.le_add_right, Nat.add_lt_add_iff_left, h, and_self, if_true, Nat.add_sub_cancel_left]

/-- The judgement of a page that holds a header and its checksum (R61). -/
theorem judgeBlock_fillOwnershipPage (c : Contents) (m : Memory) :
    judgeBlock (fillOwnershipPage c m) =
      .valid (BitVec.ofNat 8 (pathCode c.owner)) c.epoch c.count c.policy := by
  have cell (k : Nat) (h : k < Config.blockBytes) := readByte_fillOwnershipPage c m k h
  set cells := cellsIn (fillOwnershipPage c m) (pageBase Config.ownershipPage) Config.blockBytes with hcells
  have read (k : Nat) (h : k < Config.blockBytes) : readByte cells (pageBase Config.ownershipPage + k) =
      readByte (fillOwnershipPage c m) (pageBase Config.ownershipPage + k) :=
    readByte_cellsIn _ _ _ _ (by omega) (by omega)
  have header : readBytes cells 40 (pageBase Config.ownershipPage) = blockHeader c := by
    refine List.ext_getElem (readBytes_length _ _ _) fun k hk hk' => ?_
    have page : k < Config.blockBytes := by
      rw [blockHeader_length] at hk'
      exact hk'.trans (by decide)
    have hget := readBytes_getD cells 40 (pageBase Config.ownershipPage) k hk'
    rw [read k page, cell k page, if_neg (by rw [blockHeader_length] at hk'; omega),
      if_neg (by rw [blockHeader_length] at hk'; omega)] at hget
    rwa [List.getD_eq_getElem _ _ hk, List.getD_eq_getElem _ _ hk'] at hget
  have check : readBytes cells 2 (pageBase Config.ownershipPage + 4094) = beBytes 2 (byteSum (blockHeader c)) := by
    rw [readBytes, readBytes, readBytes, Nat.add_assoc, read 4094 (by decide), read 4095 (by decide),
      cell 4094 (by decide), cell 4095 (by decide), beBytes_two]
    rfl
  have split : cells = cellsFrom (pageBase Config.ownershipPage) (blockHeader c) ++
      cellsFrom (pageBase Config.ownershipPage + 4094) (beBytes 2 (byteSum (blockHeader c))) :=
    cellsIn_fillOwnershipPage c m
  have summed : byteSum ((cellsIn cells (pageBase Config.ownershipPage) 4094).map (fun x => x.2)) =
      byteSum (blockHeader c) := by
    rw [split, cellsIn_append, cellsIn_cellsFrom le_rfl (by rw [blockHeader_length]; omega),
      cellsIn_cellsFrom_above le_rfl, List.append_nil, byteSum_cellsFrom]
  have filled : cells ≠ [] := by
    rw [split]
    exact List.cons_ne_nil _ _
  unfold judgeBlock
  dsimp only
  rw [← hcells, if_neg filled, header, check, summed, if_pos ⟨rfl, (beNat_beBytes 2 _).symm⟩]
  congr 1
  · exact byteAt_of_beBytes rfl
  · exact wordAt_of_beBytes rfl
  · exact ofNat_fieldAt_of_beBytes rfl rfl
  · exact decodePolicy_encodePolicy c.policy

/-- Settles O12, by the cells that the filled page holds. -/
theorem ownershipBlockRoundTrip : Obligations.OwnershipBlockRoundTrip :=
  ⟨fun r => ⟨encodePolicy_length r, decodePolicy_encodePolicy r⟩, judgeBlock_fillOwnershipPage⟩

end Sys2Proof.Machine
end

section
/-! Link errors and carrier return: the score, the health it gives, and what follows (R1 to R5, R7, R25, R33, R35). -/

namespace Sys2Proof.Machine

set_option Elab.async false

/-! ## A value for each path -/

theorem Both.set_get_self {α : Type} (x : Both α) (p : Path) : x.set p (x.get p) = x := by
  cases p <;> rfl

theorem Both.set_set {α : Type} (x : Both α) (p : Path) (v w : α) : (x.set p v).set p w = x.set p w := by
  cases p <;> rfl

/-! ## The score and the health it gives (R25, R26) -/

/-- A path's health state with a new score, evaluated where the score has changed (R25, R26). -/
def Hmon.scored (r : PolicyRecord) (score : Nat) (h : Hmon) : Hmon :=
  { h with score := score, health := if score = h.score then h.health else evaluate r h.health score }

theorem judgeHealth_hmon (p : Path) (s : State) :
    (judgeHealth p s).hmon =
      s.hmon.set p
        { s.hmon.get p with health := evaluate s.owc.policy (s.hmon.get p).health (s.hmon.get p).score } := rfl

theorem applyScore_hmon (p : Path) (score : Nat) (s : State) :
    (applyScore p score s).hmon = s.hmon.set p ((s.hmon.get p).scored s.owc.policy score) := by
  unfold applyScore
  split
  · next same =>
    have kept : (s.hmon.get p).scored s.owc.policy score = s.hmon.get p := by
      simp [Hmon.scored, same]
    rw [kept, Both.set_get_self]
  · next changed =>
    rw [reevaluate, (reportChange_frame _ _ _).1, judgeHealth_hmon, State.onHmon_hmon, Both.get_set_same, Both.set_set,
      Hmon.scored, if_neg changed]
    rfl

theorem State.onHmon_onHmon (p : Path) (f g : Hmon → Hmon) (s : State) :
    (s.onHmon p f).onHmon p g = s.onHmon p (fun x => g (f x)) := by
  cases p <;> rfl

theorem State.onHmon_eq_self {p : Path} {f : Hmon → Hmon} {s : State} (h : f (s.hmon.get p) = s.hmon.get p) :
    s.onHmon p f = s := by
  unfold State.onHmon
  rw [h, Both.set_get_self]

@[simp] theorem State.onHmon_get_same (p : Path) (f : Hmon → Hmon) (s : State) :
    (s.onHmon p f).hmon.get p = f (s.hmon.get p) := by
  cases p <;> rfl

/-- An evaluation that leaves the health as it was is not reported. -/
theorem reevaluate_of_same_health {p : Path} {s : State}
    (h : evaluate s.owc.policy (s.hmon.get p).health (s.hmon.get p).score = (s.hmon.get p).health) :
    reevaluate p s = s := by
  have judged : judgeHealth p s = s := State.onHmon_eq_self (by rw [h])
  rw [reevaluate, judged, reportChange, if_pos rfl]

/-- A score that leaves the health as it was changes nothing else. -/
theorem applyScore_of_same_health {p : Path} {score : Nat} {s : State}
    (h : evaluate s.owc.policy (s.hmon.get p).health score = (s.hmon.get p).health) :
    applyScore p score s = s.onHmon p (fun x => { x with score := score }) := by
  unfold applyScore
  split
  · next same => exact (State.onHmon_eq_self (by rw [same])).symm
  · exact reevaluate_of_same_health (by simpa using h)

/-! ## Flags -/

theorem hasFlag_or (x y : FlagSet) (flag : Flag) : hasFlag (x ||| y) flag = (hasFlag x flag || hasFlag y flag) :=
  BitVec.getLsbD_or

theorem hasFlag_flagMask (flag : Flag) : hasFlag (flagMask flag) flag = true := by
  cases flag <;> decide

/-- The copies after a flag is raised in one of them (R179). -/
theorem raiseIn_flags (p : Path) (flag : Flag) (s : State) :
    (raiseIn p flag s).fnu.flags =
      if hasFlag (s.fnu.flags.get p) flag then s.fnu.flags
      else s.fnu.flags.set p (s.fnu.flags.get p ||| flagMask flag) := by
  unfold raiseIn
  dsimp only
  repeat' split
  all_goals rfl

theorem raiseIn_hasFlag (p : Path) (flag : Flag) (s : State) :
    hasFlag ((raiseIn p flag s).fnu.flags.get p) flag = true := by
  rw [raiseIn_flags]
  split
  · assumption
  · rw [Both.get_set_same, hasFlag_or, hasFlag_flagMask, Bool.or_true]

/-- A raised flag clears none. -/
theorem raiseIn_hasFlag_of (p q : Path) (flag other : Flag) (s : State) (h : hasFlag (s.fnu.flags.get q) other = true) :
    hasFlag ((raiseIn p flag s).fnu.flags.get q) other = true := by
  rw [raiseIn_flags]
  split
  · exact h
  · rw [Both.get_set]
    split
    · next same => rw [hasFlag_or, ← same, h, Bool.true_or]
    · exact h

/-! ## Link errors (R5, R33) -/

theorem linkError_taken (p : Path) (s : State) : LinkErrorTaken p s (linkError p s) := by
  have scored : (linkError p s).hmon = s.hmon.set p
      ((s.hmon.get p).scored s.owc.policy (raiseScore (s.hmon.get p).score s.owc.policy.linkWeight.toNat)) := by
    rw [linkError, (raiseIn_frame _ _ _).1, applyScore_hmon]
  unfold LinkErrorTaken
  rw [scored, Both.get_set_same, Both.get_set_other]
  exact ⟨rfl, rfl, rfl, rfl, rfl, raiseIn_hasFlag _ _ _, by simp, by simp, by simp⟩

/-- A frame in assembly that is discarded: one link error, and an assembler in IDLE (R5). -/
theorem discardFrame_taken (p : Path) (s : State) :
    ((discardFrame p s).pif.get p).assembler = .idle ∧ ((discardFrame p s).pif.get p).gapTimer = none ∧
      LinkErrorTaken p s (discardFrame p s) := by
  refine ⟨?_, ?_, linkError_taken p (s.onPif p Pif.clearAssembler)⟩
  · simp [discardFrame, Pif.clearAssembler]
  · simp [discardFrame, Pif.clearAssembler]

/-- A marked character in the course of a frame: the frame is discarded and the next one begins (R1). -/
theorem takeMarked_of_assembling {p : Path} {byte : Byte} {s : State} (h : (s.pif.get p).assembler ≠ .idle) :
    takeMarked p byte s = (discardFrame p s).onPif p (Pif.beginFrame byte) := by
  unfold takeMarked
  split
  · next idle => exact absurd idle h
  · rfl
  · rfl

theorem takeCharacterIf_of_due {due : Assembler → Bool} {p : Path} {marked : Bool} {byte : Byte} {s : State}
    (h : due (s.pif.get p).assembler = true) : takeCharacterIf due p marked byte s = takeCharacter p marked byte s := by
  rw [takeCharacterIf, if_pos h]

theorem takeLength_above {p : Path} {kind high low : Byte} {sum : Word} {s : State}
    (h : Config.maxPayload < high.toNat * 256 + low.toNat) : takeLength p kind high low sum s = discardFrame p s := by
  rw [takeLength, if_pos h]

/-- Settles O19: each of the five events is `discardFrame`. -/
theorem linkErrorsDiscardFrame : Obligations.LinkErrorsDiscardFrame := by
  intro p byte s up
  obtain ⟨idle, stopped, taken⟩ := discardFrame_taken p s
  have discards {c : Instr} {t : State} (run : exec c s = .next t) (h : t = discardFrame p s) :
      ∃ t, exec c s = .next t ∧ (t.pif.get p).assembler = .idle ∧ (t.pif.get p).gapTimer = none ∧
        LinkErrorTaken p s t :=
    ⟨discardFrame p s, h ▸ run, idle, stopped, taken⟩
  refine ⟨fun assembling => ?_, fun assembling running => ?_, fun kind high sum h above => ?_,
    fun kind n bytes sum h length => ⟨fun fails => ?_, fun right unknown => ?_⟩, fun assembling running same => ?_⟩
  · refine ⟨(discardFrame p s).onPif p (Pif.beginFrame byte), congrArg Host.Outcome.next ?_, ?_, ?_, ?_⟩
    · rw [takeCharacterIf_of_due (by simpa using assembling), (takeCharacter_up up byte).1,
        takeMarked_of_assembling assembling]
    · rw [State.onPif_get_same]
      rfl
    · rw [State.onPif_get_same]
      rfl
    · exact taken
  · exact discards (t := gapExpired p s) rfl (if_pos ⟨running, assembling⟩)
  · refine discards (t := takeCharacterIf (Assembler.overLength byte) p false byte s) rfl ?_
    rw [takeCharacterIf_of_due (by rw [h]; exact decide_eq_true above), (takeCharacter_up up byte).2, takeUnmarked, h]
    exact takeLength_above above
  · refine discards (t := takeCharacterIf (Assembler.checkFails byte) p false byte s) rfl ?_
    rw [takeCharacterIf_of_due (by rw [h]; simp [Assembler.checkFails, length, fails]), (takeCharacter_up up byte).2,
      takeUnmarked, h]
    refine (takeBody_last length).trans ?_
    rw [completeFrame, if_neg fails]
  · have payload : (bytes ++ [byte]).take n = bytes.take n := List.take_append_of_le_length (by omega)
    refine discards (t := takeCharacterIf (Assembler.unknownKind byte) p false byte s) rfl ?_
    rw [takeCharacterIf_of_due (by rw [h]; simp [Assembler.unknownKind, length, right, payload, unknown]),
      (takeCharacter_up up byte).2, takeUnmarked, h]
    refine (takeBody_last length).trans ?_
    rw [completeFrame, if_pos right, payload, unknown]
  · have expired : gapExpired p s = discardFrame p s := if_pos ⟨running, assembling⟩
    refine congrArg Host.Outcome.next (expired.trans ?_)
    exact congrArg (raiseIn p .linkError) (applyScore_of_same_health (s := s.onPif p Pif.clearAssembler) same)

/-! ## Carrier return (R7, R35) -/

/-- HMON's fields after carrier return: HEALTHY at once where doubt_lo is 192 or more (R35). -/
def Hmon.returned (r : PolicyRecord) : Hmon :=
  { score := 192, health := if 192 ≤ r.doubtLo.toNat then .healthy else .lost, window := some r.pulsePeriodMs.toNat,
    pulseCounted := false, heldThroughout := false }

/-- On a DOWN link the return leaves the health LOST before the evaluation, which can only make it HEALTHY. -/
theorem carrierBack_down {p : Path} {s : State} (h : s.linkUp p = false) :
    carrierBack p s =
      let back := (s.onPif p (fun f => { Pif.reset with link := .up, sent := f.sent })).onHmon p
        (fun _ => Hmon.returned s.owc.policy)
      if 192 ≤ s.owc.policy.doubtLo.toNat then ownerHealthy p back else back := by
  have judged : judgeHealth p ((s.onPif p (fun f => { Pif.reset with link := .up, sent := f.sent })).onHmon p
      (fun _ => Hmon.carrierBack s.owc.policy.pulsePeriodMs.toNat)) =
      (s.onPif p (fun f => { Pif.reset with link := .up, sent := f.sent })).onHmon p
        (fun _ => Hmon.returned s.owc.policy) :=
    State.onHmon_onHmon p _ _ _
  rw [carrierBack, if_neg (by simp [h]), reevaluate, judged, State.onHmon_get_same, reportChange,
    State.onHmon_get_same]
  by_cases high : 192 ≤ s.owc.policy.doubtLo.toNat
  · have health : (Hmon.returned s.owc.policy).health = .healthy := if_pos high
    rw [if_neg (by rw [health]; exact Health.noConfusion), health]
    exact (if_pos high).symm
  · have health : (Hmon.returned s.owc.policy).health = .lost := if_neg high
    rw [if_pos (by exact health)]
    exact (if_neg high).symm

/-- Settles O21: `carrierBack_down`, and the end of GRACE where the owner becomes HEALTHY. -/
theorem carrierReturnTaken : Obligations.CarrierReturnTaken := by
  intro p s
  refine ⟨fun down => ⟨carrierBack p s, rfl, ?_⟩, fun up => congrArg Host.Outcome.next (if_pos up)⟩
  rw [carrierBack_down down]
  dsimp only
  set back := (s.onPif p (fun f => { Pif.reset with link := .up, sent := f.sent })).onHmon p
    (fun _ => Hmon.returned s.owc.policy) with hback
  have howc : back.owc = s.owc := rfl
  have hpif : back.pif = s.pif.set p { Pif.reset with link := .up, sent := (s.pif.get p).sent } := rfl
  have hhmon : back.hmon = s.hmon.set p (Hmon.returned s.owc.policy) := rfl
  have hrest : back.adm = s.adm ∧ back.ift = s.ift ∧ back.stb = s.stb ∧ back.mem = s.mem ∧ back.dpt = s.dpt ∧
      back.fnu = s.fnu := ⟨rfl, rfl, rfl, rfl, rfl, rfl⟩
  clear_value back
  by_cases high : 192 ≤ s.owc.policy.doubtLo.toNat
  · rw [if_pos high]
    simp only [ownerHealthy_frame, hpif, hhmon, hrest, SameBlock, howc, and_true, true_and]
    refine ⟨rfl, fun other => ?_, fun _ grace owner => ?_⟩
    · rw [ownerHealthy, if_neg (by rw [howc]; exact fun h => other ⟨high, h⟩), howc]
    · rw [ownerHealthy, if_pos (by rw [howc]; exact ⟨grace, owner⟩), refreshRoles_owc]
      exact ⟨rfl, owner, rfl⟩
  · rw [if_neg high]
    exact ⟨hpif, hhmon, fun _ => howc, fun h => absurd h high, hrest⟩

end Sys2Proof.Machine
end

section
/-! What an event that ends in `conclude` keeps of the links and the flags: no frame is lost, the frame in transmission stays,
a DOWN interface is left alone, and no flag is cleared (R6, R12, R13, R179). -/

namespace Sys2Proof.Machine

set_option Elab.async false

/-! ## A path interface -/

/-- From `f` to `g` no frame is lost: the frame in transmission stays, every frame in the queue, in transmission or waiting
is carried on, and an interface whose link is DOWN is left as it is. -/
structure Pif.Goes (f g : Pif) : Prop where
  down : f.link = .down → g = f
  sending : ∀ x, f.sending = some x → g.sending = some x
  carries : ∀ frame, Carries f frame → Carries g frame

theorem Pif.Goes.refl (f : Pif) : f.Goes f :=
  ⟨fun _ => rfl, fun _ => id, fun _ => id⟩

theorem Pif.Goes.trans {f g h : Pif} (a : f.Goes g) (b : g.Goes h) : f.Goes h where
  down hf := by
    have same := a.down hf
    rw [b.down (by rw [same]; exact hf), same]
  sending x hx := b.sending x (a.sending x hx)
  carries frame hf := b.carries frame (a.carries frame hf)

theorem mem_takeSendable {held : Bool} {l rest : List TxItem} {x y : TxItem}
    (h : takeSendable held l = some (x, rest)) (hy : y ∈ l) : y = x ∨ y ∈ rest := by
  induction l generalizing rest with
  | nil => cases hy
  | cons z l ih =>
    unfold takeSendable at h
    split at h
    · split at h
      · next w others hw =>
        cases h
        rcases List.mem_cons.1 hy with rfl | hy
        · exact .inr (by simp)
        · exact (ih hw hy).imp id (List.mem_cons_of_mem z)
      · cases h
    · cases h
      exact List.mem_cons.1 hy

theorem Pif.Goes.chooseNext (f : Pif) : f.Goes f.chooseNext := by
  unfold Pif.chooseNext
  split
  · next idle =>
    obtain ⟨up, free⟩ := idle
    have kept {g : Pif} (carries : ∀ frame, Carries f frame → Carries g frame) : f.Goes g :=
      ⟨fun down => by simp [up] at down, fun x hx => by simp [free] at hx, carries⟩
    have begun {g : Pif} (htxq : g.txq = f.txq) (hwaiting : g.waiting = f.waiting) : f.Goes g := by
      refine kept fun frame hf => ?_
      rcases hf with ⟨x, hx, rfl⟩ | ⟨x, hx, _⟩ | ⟨w, hw, rfl⟩
      · exact .inl ⟨x, htxq ▸ hx, rfl⟩
      · simp [free] at hx
      · exact .inr (.inr ⟨w, hwaiting ▸ hw, rfl⟩)
    split
    · exact begun rfl rfl
    · split
      · exact begun rfl rfl
      · split
        · next x rest taken =>
          refine kept fun frame hf => ?_
          rcases hf with ⟨y, hy, rfl⟩ | ⟨y, hy, _⟩ | ⟨w, hw, rfl⟩
          · rcases mem_takeSendable taken hy with rfl | hy
            · exact .inr (.inl ⟨_, rfl, rfl⟩)
            · exact .inl ⟨y, hy, rfl⟩
          · simp [free] at hy
          · exact .inr (.inr ⟨w, hw, rfl⟩)
        · exact .refl f
  · exact .refl f

/-- A change, on an UP link, that keeps the queue, the transmission and the waiting frames, and the choice after it. -/
theorem Pif.Goes.choose_of_up {f g : Pif} (up : f.link = .up) (sending : g.sending = f.sending)
    (carries : ∀ frame, Carries f frame → Carries g frame) : f.Goes g.chooseNext :=
  Pif.Goes.trans ⟨fun down => by simp [up] at down, fun _ hx => sending ▸ hx, carries⟩ (.chooseNext g)

theorem Pif.Goes.placeFlow {f : Pif} (frame : OutFrame) (up : f.link = .up) : f.Goes (f.placeFlow frame) :=
  .choose_of_up up rfl fun _ => id

theorem Pif.Goes.sendHold {f : Pif} (up : f.link = .up) : f.Goes f.sendHold :=
  .choose_of_up up rfl fun _ => id

theorem Pif.Goes.askGo {f : Pif} (up : f.link = .up) : f.Goes f.askGo := by
  have sent : f.Goes f.sendGo := .choose_of_up up rfl fun _ => id
  unfold Pif.askGo Pif.withdrawGo
  split
  · split
    · exact ⟨fun down => by simp [up] at down, sent.sending, sent.carries⟩
    · exact sent
  · exact sent

theorem Pif.Goes.enqueue {f : Pif} (x : TxItem) (up : f.link = .up) : f.Goes (f.enqueue x) := by
  refine .choose_of_up up rfl fun frame hf => ?_
  rcases hf with ⟨y, hy, rfl⟩ | hf | hf
  · exact .inl ⟨y, List.mem_append_left _ hy, rfl⟩
  · exact .inr (.inl hf)
  · exact .inr (.inr hf)

theorem Pif.link_of_hasRoom {f : Pif} (h : f.hasRoom = true) : f.link = .up := by
  simp only [Pif.hasRoom, Bool.and_eq_true, beq_iff_eq] at h
  exact h.1

theorem carries_enqueue (x : TxItem) (f : Pif) : Carries (f.enqueue x) x.frame :=
  (Pif.Goes.chooseNext { f with txq := f.txq ++ [x] }).carries x.frame (.inl ⟨x, by simp, rfl⟩)

theorem Link.eq_up_of_ne_down {l : Link} (h : l ≠ .down) : l = .up := by
  cases l
  · exact absurd rfl h
  · rfl

theorem Pif.Goes.offer (producer : Producer) (x : TxItem) (f : Pif) : f.Goes (f.offer producer x) := by
  unfold Pif.offer
  split
  · exact .refl f
  · next notDown =>
    have up := Link.eq_up_of_ne_down notDown
    split
    · exact .enqueue x up
    · refine ⟨fun down => absurd down notDown, fun _ => id, fun frame hf => ?_⟩
      rcases hf with hf | hf | ⟨w, hw, rfl⟩
      · exact .inl hf
      · exact .inr (.inl hf)
      · exact .inr (.inr ⟨w, List.mem_append_left _ hw, rfl⟩)

/-- A frame offered on an UP link is carried (R12). -/
theorem carries_offer {f : Pif} (producer : Producer) (x : TxItem) (up : f.link = .up) :
    Carries (f.offer producer x) x.frame := by
  unfold Pif.offer
  rw [if_neg (by simp [up])]
  split
  · exact carries_enqueue x f
  · exact .inr (.inr ⟨_, List.mem_append_right _ (List.mem_singleton_self _), rfl⟩)

theorem Pif.Goes.offerFlagNotice (flag : Flag) (f : Pif) : f.Goes (f.offerFlagNotice flag) := by
  unfold Pif.offerFlagNotice
  split
  · exact .refl f
  · exact .offer _ _ f

theorem Pif.Goes.enterWaiting (f : Pif) : f.Goes f.enterWaiting := by
  unfold Pif.enterWaiting
  split
  · exact .refl f
  · next w rest hw =>
    split
    · next room =>
      refine .choose_of_up (Pif.link_of_hasRoom room) rfl fun frame hf => ?_
      rcases hf with ⟨y, hy, rfl⟩ | hf | ⟨v, hv, rfl⟩
      · exact .inl ⟨y, List.mem_append_left _ hy, rfl⟩
      · exact .inr (.inl hf)
      · rw [hw] at hv
        rcases List.mem_cons.1 hv with rfl | hv
        · exact .inl ⟨v.item, List.mem_append_right _ (List.mem_singleton_self _), rfl⟩
        · exact .inr (.inr ⟨v, hv, rfl⟩)
    · exact .refl f

/-! ## The operations of `conclude` -/

/-- From `s` to `t` no frame is lost on either path, and no flag is cleared in either copy. -/
structure Advances (s t : State) : Prop where
  pif : ∀ p, (s.pif.get p).Goes (t.pif.get p)
  flags : ∀ p flag, hasFlag (s.fnu.flags.get p) flag = true → hasFlag (t.fnu.flags.get p) flag = true

theorem Advances.refl (s : State) : Advances s s :=
  ⟨fun _ => .refl _, fun _ _ => id⟩

theorem Advances.trans {s t u : State} (h : Advances s t) (k : Advances t u) : Advances s u :=
  ⟨fun p => (h.pif p).trans (k.pif p), fun p flag hf => k.flags p flag (h.flags p flag hf)⟩

theorem Advances.of_frame {s t : State} (hpif : t.pif = s.pif := by simp) (hfnu : t.fnu = s.fnu := by simp) :
    Advances s t :=
  ⟨fun _ => hpif ▸ .refl _, fun _ _ h => hfnu ▸ h⟩

theorem Advances.onPif {p : Path} {f : Pif → Pif} {s : State} (h : (s.pif.get p).Goes (f (s.pif.get p))) :
    Advances s (s.onPif p f) := by
  refine ⟨fun q => ?_, fun _ _ => id⟩
  rw [State.onPif_pif, Both.get_set]
  split
  · subst q
    exact h
  · exact .refl _

theorem offer_advances (p : Path) (producer : Producer) (frame : OutFrame) (s : State) :
    Advances s (s.offer p producer frame) :=
  .onPif (.offer _ _ _)

theorem raiseIn_advances (p : Path) (flag : Flag) (s : State) : Advances s (raiseIn p flag s) := by
  refine ⟨fun q => ?_, fun q other => raiseIn_hasFlag_of p q flag other s⟩
  have noticed (u : State) (hu : u.pif = s.pif) :
      (s.pif.get q).Goes ((u.onPif p (Pif.offerFlagNotice flag)).pif.get q) := by
    rw [← hu]
    exact (Advances.onPif (.offerFlagNotice flag _)).pif q
  unfold raiseIn
  dsimp only
  split
  · exact .refl _
  · split
    · exact noticed _ rfl
    · exact .refl _

theorem raiseBoth_advances (flag : Flag) (s : State) : Advances s (raiseBoth flag s) :=
  (raiseIn_advances .a flag s).trans (raiseIn_advances .b flag _)

theorem testHold_advances (p : Path) (s : State) : Advances s (testHold p s) := by
  unfold testHold
  split
  · next due =>
    simp only [Bool.and_eq_true] at due
    exact .onPif (.sendHold (State.linkUp_eq_true.1 due.1.1))
  · exact .refl s

theorem testGo_advances (p : Path) (s : State) : Advances s (testGo p s) := by
  unfold testGo
  split
  · next due =>
    simp only [Bool.and_eq_true] at due
    exact .onPif (.askGo (State.linkUp_eq_true.1 due.1.1))
  · exact .refl s

theorem testGoAfter_advances (before : State) (p : Path) (s : State) : Advances s (testGoAfter before p s) := by
  unfold testGoAfter
  split
  · exact testGo_advances p s
  · exact .refl s

theorem makeGrant_advances (g : GrantRequest) (s : State) : Advances s (makeGrant g s) := by
  unfold makeGrant
  split
  · exact .of_frame
  · exact Advances.trans .of_frame (testHold_advances _ _)

theorem walkFrom_advances (l : List GrantRequest) (full : Both Bool) (s : State) : Advances s (walkFrom l full s) := by
  induction l generalizing full s with
  | nil => exact .refl s
  | cons g rest ih =>
    unfold walkFrom
    split
    · exact ih full s
    · split
      · exact ih _ s
      · split
        · exact .refl s
        · exact (makeGrant_advances g s).trans (ih full _)

theorem walkGrants_advances (s : State) : Advances s (walkGrants s) :=
  Advances.trans (t := placeRequests s) .of_frame (walkFrom_advances _ _ _)

theorem arbiterGift_advances {s t : State} (h : arbiterGift s = some t) : Advances s t := by
  unfold arbiterGift at h
  split at h
  · split at h
    · split at h
      · cases h
        exact Advances.trans .of_frame (walkGrants_advances _)
      · cases h
    · cases h
  · cases h

theorem arbiterRuns_advances (n : Nat) (s : State) : Advances s (arbiterRuns n s) := by
  induction n generalizing s with
  | zero => exact .refl s
  | succ n ih =>
    unfold arbiterRuns
    split
    · next t gift => exact (arbiterGift_advances gift).trans (ih t)
    · exact .refl s

theorem offerReadData_advances (p : Path) (s : State) : Advances s (offerReadData p s) := by
  unfold offerReadData
  split
  · exact .refl s
  · split
    · exact .refl s
    · split
      · exact .refl s
      · exact .onPif (.offer _ _ _)

theorem follow_advances (before s : State) : Advances s (follow before s) :=
  (testGoAfter_advances before .a s).trans <| (testGoAfter_advances before .b _).trans <|
    (walkGrants_advances _).trans <| (arbiterRuns_advances _ _).trans <|
    (offerReadData_advances .a _).trans (offerReadData_advances .b _)

theorem addOrphan_advances (r : OrphanRecord) (s : State) : Advances s (addOrphan r s) := by
  refine .trans ?_ (raiseBoth_advances .orphans _)
  exact .of_frame rfl rfl

theorem reportOrphan_advances (e : Entry) (outcome : Outcome) (s : State) : Advances s (reportOrphan e outcome s) := by
  unfold reportOrphan
  split
  · exact (raiseBoth_advances _ s).trans (addOrphan_advances _ _)
  · exact addOrphan_advances _ s

theorem onEntry_advances (slot : Nat) (f : Entry → Entry) (s : State) : Advances s (s.onEntry slot f) :=
  .of_frame

theorem dropEntry_advances (slot : Nat) (s : State) : Advances s (dropEntry slot s) :=
  .of_frame

theorem finalReply_advances (e : Entry) (status : Status) (s : State) : Advances s (finalReply e status s) := by
  unfold finalReply
  dsimp only
  split
  · exact .trans (offer_advances e.origin _ _ s) (onEntry_advances _ _ _)
  · exact .trans (offer_advances e.origin _ _ s) (dropEntry_advances _ _)

theorem makeReport_advances (e : Entry) (s : State) : Advances s (makeReport e s) := by
  have removed (outcome : Outcome) : Advances s (dropEntry e.slot (reportOrphan e outcome s)) :=
    (reportOrphan_advances e outcome s).trans (dropEntry_advances _ _)
  unfold makeReport
  split
  · refine .trans ?_ (finalReply_advances _ _ _)
    exact (reportOrphan_advances e _ s).trans (onEntry_advances _ _ _)
  · split
    · split
      · exact removed _
      · split
        · exact dropEntry_advances _ s
        · exact removed _
    · split
      · exact removed _
      · split
        · exact finalReply_advances _ _ s
        · exact .refl s

theorem reportSlot_advances (slot : Nat) (s : State) : Advances s (reportSlot slot s) := by
  unfold reportSlot
  split
  · exact .refl s
  · split
    · exact Advances.trans .of_frame (makeReport_advances _ _)
    · exact .refl s

theorem forSlots_advances {op : Nat → State → State} (h : ∀ k s, Advances s (op k s)) (l : List Nat) (s : State) :
    Advances s (forSlots op l s) := by
  induction l generalizing s with
  | nil => exact .refl s
  | cons k rest ih => exact (h k s).trans (ih (op k s))

theorem reportAll_advances (s : State) : Advances s (reportAll s) :=
  forSlots_advances reportSlot_advances _ s

theorem conclude_advances (before s : State) : Advances s (conclude before s) :=
  (reportAll_advances s).trans <| Advances.trans (t := checkDrainEnd (reportAll s)) .of_frame (follow_advances _ _)

end Sys2Proof.Machine
end

section
/-! The end of a transmission (R12 to R14, R131), where two reads hold one page: the statement does not ask that the page
reported belongs to the read reported (R137). -/

namespace Sys2Proof.Machine

set_option Elab.async false

/-- A read with nothing outstanding. -/
def sharedPageRead (slot : Nat) (tag : Word) (count : Nat) (phase : Phase) (endStatus : Option EndStatus) : Entry :=
  { slot := slot, origin := .a, tag := tag, op := .read, start := 0, count := count, epoch := 7#16, common := false
    posted := false, acked := false, age := slot, phase := phase, staged := 0, issued := count, committed := 0
    fetched := 0, delivered := 0, frontier := count, returned := [], readGrant := none, reissue := 0, blockedBy := []
    outstanding := [], endStatus := endStatus, fencedOutcome := none, cut := false, flushDone := false
    reported := false }

/-- The frame in transmission: a READ_DATA whose report names the read in slot 1 and page 5. -/
def sharedPageSending : Sending :=
  { source := .queue, item := { frame := .readData 2#16 0#16 [], tie := .block 1 1 5 } }

/-- The interface of Path A: with the READ_DATA in transmission and 31 frames behind it the transmit queue is full. -/
def sharedPagePif : Pif :=
  { Pif.reset with
    link := .up, txq := List.replicate 31 { frame := .dataRequest 0#16 0#16, tie := .plain }
    sending := some sharedPageSending }

/-- Page 5, named by the READ_DATA, belongs to the older read in slot 0, which is in ENDING and goes on while that block is
fetched: freeing the page brings its report due as well. -/
def sharedPageState : State :=
  { State.reset with
    pif := { a := sharedPagePif, b := Pif.reset }
    owc := { Owc.reset with state := .unowned }
    adm := { pointer := .b, sequence := 2 }
    ift := [sharedPageRead 0 1#16 2 .ending (some .mediaError), sharedPageRead 1 2#16 1 .running none]
    stb := { pages := [{ number := 5, path := .a, slot := some 0, offset := 0, state := .fetched }], grants := [] } }

theorem sharedPageState_tableInv : TableInv sharedPageState := by
  refine ⟨?_, ?_, ?_, ?_⟩ <;> simp [sharedPageState, sharedPageRead, Config.entrySlots, Config.sequenceMax]

theorem sharedPageState_reportsMade : ReportsMade sharedPageState := by
  intro e he
  fin_cases he <;> decide +kernel

/-- The older read's reply takes the position that the READ_DATA has freed, and the reply of the read in slot 1 waits. -/
theorem frameSent_sharedPageState_entry : ((frameSent .a sharedPageState).entry? 1).isSome = true := by
  decide +kernel

/-- Refutes O50: in `sharedPageState` the last block of the read in slot 1 is sent from a full transmit queue in which no
frame waits, and yet its entry is not removed, because the freed page ends the older read, whose reply goes first. -/
theorem not_framesLeaveAndEnter : ¬ Obligations.FramesLeaveAndEnter := by
  rintro ⟨_, sends⟩
  obtain ⟨t, run, _, _, _, block, _⟩ := (sends .a sharedPageState).1 sharedPageSending rfl
  cases run
  obtain ⟨_, _, lastBlock, _⟩ := block 1 1 5 (sharedPageRead 1 2#16 1 .running none) rfl rfl rfl sharedPageState_tableInv rfl
  obtain ⟨_, removal⟩ := lastBlock ⟨rfl, rfl, rfl, rfl, rfl, rfl, rfl⟩ rfl rfl rfl
  obtain ⟨gone, _⟩ := removal sharedPageState_reportsMade rfl (by decide) rfl
  have stays := frameSent_sharedPageState_entry
  rw [gone] at stays
  cases stays

end Sys2Proof.Machine
end

section
/-! The table under reports, grants and gifts: what a report does to the other entries (R128, R129), and what follows an
event (R121, R146, R162). -/

namespace Sys2Proof.Machine

set_option Elab.async false

/-! ## The entry in a slot -/

/-- No two entries of the table stand in one slot. -/
def SlotsDistinct (s : State) : Prop :=
  s.ift.Pairwise (fun x y => x.slot ≠ y.slot)

theorem TableInv.slotsDistinct {s : State} (h : TableInv s) : SlotsDistinct s :=
  h.2.1

theorem mem_of_entry? {s : State} {k : Nat} {e : Entry} (h : s.entry? k = some e) : e ∈ s.ift ∧ e.slot = k :=
  ⟨List.mem_of_find?_eq_some h, by simpa using List.find?_some h⟩

theorem entry?_of_mem {s : State} (distinct : SlotsDistinct s) {e : Entry} (he : e ∈ s.ift) : s.entry? e.slot = some e := by
  cases found : s.entry? e.slot with
  | none => exact absurd he fun h => by simpa using List.find?_eq_none.1 found e h
  | some x =>
    obtain ⟨hx, same⟩ := mem_of_entry? found
    have nodup : (s.ift.map Entry.slot).Nodup := List.pairwise_map.2 distinct
    rw [List.inj_on_of_nodup_map nodup hx he same]

theorem entry?_congr {s t : State} (h : t.ift = s.ift) (k : Nat) : t.entry? k = s.entry? k := by
  unfold State.entry?
  rw [h]

theorem entry?_onEntry {f : Entry → Entry} (hf : ∀ x, (f x).slot = x.slot) (slot k : Nat) (s : State) :
    (s.onEntry slot f).entry? k = (s.entry? k).map (fun e => if e.slot = slot then f e else e) := by
  unfold State.entry? State.onEntry
  rw [List.find?_map]
  congr 2
  funext e
  simp only [Function.comp_apply]
  split <;> simp [hf]

theorem entry?_onEntry_ne {f : Entry → Entry} {slot k : Nat} (s : State) (hf : ∀ x, (f x).slot = x.slot)
    (hk : k ≠ slot) : (s.onEntry slot f).entry? k = s.entry? k := by
  rw [entry?_onEntry hf]
  cases found : s.entry? k with
  | none => rfl
  | some e => simp [(mem_of_entry? found).2, hk]

theorem entry?_dropEntry_same (k : Nat) (s : State) : (dropEntry k s).entry? k = none := by
  refine List.find?_eq_none.2 fun y hy => ?_
  obtain ⟨x, hx, rfl⟩ := List.mem_map.1 hy
  simpa using (List.mem_filter.1 hx).2

theorem entry?_dropEntry_ne {k j : Nat} (hj : j ≠ k) (s : State) :
    (dropEntry k s).entry? j = (s.entry? j).map (Entry.unblock k) := by
  unfold dropEntry State.entry?
  dsimp only
  rw [List.find?_map, List.find?_filter]
  congr 2
  funext e
  by_cases same : e.slot = j
  · simp [same, hj]
  · simp [same]

theorem SlotsDistinct.map {s t : State} {f : Entry → Entry} (distinct : SlotsDistinct s) (hf : ∀ x, (f x).slot = x.slot)
    (h : t.ift = s.ift.map f) : SlotsDistinct t := by
  unfold SlotsDistinct
  rw [h]
  exact List.pairwise_map.2 (distinct.imp fun hxy => by rwa [hf, hf])

theorem SlotsDistinct.onEntry {s : State} {f : Entry → Entry} (k : Nat) (distinct : SlotsDistinct s)
    (hf : ∀ x, (f x).slot = x.slot) : SlotsDistinct (s.onEntry k f) :=
  distinct.map (fun x => by split <;> simp [hf]) rfl

theorem SlotsDistinct.dropEntry {s : State} (k : Nat) (distinct : SlotsDistinct s) : SlotsDistinct (dropEntry k s) :=
  List.pairwise_map.2 ((distinct.filter _).imp fun hxy => by simpa using hxy)

theorem SlotsDistinct.congr {s t : State} (distinct : SlotsDistinct s) (h : t.ift = s.ift) : SlotsDistinct t := by
  unfold SlotsDistinct
  rwa [h]

/-- An entry in ENDING with an empty blocked-by set is not changed by another's removal (R129). -/
theorem Entry.unblock_of_ending {e : Entry} (k : Nat) (ending : e.phase = .ending) (free : e.blockedBy = []) :
    e.unblock k = e := by
  cases e
  subst ending free
  rfl

/-! ## The reports -/

/-- What the report of the entry in a slot can do to the table: nothing, the entry's removal, or its mark as reported. -/
inductive TableReported (k : Nat) (s t : State) : Prop where
  | kept (h : t.ift = s.ift)
  | dropped (h : t.ift = (dropEntry k s).ift)
  | marked (outcome : Entry → Option Outcome)
      (h : t.ift = (s.onEntry k (fun x => { x with reported := true, fencedOutcome := outcome x })).ift)

theorem TableReported.of_ift {k : Nat} {s s' t : State} (h : TableReported k s' t) (same : s'.ift = s.ift) :
    TableReported k s t := by
  cases h with
  | kept h => exact .kept (h.trans same)
  | dropped h => exact .dropped (h.trans (by simp [dropEntry, withdrawRequest, State.freeWhere, same]))
  | marked outcome h => exact .marked outcome (h.trans (by simp [State.onEntry, same]))

/-- A change of the entry in a slot does not outlast the entry's removal. -/
theorem dropEntry_onEntry_ift {f : Entry → Entry} (hf : ∀ x, (f x).slot = x.slot) (k : Nat) (s : State) :
    (dropEntry k (s.onEntry k f)).ift = (dropEntry k s).ift := by
  unfold dropEntry State.onEntry
  dsimp only
  simp only [State.freeWhere, withdrawRequest]
  congr 1
  induction s.ift with
  | nil => rfl
  | cons x rest ih =>
    by_cases same : x.slot = k
    · simpa [same, hf] using ih
    · simpa [same] using ih

theorem dropEntry_ift_congr {s t : State} (h : t.ift = s.ift) (k : Nat) : (dropEntry k t).ift = (dropEntry k s).ift := by
  simp [dropEntry, withdrawRequest, State.freeWhere, h]

theorem finalReply_table {e : Entry} {s u : State} (status : Status) (outcome : Entry → Option Outcome)
    (h : u.ift = (s.onEntry e.slot (fun x => { x with fencedOutcome := outcome x })).ift) :
    TableReported e.slot s (finalReply e status u) := by
  unfold finalReply
  dsimp only
  split
  · refine .marked outcome ?_
    simp only [State.onEntry, State.offer_frame, h, List.map_map]
    congr 1
    funext x
    by_cases same : x.slot = e.slot <;> simp [same]
  · refine .dropped ((dropEntry_ift_congr ?_ e.slot).trans (dropEntry_onEntry_ift
      (f := fun x => { x with fencedOutcome := outcome x }) (fun _ => rfl) e.slot s))
    exact (by simp : _ = u.ift).trans h

theorem onEntry_id_ift (k : Nat) (s : State) : (s.onEntry k fun x => x).ift = s.ift := by
  simp [State.onEntry]

theorem makeReport_table (e : Entry) (s : State) : TableReported e.slot s (makeReport e s) := by
  have removed (outcome : Outcome) : TableReported e.slot s (dropEntry e.slot (reportOrphan e outcome s)) :=
    .dropped (dropEntry_ift_congr (by simp) _)
  unfold makeReport
  split
  · next given _ =>
    refine finalReply_table _ (fun _ => some (e.finalOutcome given)) ?_
    simp only [State.onEntry, reportOrphan_frame]
  · split
    · split
      · exact removed _
      · split
        · exact .dropped rfl
        · exact removed _
    · split
      · exact removed _
      · split
        · exact finalReply_table _ (fun x => x.fencedOutcome) (onEntry_id_ift e.slot s).symm
        · exact .kept rfl

theorem reportSlot_table (k : Nat) (s : State) : TableReported k s (reportSlot k s) := by
  unfold reportSlot
  split
  · exact .kept rfl
  · next e found =>
    split
    · rw [← (mem_of_entry? found).2]
      exact (makeReport_table e _).of_ift (by simp)
    · exact .kept rfl

theorem TableReported.entry?_ne {k j : Nat} {s t : State} (h : TableReported k s t) (hj : j ≠ k) :
    t.entry? j = s.entry? j ∨ t.entry? j = (s.entry? j).map (Entry.unblock k) := by
  cases h with
  | kept h => exact .inl (entry?_congr h j)
  | dropped h => exact .inr ((entry?_congr h j).trans (entry?_dropEntry_ne hj s))
  | marked outcome h => exact .inl ((entry?_congr h j).trans (entry?_onEntry_ne s (fun _ => rfl) hj))

/-- The reports of other slots leave an entry in ENDING, with an empty blocked-by set, as it is. -/
theorem TableReported.entry?_ending {k j : Nat} {s t : State} {e : Entry} (h : TableReported k s t) (hj : j ≠ k)
    (found : s.entry? j = some e) (ending : e.phase = .ending) (free : e.blockedBy = []) : t.entry? j = some e := by
  rcases h.entry?_ne hj with same | same
  · rw [same, found]
  · rw [same, found, Option.map_some, e.unblock_of_ending k ending free]

theorem TableReported.slotsDistinct {k : Nat} {s t : State} (h : TableReported k s t) (distinct : SlotsDistinct s) :
    SlotsDistinct t := by
  cases h with
  | kept h => exact distinct.congr h
  | dropped h => exact (distinct.dropEntry k).congr h
  | marked outcome h =>
    exact (distinct.onEntry k (f := fun x => { x with reported := true, fencedOutcome := outcome x }) fun _ => rfl).congr h

end Sys2Proof.Machine
end

section
/-! The reports of an event (R128): an entry with segments outstanding waits for them, an ended write with none is answered,
and where no other report is due that answer is the only one. -/

namespace Sys2Proof.Machine

set_option Elab.async false

/-! ## Which reports are due -/

theorem isFetched_freeWhere {test : PageRecord → Bool} {j : Nat} (s : State)
    (kept : ∀ r, r.slot = some j → test r = false) (offset : Nat) :
    (s.freeWhere test).isFetched j offset = s.isFetched j offset := by
  unfold State.isFetched State.freeWhere
  dsimp only
  rw [List.any_filter]
  congr 1
  funext r
  by_cases own : r.slot = some j
  · simp [kept r own]
  · simp [PageRecord.within, own]

theorem reportDue_congr {s t : State} {x : Entry} (role : t.role x.origin = s.role x.origin)
    (fetched : ∀ offset, t.isFetched x.slot offset = s.isFetched x.slot offset) : t.reportDue x = s.reportDue x := by
  unfold State.reportDue State.deliverable
  rw [role, fetched]

theorem reportDue_of_not_ending {s : State} {x : Entry} (h : x.phase ≠ .ending) : s.reportDue x = false := by
  simp [State.reportDue, h]

theorem reportDue_of_outstanding {s : State} {x : Entry} (h : x.outstanding ≠ []) : s.reportDue x = false := by
  simp [State.reportDue, h]

/-- Another entry's removal does not bring a report due (R129). -/
theorem reportDue_unblock (k : Nat) (s : State) (x : Entry) : s.reportDue (x.unblock k) = s.reportDue x := by
  by_cases ending : x.phase = .ending
  · have same : x.unblock k = { x with blockedBy := (x.unblock k).blockedBy } := by
      simp [Entry.unblock, ending]
    rw [same]
    rfl
  · rw [reportDue_of_not_ending ending, reportDue_of_not_ending]
    unfold Entry.unblock
    dsimp only
    split
    · simp
    · exact ending

/-! ## An entry that waits for its segments -/

theorem reportSlot_entry?_outstanding {k j : Nat} {s : State} {e : Entry} (found : s.entry? j = some e)
    (ending : e.phase = .ending) (free : e.blockedBy = []) (busy : e.outstanding ≠ []) :
    (reportSlot k s).entry? j = some e := by
  by_cases own : j = k
  · subst own
    unfold reportSlot
    rw [found]
    dsimp only
    rw [if_neg (by simp [reportDue_of_outstanding busy]), found]
  · exact (reportSlot_table k s).entry?_ending own found ending free

theorem reportAll_entry?_outstanding {j : Nat} {s : State} {e : Entry} (found : s.entry? j = some e)
    (ending : e.phase = .ending) (free : e.blockedBy = []) (busy : e.outstanding ≠ []) :
    (reportAll s).entry? j = some e := by
  unfold reportAll
  generalize s.slotsWhere _ = l
  induction l generalizing s with
  | nil => exact found
  | cons k rest ih => exact ih (reportSlot_entry?_outstanding found ending free busy)

/-! ## An ended write that is answered -/

/-- A write of an unfenced path in ENDING, not acknowledged and not cut, with nothing outstanding and its report not made:
its final reply is due (R128). -/
structure Entry.AnswerDue (st : EndStatus) (e : Entry) : Prop where
  op : e.op = .write
  phase : e.phase = .ending
  blockedBy : e.blockedBy = []
  outstanding : e.outstanding = []
  endStatus : e.endStatus = some st
  fencedOutcome : e.fencedOutcome = none
  acked : e.acked = false
  cut : e.cut = false
  reported : e.reported = false

/-- The final reply of a write (R128). -/
def Entry.answerFrame (st : EndStatus) (epoch : Word) (e : Entry) : OutFrame :=
  .reply e.tag st.status (BitVec.ofNat 16 e.committed) epoch

theorem Entry.AnswerDue.reportDue {st : EndStatus} {e : Entry} (h : e.AnswerDue st) (s : State) : s.reportDue e = true := by
  simp [State.reportDue, State.deliverable, Entry.delivering, h.op, h.phase, h.reported, h.outstanding]

theorem Entry.AnswerDue.reportSlot {st : EndStatus} {e : Entry} (h : e.AnswerDue st) {s : State}
    (found : s.entry? e.slot = some e) :
    Machine.reportSlot e.slot s = finalReply e st.status (discardFetched e.slot s) := by
  unfold Machine.reportSlot
  rw [found]
  dsimp only
  rw [if_pos (h.reportDue s)]
  simp [makeReport, h.fencedOutcome, h.acked, h.cut, h.endStatus]

theorem Entry.AnswerDue.doneBlocks {st : EndStatus} {e : Entry} (h : e.AnswerDue st) : e.doneBlocks = e.committed := by
  simp [Entry.doneBlocks, h.op]

theorem finalReply_carries {e : Entry} {status : Status} {s : State} (up : (s.pif.get e.origin).link = .up) :
    Carries ((finalReply e status s).pif.get e.origin)
      (.reply e.tag status (BitVec.ofNat 16 e.doneBlocks) s.owc.epoch) := by
  have offered := carries_offer (.iftFinal e.slot)
    { frame := .reply e.tag status (BitVec.ofNat 16 e.doneBlocks) s.owc.epoch, tie := .plain } up
  unfold finalReply
  dsimp only
  split <;> simpa [State.offer] using offered

theorem reportAll_carries {st : EndStatus} {e : Entry} (h : e.AnswerDue st) {s : State}
    (found : s.entry? e.slot = some e) (up : (s.pif.get e.origin).link = .up) :
    Carries ((reportAll s).pif.get e.origin) (e.answerFrame st s.owc.epoch) := by
  have listed : e.slot ∈ s.slotsWhere (fun _ => true) :=
    List.mem_map_of_mem (List.mem_filter.2 ⟨(mem_of_entry? found).1, rfl⟩)
  unfold reportAll
  revert listed
  generalize s.slotsWhere _ = l
  induction l generalizing s with
  | nil => exact fun none => absurd none (by simp)
  | cons k rest ih =>
    intro listed
    by_cases own : e.slot = k
    · subst own
      refine ((forSlots_advances reportSlot_advances rest _).pif e.origin).carries _ ?_
      rw [h.reportSlot found]
      have answered := finalReply_carries (e := e) (status := st.status) (s := discardFetched e.slot s) (by simpa using up)
      rw [h.doneBlocks] at answered
      simpa [Entry.answerFrame] using answered
    · have still := (reportSlot_table k s).entry?_ending own found h.phase h.blockedBy
      have epoch : (reportSlot k s).owc.epoch = s.owc.epoch := by simp
      rw [← epoch]
      exact ih still (by simpa using up) ((List.mem_cons.1 listed).resolve_left own)

/-! ## One report alone -/

theorem forSlots_fixed {op : Nat → State → State} {s : State} (fixed : ∀ j, op j s = s) (l : List Nat) :
    forSlots op l s = s := by
  induction l with
  | nil => rfl
  | cons k rest ih =>
    unfold forSlots
    rw [fixed k, ih]

theorem forSlots_once {op : Nat → State → State} {s t : State} {k : Nat} {l : List Nat} (listed : k ∈ l)
    (once : op k s = t) (others : ∀ j, j ≠ k → op j s = s) (after : ∀ j, op j t = t) : forSlots op l s = t := by
  induction l with
  | nil => simp at listed
  | cons j rest ih =>
    unfold forSlots
    by_cases own : j = k
    · subst own
      rw [once, forSlots_fixed after]
    · rw [others j own]
      exact ih ((List.mem_cons.1 listed).resolve_left (Ne.symm own))

theorem reportSlot_of_not_due {k : Nat} {s : State} (h : ∀ e, s.entry? k = some e → s.reportDue e = false) :
    reportSlot k s = s := by
  unfold reportSlot
  split
  · rfl
  · next e found => rw [if_neg (by simp [h e found])]

theorem isFetched_congr {s t : State} (h : t.stb = s.stb) (slot offset : Nat) :
    t.isFetched slot offset = s.isFetched slot offset := by
  unfold State.isFetched
  rw [h]

theorem isFetched_dropEntry {k j : Nat} (hj : j ≠ k) (s : State) (offset : Nat) :
    (dropEntry k s).isFetched j offset = s.isFetched j offset :=
  isFetched_freeWhere s (fun r own => by simp [own, hj]) offset

theorem isFetched_discardFetched {k j : Nat} (hj : j ≠ k) (s : State) (offset : Nat) :
    (discardFetched k s).isFetched j offset = s.isFetched j offset :=
  isFetched_freeWhere s (fun r own => by simp [own, hj]) offset

theorem finalReply_of_room {e : Entry} {s : State} (status : Status) (room : (s.pif.get e.origin).hasRoom = true) :
    finalReply e status s = dropEntry e.slot (s.offer e.origin (.iftFinal e.slot)
      (.reply e.tag status (BitVec.ofNat 16 e.doneBlocks) s.owc.epoch)) := by
  unfold finalReply
  dsimp only
  rw [if_neg (by simp [room])]

/-- Where no other report is due and the reply has room, the reports of an event are that reply and the entry's removal. -/
theorem reportAll_removes {st : EndStatus} {e : Entry} (h : e.AnswerDue st) {s : State}
    (found : s.entry? e.slot = some e) (room : (s.pif.get e.origin).hasRoom = true)
    (others : ∀ x ∈ s.ift, x.slot ≠ e.slot → s.reportDue x = false) :
    ∃ u, reportAll s = dropEntry e.slot u ∧ u.ift = s.ift := by
  have dropped := (h.reportSlot found).trans (finalReply_of_room st.status (by simpa using room))
  refine ⟨_, forSlots_once (List.mem_map_of_mem (List.mem_filter.2 ⟨(mem_of_entry? found).1, rfl⟩)) dropped ?_ ?_,
    by simp⟩
  · intro j other
    refine reportSlot_of_not_due fun x hx => ?_
    obtain ⟨member, slot⟩ := mem_of_entry? hx
    exact others x member (by rwa [slot])
  · intro j
    refine reportSlot_of_not_due fun y hy => ?_
    by_cases own : j = e.slot
    · subst own
      rw [entry?_dropEntry_same] at hy
      cases hy
    · rw [entry?_dropEntry_ne own, entry?_congr (s := s) (by simp)] at hy
      obtain ⟨x, hx, rfl⟩ := Option.map_eq_some_iff.1 hy
      obtain ⟨member, slot⟩ := mem_of_entry? hx
      have other : x.slot ≠ e.slot := by rwa [slot]
      rw [reportDue_unblock, ← others x member other]
      refine reportDue_congr (by simp [State.role]) fun offset => ?_
      rw [isFetched_dropEntry other, isFetched_congr (s := discardFetched e.slot s) (by simp), isFetched_discardFetched other]

end Sys2Proof.Machine
end

section
/-! What follows an event for the table (R121, R146, R162): entries gain grants and segments, no entry comes or goes, and
pages are given to entries of the table alone. -/

namespace Sys2Proof.Machine

set_option Elab.async false

/-! ## Grants and gifts -/

/-- From `e` to `y` an entry has at most gained a grant, and where it is RUNNING segments at the drive. -/
structure Entry.Fed (e y : Entry) : Prop where
  slot : y.slot = e.slot
  origin : y.origin = e.origin
  op : y.op = e.op
  phase : y.phase = e.phase
  blockedBy : y.blockedBy = e.blockedBy
  endStatus : y.endStatus = e.endStatus
  cut : y.cut = e.cut
  waiting : e.phase ≠ .running → ∃ grant, y = { e with readGrant := grant }

theorem Entry.Fed.refl (e : Entry) : e.Fed e :=
  ⟨rfl, rfl, rfl, rfl, rfl, rfl, rfl, fun _ => ⟨e.readGrant, rfl⟩⟩

theorem Entry.Fed.trans {e x y : Entry} (h : e.Fed x) (k : x.Fed y) : e.Fed y where
  slot := k.slot.trans h.slot
  origin := k.origin.trans h.origin
  op := k.op.trans h.op
  phase := k.phase.trans h.phase
  blockedBy := k.blockedBy.trans h.blockedBy
  endStatus := k.endStatus.trans h.endStatus
  cut := k.cut.trans h.cut
  waiting hp := by
    obtain ⟨_, rfl⟩ := h.waiting hp
    obtain ⟨grant, rfl⟩ := k.waiting hp
    exact ⟨grant, rfl⟩

theorem Entry.Fed.grant (e : Entry) (grant : Option Nat) : e.Fed { e with readGrant := grant } :=
  ⟨rfl, rfl, rfl, rfl, rfl, rfl, rfl, fun _ => ⟨grant, rfl⟩⟩

theorem Entry.Fed.issueInto {e : Entry} (driveSlot : Nat) (run : Run) (running : e.phase = .running) :
    e.Fed (e.issueInto driveSlot run) where
  slot := by simp
  origin := by simp
  op := by simp
  phase := by simp
  blockedBy := by simp
  endStatus := by simp
  cut := by simp
  waiting hp := absurd running hp

theorem Entry.running_of_issuable {e : Entry} (h : e.issuable.isSome = true) : e.phase = .running := by
  unfold Entry.issuable at h
  split at h
  · assumption
  · simp at h

/-- From `s` to `t` every entry of the table stays, with what grants and gifts bring it, no entry is added, and every page
with a slot is one from before or belongs to an entry of the table. -/
structure State.Fed (s t : State) : Prop where
  entries : List.Forall₂ Entry.Fed s.ift t.ift
  pages : ∀ r ∈ t.stb.pages, ∀ k, r.slot = some k → (∃ r' ∈ s.stb.pages, r'.slot = some k) ∨ ∃ e ∈ s.ift, e.slot = k

theorem State.Fed.of_eq {s t : State} (ift : t.ift = s.ift := by simp) (pages : t.stb.pages = s.stb.pages := by simp) :
    s.Fed t :=
  ⟨ift ▸ List.forall₂_same.2 fun e _ => .refl e, fun r hr _ own => .inl ⟨r, pages ▸ hr, own⟩⟩

theorem State.Fed.refl (s : State) : s.Fed s :=
  .of_eq rfl rfl

theorem forall₂_fed_mem_right {l m : List Entry} (h : List.Forall₂ Entry.Fed l m) {y : Entry} (hy : y ∈ m) :
    ∃ e ∈ l, e.Fed y := by
  induction h with
  | nil => simp at hy
  | @cons e x l m head _ ih =>
    rcases List.mem_cons.1 hy with rfl | hy
    · exact ⟨e, by simp, head⟩
    · obtain ⟨e', he', fed⟩ := ih hy
      exact ⟨e', List.mem_cons_of_mem _ he', fed⟩

theorem forall₂_fed_slots {l m : List Entry} (h : List.Forall₂ Entry.Fed l m) : m.map Entry.slot = l.map Entry.slot := by
  induction h with
  | nil => rfl
  | cons head _ ih => rw [List.map_cons, List.map_cons, head.slot, ih]

theorem forall₂_fed_trans {l m n : List Entry} (h : List.Forall₂ Entry.Fed l m) (k : List.Forall₂ Entry.Fed m n) :
    List.Forall₂ Entry.Fed l n := by
  induction h generalizing n with
  | nil => exact k
  | cons head _ ih =>
    cases k with
    | cons headN tailN => exact .cons (head.trans headN) (ih tailN)

theorem State.Fed.mem {s t : State} (h : s.Fed t) {y : Entry} (hy : y ∈ t.ift) : ∃ e ∈ s.ift, e.Fed y :=
  forall₂_fed_mem_right h.entries hy

theorem State.Fed.trans {s t u : State} (h : s.Fed t) (k : t.Fed u) : s.Fed u where
  entries := forall₂_fed_trans h.entries k.entries
  pages r hr slot own := by
    rcases k.pages r hr slot own with ⟨r', hr', own'⟩ | ⟨y, hy, same⟩
    · exact h.pages r' hr' slot own'
    · obtain ⟨e, he, fed⟩ := h.mem hy
      exact .inr ⟨e, he, fed.slot.symm.trans same⟩

theorem State.Fed.slotsDistinct {s t : State} (h : s.Fed t) (distinct : SlotsDistinct s) : SlotsDistinct t := by
  have nodup : (s.ift.map Entry.slot).Nodup := List.pairwise_map.2 distinct
  rw [← forall₂_fed_slots h.entries] at nodup
  exact List.pairwise_map.1 nodup

theorem forall₂_fed_find? {l m : List Entry} (h : List.Forall₂ Entry.Fed l m) (k : Nat) :
    Option.Rel Entry.Fed (l.find? (fun e => e.slot == k)) (m.find? (fun e => e.slot == k)) := by
  induction h with
  | nil => exact .none
  | cons head _ ih =>
    rw [List.find?_cons, List.find?_cons, head.slot]
    split
    · exact .some head
    · exact ih

theorem State.Fed.entry?_some {s t : State} (h : s.Fed t) {k : Nat} {e : Entry} (found : s.entry? k = some e) :
    ∃ y, t.entry? k = some y ∧ e.Fed y := by
  have rel : Option.Rel Entry.Fed (s.entry? k) (t.entry? k) := forall₂_fed_find? h.entries k
  rw [found] at rel
  cases there : t.entry? k with
  | none => rw [there] at rel; cases rel
  | some y =>
    rw [there] at rel
    cases rel with
    | some fed => exact ⟨y, rfl, fed⟩

theorem State.Fed.entry?_none {s t : State} (h : s.Fed t) {k : Nat} (found : s.entry? k = none) : t.entry? k = none := by
  have rel : Option.Rel Entry.Fed (s.entry? k) (t.entry? k) := forall₂_fed_find? h.entries k
  rw [found] at rel
  cases there : t.entry? k with
  | none => rfl
  | some y => rw [there] at rel; cases rel

theorem State.Fed.onEntry {k : Nat} {f : Entry → Entry} {s : State} (h : ∀ e ∈ s.ift, e.slot = k → e.Fed (f e)) :
    s.Fed (s.onEntry k f) where
  entries := by
    refine List.forall₂_map_right_iff.2 (List.forall₂_same.2 fun e he => ?_)
    split
    · next own => exact h e he own
    · exact .refl e
  pages r hr _ own := .inl ⟨r, hr, own⟩

/-! ## The operations of `follow` -/

theorem mem_insertPage {r x : PageRecord} {l : List PageRecord} (h : x ∈ insertPage r l) : x = r ∨ x ∈ l := by
  induction l with
  | nil => simpa [insertPage] using h
  | cons y rest ih =>
    unfold insertPage at h
    split at h
    · simpa using h
    · rcases List.mem_cons.1 h with rfl | h
      · simp
      · exact (ih h).imp id (List.mem_cons_of_mem y)

theorem mem_allocateRun {slot : Nat} {p : Path} {l : List Nat} {offset : Nat} {s : State} {r : PageRecord}
    (h : r ∈ (allocateRun slot p offset l s).stb.pages) : r.slot = some slot ∨ r ∈ s.stb.pages := by
  induction l generalizing offset s with
  | nil => exact .inr h
  | cons n rest ih =>
    rcases ih h with own | h
    · exact .inl own
    · exact (mem_insertPage h).imp (fun same => by rw [same]) id

theorem placeRequests_fed (s : State) : s.Fed (placeRequests s) := by
  have kept (l : List Entry) (t : State) : (l.foldl (fun u e => placeRequest e u) t).ift = t.ift := by
    induction l generalizing t with
    | nil => rfl
    | cons e rest ih => exact (ih (placeRequest e t)).trans (by simp)
  exact .of_eq (kept s.ift s)

theorem testHold_fed (p : Path) (s : State) : s.Fed (testHold p s) :=
  .of_eq

theorem testGoAfter_fed (before : State) (p : Path) (s : State) : s.Fed (testGoAfter before p s) :=
  .of_eq

theorem makeGrant_fed (g : GrantRequest) (s : State) : s.Fed (makeGrant g s) := by
  unfold makeGrant
  split
  · exact .of_eq rfl rfl
  · next e found =>
    have allocated : s.Fed (allocateRun g.slot g.path e.frontier (s.freePages.take g.length) s) := by
      refine ⟨by simpa using (State.Fed.refl s).entries, fun r hr k own => ?_⟩
      rcases mem_allocateRun hr with new | old
      · rw [new] at own
        obtain ⟨member, slot⟩ := mem_of_entry? found
        exact .inr ⟨e, member, slot.trans (Option.some.inj own)⟩
      · exact .inl ⟨r, old, own⟩
    refine allocated.trans (.trans (.onEntry (k := g.slot) fun x _ _ => .grant x (some g.length)) ?_)
    refine State.Fed.trans ?_ (testHold_fed _ _)
    exact .of_eq rfl rfl

theorem walkFrom_fed (l : List GrantRequest) (full : Both Bool) (s : State) : s.Fed (walkFrom l full s) := by
  induction l generalizing full s with
  | nil => exact .refl s
  | cons g rest ih =>
    unfold walkFrom
    split
    · exact ih full s
    · split
      · exact ih _ s
      · split
        · exact .refl s
        · exact (makeGrant_fed g s).trans (ih full _)

theorem walkGrants_fed (s : State) : s.Fed (walkGrants s) :=
  (placeRequests_fed s).trans (walkFrom_fed _ _ _)

theorem issueSegment_fed {driveSlot : Nat} {e : Entry} {run : Run} {s : State} (distinct : SlotsDistinct s)
    (he : e ∈ s.ift) (running : e.phase = .running) : s.Fed (issueSegment driveSlot e run s) := by
  have marked : s.Fed ((s.takeSlot driveSlot (.segment e.slot run.offset run.length e.op)
      (segmentDescriptor driveSlot e run s)).markPages e.slot run.offset run.length .atDrive) := by
    refine ⟨(State.Fed.refl s).entries, fun r hr k own => .inl ?_⟩
    obtain ⟨r', hr', rfl⟩ := List.mem_map.1 hr
    refine ⟨r', hr', ?_⟩
    split at own <;> exact own
  refine marked.trans (.onEntry fun x hx own => .issueInto _ _ ?_)
  have found := entry?_of_mem distinct (e := x) hx
  rw [own, entry?_of_mem distinct he] at found
  cases found
  exact running

theorem arbiterGift_fed {s t : State} (distinct : SlotsDistinct s) (h : arbiterGift s = some t) : s.Fed t := by
  unfold arbiterGift at h
  split at h
  · split at h
    · next e _ oldest =>
      split at h
      · next run issuable =>
        cases h
        have running := Entry.running_of_issuable (e := e) (by rw [issuable]; rfl)
        exact (issueSegment_fed distinct (List.mem_of_find?_eq_some oldest) running).trans (walkGrants_fed _)
      · cases h
    · cases h
  · cases h

theorem arbiterRuns_fed (n : Nat) {s : State} (distinct : SlotsDistinct s) : s.Fed (arbiterRuns n s) := by
  induction n generalizing s with
  | zero => exact .refl s
  | succ n ih =>
    unfold arbiterRuns
    split
    · next t gift =>
      have fed := arbiterGift_fed distinct gift
      exact fed.trans (ih (fed.slotsDistinct distinct))
    · exact .refl s

theorem offerReadData_fed (p : Path) (s : State) : s.Fed (offerReadData p s) :=
  .of_eq

theorem follow_fed (before : State) {s : State} (distinct : SlotsDistinct s) : s.Fed (follow before s) := by
  have granted := (testGoAfter_fed before .a s).trans <| (testGoAfter_fed before .b _).trans (walkGrants_fed _)
  exact granted.trans <| (arbiterRuns_fed _ (granted.slotsDistinct distinct)).trans <|
    (offerReadData_fed .a _).trans (offerReadData_fed .b _)

/-! ## What an entry and its removal are after `conclude` -/

theorem reportAll_slotsDistinct {s : State} (distinct : SlotsDistinct s) : SlotsDistinct (reportAll s) := by
  unfold reportAll
  generalize s.slotsWhere _ = l
  induction l generalizing s with
  | nil => exact distinct
  | cons k rest ih => exact ih ((reportSlot_table k s).slotsDistinct distinct)

/-- After the reports an event only feeds the table and loses no frame: the check for drain end leaves both alone. -/
theorem conclude_after_reports (before : State) {s : State} (distinct : SlotsDistinct s) :
    (reportAll s).Fed (conclude before s) ∧ Advances (reportAll s) (conclude before s) := by
  have checked : SlotsDistinct (checkDrainEnd (reportAll s)) := by
    simpa [SlotsDistinct] using reportAll_slotsDistinct distinct
  exact ⟨State.Fed.trans .of_eq (follow_fed before checked), Advances.trans .of_frame (follow_advances before _)⟩

/-- An entry in ENDING with segments outstanding is still there after the event, unchanged but for a grant (R126). -/
theorem conclude_entry?_outstanding (before : State) {s : State} (distinct : SlotsDistinct s) {k : Nat} {e : Entry}
    (found : s.entry? k = some e) (ending : e.phase = .ending) (free : e.blockedBy = []) (busy : e.outstanding ≠ []) :
    ∃ grant, (conclude before s).entry? k = some { e with readGrant := grant } := by
  obtain ⟨y, there, fed⟩ :=
    (conclude_after_reports before distinct).1.entry?_some (reportAll_entry?_outstanding found ending free busy)
  obtain ⟨grant, rfl⟩ := fed.waiting (by simp [ending])
  exact ⟨grant, there⟩

theorem conclude_carries_answer (before : State) {s : State} (distinct : SlotsDistinct s) {st : EndStatus} {e : Entry}
    (h : e.AnswerDue st) (found : s.entry? e.slot = some e) (up : (s.pif.get e.origin).link = .up) :
    Carries ((conclude before s).pif.get e.origin) (e.answerFrame st s.owc.epoch) :=
  ((conclude_after_reports before distinct).2.pif e.origin).carries _ (reportAll_carries h found up)

theorem dropEntry_removed {s u : State} {k : Nat} (others : ∀ x ∈ s.ift, x.slot ≠ k → u.entry? x.slot = some x) :
    EntryRemoved k s (dropEntry k u) := by
  refine ⟨entry?_dropEntry_same k u, fun y hy => ?_, fun r hr own => ?_, fun x hx other blocked only => ?_⟩
  · obtain ⟨x, _, rfl⟩ := List.mem_map.1 hy
    simp [Entry.unblock]
  · simpa [own] using (List.mem_filter.1 hr).2
  · refine ⟨x.unblock k, ?_, by simp [Entry.unblock, blocked, only]⟩
    rw [entry?_dropEntry_ne other, others x hx other, Option.map_some]

/-- What follows an event does not bring a removed entry back (R129). -/
theorem EntryRemoved.fed {s u t : State} {k : Nat} (h : EntryRemoved k s u) (fed : u.Fed t) : EntryRemoved k s t := by
  obtain ⟨gone, unblocked, freed, running⟩ := h
  refine ⟨fed.entry?_none gone, fun y hy => ?_, fun r hr own => ?_, fun x hx other blocked only => ?_⟩
  · obtain ⟨e, he, fedE⟩ := fed.mem hy
    rw [fedE.blockedBy]
    exact unblocked e he
  · rcases fed.pages r hr k own with ⟨r', hr', own'⟩ | ⟨e, he, slot⟩
    · exact freed r' hr' own'
    · simpa [slot] using List.find?_eq_none.1 gone e he
  · obtain ⟨e, there, phase⟩ := running x hx other blocked only
    obtain ⟨y, found, fedE⟩ := fed.entry?_some there
    exact ⟨y, found, fedE.phase.trans phase⟩

theorem readByte_fillOwnershipPage_below (c : Contents) (m : Memory) {a : Nat} (ha : a < pageBase Config.ownershipPage) :
    readByte (fillOwnershipPage c m) a = readByte m a := by
  have below (n : Nat) : a ≠ pageBase Config.ownershipPage + n := (Nat.lt_add_right n ha).ne
  unfold fillOwnershipPage
  dsimp only
  rw [readByte_writeByte, if_neg (below _), readByte_writeByte, if_neg (below _), readByte_fillPage,
    if_neg fun inside => Nat.not_le_of_lt ha inside.1]

/-- Outside the ownership page `conclude` leaves the memory as it is: only a drain's closing commit fills that page (R53). -/
theorem readByte_conclude (before s : State) {a : Nat} (ha : a < pageBase Config.ownershipPage) :
    readByte (conclude before s).mem a = readByte s.mem a := by
  have checked (t : State) : readByte (checkDrainEnd t).mem a = readByte t.mem a := by
    unfold checkDrainEnd
    split
    · split
      · unfold endDrain beginTransition
        split
        · simp
        · unfold beginCommit
          rw [(requestBlockOp_frame ..).2.2.2.2.2.2.1]
          exact readByte_fillOwnershipPage_below _ _ ha
      · rfl
    · rfl
  have same : (conclude before s).mem = (checkDrainEnd (reportAll s)).mem := by simp [conclude]
  rw [same, checked]
  simp

end Sys2Proof.Machine
end

section
/-! Write data that is not staged: dropped, charged to the path, or the end of its write (R126, R128, R140 to R142). -/

namespace Sys2Proof.Machine

set_option Elab.async false

/-! ## An end decided -/

/-- An entry for which an end has been decided (R126). -/
def Entry.ended (st : EndStatus) (e : Entry) : Entry :=
  { e with
    phase := .ending, endStatus := some st, blockedBy := [], returned := [], readGrant := none
    staged := if e.op = .write then e.issued else e.staged }

theorem entry?_endEntry_same {k : Nat} {s : State} {e : Entry} (st : EndStatus) (found : s.entry? k = some e) :
    (endEntry k st s).entry? k = some (e.ended st) := by
  have changed := entry?_onEntry (f := Entry.ended st) (fun _ => rfl) k k s
  rw [found, Option.map_some, if_pos (mem_of_entry? found).2] at changed
  exact changed

theorem entry?_endEntry_ne {k j : Nat} (hj : j ≠ k) (st : EndStatus) (s : State) :
    (endEntry k st s).entry? j = s.entry? j :=
  entry?_onEntry_ne (f := Entry.ended st) s (fun _ => rfl) hj

theorem endEntry_slotsDistinct {s : State} (k : Nat) (st : EndStatus) (distinct : SlotsDistinct s) :
    SlotsDistinct (endEntry k st s) :=
  (distinct.onEntry k (f := Entry.ended st) fun _ => rfl).congr rfl

theorem isFetched_endEntry {k j : Nat} (hj : j ≠ k) (st : EndStatus) (s : State) (offset : Nat) :
    (endEntry k st s).isFetched j offset = s.isFetched j offset :=
  isFetched_freeWhere s (fun r own => by simp [own, hj]) offset

theorem decideEnd_of_none {k : Nat} {s : State} {e : Entry} (st : EndStatus) (found : s.entry? k = some e)
    (none : e.endStatus = none) : decideEnd st k s = endEntry k st s := by
  unfold decideEnd
  rw [found]
  dsimp only
  rw [if_neg (by simp [none])]

/-! ## The row -/

theorem writeEntry?_some {s : State} {p : Path} {tag : Word} {e : Entry} (h : s.writeEntry? p tag = some e) :
    e ∈ s.ift ∧ e.origin = p ∧ e.op = .write := by
  have fits := List.find?_some h
  simp only [Bool.and_eq_true, beq_iff_eq] at fits
  exact ⟨List.mem_of_find?_eq_some h, fits.1.1, fits.1.2⟩

theorem takeWriteData_fenced {p : Path} {s : State} (tag offset : Word) (data : List Byte) (h : s.role p = .fenced) :
    takeWriteData p tag offset data s = s := by
  rw [takeWriteData, if_pos h]

theorem takeWriteData_none {p : Path} {s : State} {tag : Word} (offset : Word) (data : List Byte)
    (h : s.role p ≠ .fenced) (none : s.writeEntry? p tag = none) :
    takeWriteData p tag offset data s = linkError p s := by
  rw [takeWriteData, if_neg h, none]

theorem takeWriteData_idle {p : Path} {s : State} {tag : Word} {e : Entry} (offset : Word) (data : List Byte)
    (h : s.role p ≠ .fenced) (found : s.writeEntry? p tag = some e)
    (closed : e.acked = true ∨ e.phase = .ending ∨ e.cut = true) : takeWriteData p tag offset data s = s := by
  rw [takeWriteData, if_neg h, found]
  exact if_pos closed

theorem takeWriteData_live {p : Path} {s : State} {tag : Word} {e : Entry} (offset : Word) (data : List Byte)
    (h : s.role p ≠ .fenced) (found : s.writeEntry? p tag = some e)
    (acked : e.acked = false) (phase : e.phase ≠ .ending) (cut : e.cut = false) :
    takeWriteData p tag offset data s = conclude s (takeBlock e offset.toNat data s) := by
  rw [takeWriteData, if_neg h, found]
  exact if_neg (by simp [acked, phase, cut])

theorem takeBlock_badData {e : Entry} {offset : Nat} (data : List Byte) (s : State)
    (h : offset ≠ e.staged ∨ e.count ≤ offset) : takeBlock e offset data s = decideEnd .badData e.slot s := by
  rw [takeBlock, if_pos h]

theorem takeBlock_overrun {e : Entry} {offset : Nat} {s : State} (data : List Byte) (here : offset = e.staged)
    (inRange : offset < e.count) (full : s.pageAllowed e.origin = false) :
    takeBlock e offset data s = decideEnd .overrun e.slot s := by
  rw [takeBlock, if_neg (by omega), if_neg (by simp [full])]

/-! ## What the end of a write leaves -/

/-- The write's end: where segments are outstanding the entry waits for them, and otherwise it is answered, and removed
where the reply has room. -/
theorem conclude_decideEnd {before s : State} {e : Entry} (st : EndStatus) (table : TableInv s) (he : e ∈ s.ift)
    (op : e.op = .write) (acked : e.acked = false) (cut : e.cut = false)
    (undecided : e.endStatus = none) (unfenced : e.fencedOutcome = none) (reported : e.reported = false) (up : (s.pif.get e.origin).link = .up) :
    (e.outstanding ≠ [] → ∃ x, (conclude before (decideEnd st e.slot s)).entry? e.slot = some x ∧ x.phase = .ending ∧
      x.endStatus = some st ∧ x.staged = e.issued ∧ x.returned = [] ∧ x.blockedBy = [] ∧ x.committed = e.committed) ∧
    (e.outstanding = [] →
      Carries ((conclude before (decideEnd st e.slot s)).pif.get e.origin)
        (.reply e.tag st.status (BitVec.ofNat 16 e.committed) s.owc.epoch) ∧
      (ReportsMade s → (s.pif.get e.origin).hasRoom = true →
        EntryRemoved e.slot s (conclude before (decideEnd st e.slot s)))) := by
  have distinct := table.slotsDistinct
  have found := entry?_of_mem distinct he
  rw [decideEnd_of_none st found undecided]
  have distinctEnd := endEntry_slotsDistinct e.slot st distinct
  have foundEnd := entry?_endEntry_same st found
  constructor
  · intro busy
    obtain ⟨grant, there⟩ := conclude_entry?_outstanding before distinctEnd foundEnd rfl rfl busy
    exact ⟨_, there, rfl, rfl, by simp [Entry.ended, op], rfl, rfl, rfl⟩
  · intro idle
    have due : (e.ended st).AnswerDue st := ⟨op, rfl, rfl, idle, rfl, unfenced, acked, cut, reported⟩
    refine ⟨?_, fun made room => ?_⟩
    · have answered := conclude_carries_answer before distinctEnd due foundEnd (by simpa [Entry.ended] using up)
      simpa [Entry.answerFrame, Entry.ended] using answered
    · obtain ⟨u, removes, ift⟩ := reportAll_removes due foundEnd (by simpa [Entry.ended] using room) fun y hy other => by
        have there := (entry?_endEntry_ne other st s).symm.trans (entry?_of_mem distinctEnd hy)
        rw [← made y (mem_of_entry? there).1]
        exact reportDue_congr (by simp [State.role]) (isFetched_endEntry other st s)
      refine EntryRemoved.fed (u := reportAll (endEntry e.slot st s)) ?_ (conclude_after_reports before distinctEnd).1
      rw [removes]
      exact dropEntry_removed fun x hx other => (entry?_congr ift _).trans <|
        (entry?_endEntry_ne other st s).trans (entry?_of_mem distinct hx)

theorem raiseScore_of_max (amount : Nat) : raiseScore Config.scoreMax amount = Config.scoreMax :=
  Nat.min_eq_right (Nat.le_add_right _ _)

/-- A link error on a DOWN link raises no score: R27 has it at 255 there. -/
theorem linkError_hmon_of_down {p : Path} {s : State} (health : HealthInv s) (down : s.linkUp p = false) :
    (linkError p s).hmon = s.hmon := by
  obtain ⟨_, sound⟩ := health
  obtain ⟨_, _, _, _, atMax⟩ := sound p
  obtain ⟨_, score⟩ := atMax (State.linkUp_eq_false.1 down)
  rw [linkError, (raiseIn_frame _ _ _).1, applyScore_hmon, score, raiseScore_of_max]
  have kept : (s.hmon.get p).scored s.owc.policy Config.scoreMax = s.hmon.get p := by
    rw [Hmon.scored, if_pos score.symm, ← score]
  rw [kept, Both.set_get_self]

/-- Settles O25, by the rows of R140: the two that drop the frame, the link error, and the end of the write, after which the
entry waits, or is answered and removed. -/
theorem writeDataTurnedAway : Obligations.WriteDataTurnedAway := by
  unfold Obligations.WriteDataTurnedAway
  intro p tag offset data s
  dsimp only
  constructor
  · intro up
    have route := (frameCompletes_up (.writeData tag offset data) up).symm
    set idle := s.onPif p Pif.clearAssembler with hidle
    have row (t : State) (h : takeWriteData p tag offset data idle = t) :
        exec (.writeData p tag offset data) s = .next t :=
      congrArg Host.Outcome.next (route.symm.trans h)
    refine ⟨fun fenced => row _ (takeWriteData_fenced _ _ _ fenced),
      fun unfenced none => ⟨_, row _ (takeWriteData_none offset data unfenced none), linkError_taken p idle⟩,
      fun e unfenced found => ⟨fun closed => row _ (takeWriteData_idle offset data unfenced found closed),
        fun acked phase cut => ?_⟩⟩
    obtain ⟨member, origin, op⟩ := writeEntry?_some found
    have live := takeWriteData_live (s := idle) offset data unfenced found acked phase cut
    have link : (idle.pif.get e.origin).link = .up := by
      rw [origin]
      exact State.linkUp_eq_true.1 ((State.linkUp_clearAssembler p s).trans up)
    have leaves (st : EndStatus) (table : TableInv s) := conclude_decideEnd (before := idle) (s := idle) st table member
      op acked cut (up := link)
    rw [origin] at leaves
    have room : (idle.pif.get p).hasRoom = (s.pif.get p).hasRoom := by
      simp [hidle, Pif.hasRoom_clearAssembler]
    have other (st : EndStatus) : SameBlock s (conclude idle (decideEnd st e.slot idle)) ∧
        (conclude idle (decideEnd st e.slot idle)).hmon = s.hmon ∧ ∀ a, a < pageBase Config.ownershipPage →
          readByte (conclude idle (decideEnd st e.slot idle)).mem a = readByte s.mem a := by
      refine ⟨⟨by simp [hidle], by simp [hidle], by simp [hidle]⟩, by simp [hidle], fun a ha => ?_⟩
      rw [readByte_conclude _ _ ha]
      simp [hidle]
    refine ⟨fun wrong => ?_, fun here inRange full => ?_⟩
    · have taken := row _ (live.trans (congrArg _ (takeBlock_badData data idle wrong)))
      refine ⟨taken, fun table undecided unfencedEntry reported => ⟨_, taken, ?_⟩⟩
      obtain ⟨waits, answered⟩ := leaves .badData table undecided unfencedEntry reported
      exact ⟨waits, room ▸ answered, other _⟩
    · have taken := row _ (live.trans (congrArg _ (takeBlock_overrun data here inRange (by rw [origin]; exact full))))
      refine ⟨taken, fun table undecided unfencedEntry reported => ⟨_, taken, ?_⟩⟩
      obtain ⟨waits, answered⟩ := leaves .overrun table undecided unfencedEntry reported
      exact ⟨waits, room ▸ answered, other _⟩
  · intro down
    have route := frameCompletes_down (.writeData tag offset data) down
    have row (t : State) (h : takeWriteData p tag offset data s = t) :
        exec (.writeData p tag offset data) s = .next t :=
      congrArg Host.Outcome.next (route.trans h)
    exact ⟨fun fenced => row _ (takeWriteData_fenced _ _ _ fenced),
      fun unfenced none => ⟨_, row _ (takeWriteData_none offset data unfenced none), linkError_taken p s,
        fun health => linkError_hmon_of_down health down⟩,
      fun e unfenced found closed => row _ (takeWriteData_idle offset data unfenced found closed)⟩

end Sys2Proof.Machine
end

section
/-! What stands at a carrier loss: an interface at its values for a DOWN link (R6), the mark of an entry that was cut (R133),
and the role of a FENCED path (R42). -/

namespace Sys2Proof.Machine

set_option Elab.async false

/-! ## The entries that stand -/

/-- From `e` to `y` an entry of the same command keeps its cut mark and the end it holds. -/
structure Entry.Stands (e y : Entry) : Prop where
  slot : y.slot = e.slot
  origin : y.origin = e.origin
  op : y.op = e.op
  cut : e.cut = true → y.cut = true
  ended : e.endStatus.isSome = true → y.endStatus.isSome = true

theorem Entry.Stands.of_eq {e y : Entry} (slot : y.slot = e.slot := by rfl) (origin : y.origin = e.origin := by rfl)
    (op : y.op = e.op := by rfl) (cut : y.cut = e.cut := by rfl) (ended : y.endStatus = e.endStatus := by rfl) :
    e.Stands y :=
  ⟨slot, origin, op, fun h => cut.trans h, fun h => by rw [ended, h]⟩

theorem Entry.Stands.refl (e : Entry) : e.Stands e :=
  .of_eq

theorem Entry.Stands.trans {e x y : Entry} (h : e.Stands x) (k : x.Stands y) : e.Stands y :=
  ⟨k.slot.trans h.slot, k.origin.trans h.origin, k.op.trans h.op, k.cut ∘ h.cut, k.ended ∘ h.ended⟩

/-- Every entry of `t` is one of `s` that stands. -/
def StandIn (s t : State) : Prop :=
  ∀ y ∈ t.ift, ∃ e ∈ s.ift, e.Stands y

theorem StandIn.of_ift {s t : State} (h : t.ift = s.ift := by simp) : StandIn s t :=
  fun y hy => ⟨y, h ▸ hy, .refl y⟩

theorem StandIn.trans {s t u : State} (h : StandIn s t) (k : StandIn t u) : StandIn s u := fun y hy => by
  obtain ⟨x, hx, stands⟩ := k y hy
  obtain ⟨e, he, first⟩ := h x hx
  exact ⟨e, he, first.trans stands⟩

theorem StandIn.congr {s t u : State} (h : StandIn s t) (same : u.ift = t.ift) : StandIn s u :=
  h.trans (.of_ift same)

theorem standIn_onEntry {k : Nat} {f : Entry → Entry} {s : State} (hf : ∀ e : Entry, e.Stands (f e)) :
    StandIn s (s.onEntry k f) := by
  intro y hy
  obtain ⟨e, he, rfl⟩ := List.mem_map.1 hy
  refine ⟨e, he, ?_⟩
  split
  · exact hf e
  · exact .refl e

theorem standIn_dropEntry (k : Nat) (s : State) : StandIn s (dropEntry k s) := by
  intro y hy
  obtain ⟨e, he, rfl⟩ := List.mem_map.1 hy
  exact ⟨e, (List.mem_filter.1 he).1, .of_eq⟩

theorem TableReported.standIn {k : Nat} {s t : State} (h : TableReported k s t) : StandIn s t := by
  cases h with
  | kept h => exact .of_ift h
  | dropped h => exact (standIn_dropEntry k s).congr h
  | marked outcome h =>
    exact (standIn_onEntry (f := fun x => { x with reported := true, fencedOutcome := outcome x }) fun _ => .of_eq).congr h

theorem standIn_reportAll (s : State) : StandIn s (reportAll s) := by
  unfold reportAll
  generalize s.slotsWhere _ = l
  induction l generalizing s with
  | nil => exact .of_ift rfl
  | cons k rest ih => exact (reportSlot_table k s).standIn.trans (ih _)

theorem State.Fed.standIn {s t : State} (h : s.Fed t) : StandIn s t := fun y hy => by
  obtain ⟨e, he, fed⟩ := h.mem hy
  exact ⟨e, he, .of_eq fed.slot fed.origin fed.op fed.cut fed.endStatus⟩

theorem standIn_conclude (before : State) {s : State} (distinct : SlotsDistinct s) : StandIn s (conclude before s) :=
  (standIn_reportAll s).trans (conclude_after_reports before distinct).1.standIn

/-! ## The role of a FENCED path -/

theorem role_refreshRoles_fenced {p : Path} {s : State} (h : s.role p = .fenced) : (refreshRoles s).role p = .fenced := by
  have kept : roleFor s.owc p = .fenced := if_pos h
  cases p <;> exact kept

theorem role_beginTransition (purpose : Purpose) (p : Path) (s : State) :
    (beginTransition purpose s).role p = s.role p := by
  unfold beginTransition
  split
  · rfl
  · simp [State.role, beginCommit]

theorem role_checkDrainEnd_fenced {p : Path} {s : State} (h : s.role p = .fenced) :
    (checkDrainEnd s).role p = .fenced := by
  unfold checkDrainEnd
  split
  · split
    · unfold endDrain
      rw [role_beginTransition]
      exact role_refreshRoles_fenced h
    · exact h
  · exact h

/-- A FENCED path stays FENCED through `conclude`: the drain's end sets the roles afresh, and keeps this one (R42). -/
theorem role_conclude_fenced (before : State) {p : Path} {s : State} (h : s.role p = .fenced) :
    (conclude before s).role p = .fenced := by
  have checked : (conclude before s).role p = (checkDrainEnd (reportAll s)).role p := by
    simp [State.role, conclude]
  rw [checked]
  exact role_checkDrainEnd_fenced (by simpa [State.role] using h)

theorem role_fence (p : Path) (s : State) : (fence p s).role p = .fenced := by
  have answered (l : List QueuedFrame) (t : State) : (l.foldl (answerFenced p) t).owc = t.owc := by
    induction l generalizing t with
    | nil => rfl
    | cons frame rest ih => exact (ih _).trans (by simp)
  simp [State.role, fence, answered, setRole]

theorem role_beginFencedDrain (cause : DrainCause) (p : Path) (s : State) :
    (beginFencedDrain cause p s).role p = .fenced :=
  role_conclude_fenced s (role_refreshRoles_fenced (role_fence p _))

/-! ## An interface at its values for a DOWN link -/

/-- The interface stands at its values for a DOWN link (R6). -/
def Pif.Lost (f : Pif) : Prop :=
  f = { Pif.reset with sent := f.sent }

theorem Pif.Lost.link {f : Pif} (h : f.Lost) : f.link = .down := by
  rw [h]
  rfl

theorem Pif.Lost.rxq {f : Pif} (h : f.Lost) : f.rxq = [] := by
  rw [h]
  rfl

theorem Pif.Lost.emptyReceive {f : Pif} (h : f.Lost) : f.emptyReceive = f := by
  rw [h]
  rfl

theorem Pif.Lost.withdrawReadData {f : Pif} (h : f.Lost) : f.withdrawReadData = f := by
  rw [h]
  rfl

theorem Pif.Lost.enterWaiting {f : Pif} (h : f.Lost) : f.enterWaiting = f := by
  rw [h]
  rfl

theorem Pif.Lost.keepReply {f : Pif} (h : f.Lost) (slot : Nat) : f.keepReply slot = f := by
  rw [h]
  rfl

theorem Pif.Lost.sendingPage {f : Pif} (h : f.Lost) : f.sendingPage = none := by
  rw [h]
  rfl

theorem Pif.Lost.entering {f : Pif} (h : f.Lost) : f.entering = none := by
  rw [h]
  rfl

theorem pif_onPif_eq {p q : Path} {f : Pif → Pif} {s : State} (h : f (s.pif.get p) = s.pif.get p) :
    (s.onPif q f).pif.get p = s.pif.get p := by
  rw [State.onPif_pif, Both.get_set]
  split
  · subst q
    exact h
  · rfl

theorem fenceEntry_pif_lost {p : Path} (k : Nat) {s : State} (h : (s.pif.get p).Lost) :
    (fenceEntry k s).pif.get p = s.pif.get p := by
  unfold fenceEntry
  split
  · rfl
  · split
    · rw [(dropEntry_frame _ _).1]
      exact pif_onPif_eq (h.keepReply k)
    · split
      · rfl
      · dsimp only
        split <;> simp

/-- The fencing step on a path whose interface is lost: no frame is answered, withdrawn or let in (R75, R77). -/
theorem fence_of_lost {p : Path} {s : State} (h : (s.pif.get p).Lost) :
    fence p s = reportAll (forSlots fenceEntry (s.slotsWhere (fun e => e.origin == p)) (setRole p .fenced s)) := by
  have emptied : (setRole p .fenced s).onPif p Pif.emptyReceive = setRole p .fenced s :=
    State.onPif_eq_self h.emptyReceive
  have withdrawn : withdrawPathReadData p (setRole p .fenced s) = setRole p .fenced s := by
    have none : ((setRole p .fenced s).pif.get p).sendingPage = none := h.sendingPage
    unfold withdrawPathReadData
    rw [none]
    exact State.onPif_eq_self h.withdrawReadData
  have entered : enterWaiting p (setRole p .fenced s) = setRole p .fenced s := by
    have none : ((setRole p .fenced s).pif.get p).entering = none := h.entering
    unfold enterWaiting
    rw [none]
    exact State.onPif_eq_self h.enterWaiting
  unfold fence
  dsimp only
  rw [h.rxq, List.foldl_nil, emptied, withdrawn, entered]
  rfl

theorem forSlots_fenceEntry_pif_lost {p : Path} (l : List Nat) {s : State} (h : (s.pif.get p).Lost) :
    (forSlots fenceEntry l s).pif.get p = s.pif.get p := by
  induction l generalizing s with
  | nil => rfl
  | cons k rest ih =>
    have first := fenceEntry_pif_lost k h
    exact (ih (by rwa [first])).trans first

theorem Advances.pif_lost {s t : State} (h : Advances s t) {p : Path} (lost : (s.pif.get p).Lost) :
    t.pif.get p = s.pif.get p :=
  (h.pif p).down lost.link

theorem fence_pif_lost {p : Path} {s : State} (h : (s.pif.get p).Lost) : (fence p s).pif.get p = s.pif.get p := by
  have fenced : (forSlots fenceEntry (s.slotsWhere (fun e => e.origin == p)) (setRole p .fenced s)).pif.get p =
      s.pif.get p := forSlots_fenceEntry_pif_lost (s := setRole p .fenced s) _ h
  rw [fence_of_lost h, (reportAll_advances _).pif_lost (by rwa [fenced]), fenced]

theorem conclude_pif_lost {before s t : State} {p : Path} (lost : (s.pif.get p).Lost)
    (same : t.pif.get p = s.pif.get p) : (conclude before t).pif.get p = s.pif.get p :=
  ((conclude_advances before t).pif_lost (by rwa [same])).trans same

theorem beginFencedDrain_pif_lost (cause : DrainCause) {p : Path} {s : State} (h : (s.pif.get p).Lost) :
    (beginFencedDrain cause p s).pif.get p = s.pif.get p := by
  unfold beginFencedDrain
  refine conclude_pif_lost h ?_
  rw [refreshRoles_pif]
  exact fence_pif_lost (s := { s with owc := s.owc.beginDrain .fenced cause p (some p.other) }) h

/-! ## The report of an entry into LOST -/

/-- Whether the report that the path is LOST fences it (R69, R73): where it does the path is FENCED, and otherwise the table
stays as it is. -/
theorem ownerLost_fences_or_keeps (p : Path) (s : State) :
    (ownerLost p s).role p = .fenced ∨ (ownerLost p s).ift = s.ift := by
  unfold ownerLost
  split
  · split
    · exact .inl (role_beginFencedDrain .loss p s)
    · exact .inr rfl
  · exact .inr rfl

theorem ownerLost_pif_lost {p : Path} {s : State} (h : (s.pif.get p).Lost) :
    (ownerLost p s).pif.get p = s.pif.get p := by
  unfold ownerLost
  split
  · split
    · exact beginFencedDrain_pif_lost .loss h
    · rfl
  · rfl

theorem healthLost_hmon (p : Path) (s : State) : (healthLost p s).hmon = s.hmon.set p Hmon.carrierLost := by
  have set : (s.onHmon p fun _ => Hmon.carrierLost).hmon = s.hmon.set p Hmon.carrierLost := rfl
  unfold healthLost
  dsimp only
  split
  · exact set
  · rw [(reportHealth_frame _ _ _ _).1, set]

theorem reportHealth_lost {p : Path} {old : Health} (h : old ≠ .lost) (s : State) :
    reportHealth p old .lost s = raiseIn p.other .partnerLost (ownerLost p s) :=
  if_pos ⟨rfl, h⟩

theorem raiseIn_pif_other (p : Path) (flag : Flag) (s : State) : (raiseIn p.other flag s).pif.get p = s.pif.get p := by
  unfold raiseIn
  dsimp only
  split
  · rfl
  · split
    · cases p <;> rfl
    · rfl

theorem healthLost_pif_lost {p : Path} {s : State} (h : (s.pif.get p).Lost) :
    (healthLost p s).pif.get p = s.pif.get p := by
  unfold healthLost
  dsimp only
  split
  · rfl
  · next changed =>
    rw [reportHealth_lost changed, raiseIn_pif_other]
    exact ownerLost_pif_lost (s := s.onHmon p fun _ => Hmon.carrierLost) h

theorem healthLost_fences_or_keeps (p : Path) (s : State) :
    (healthLost p s).role p = .fenced ∨ (healthLost p s).ift = s.ift := by
  unfold healthLost
  dsimp only
  split
  · exact .inr rfl
  · next changed =>
    rw [reportHealth_lost changed]
    simpa [State.role] using ownerLost_fences_or_keeps p (s.onHmon p fun _ => Hmon.carrierLost)

theorem healthLost_partnerLost {p : Path} {s : State} (h : (s.hmon.get p).health ≠ .lost) :
    hasFlag ((healthLost p s).fnu.flags.get p.other) .partnerLost = true := by
  unfold healthLost
  dsimp only
  rw [if_neg h, reportHealth_lost h]
  exact raiseIn_hasFlag _ _ _

end Sys2Proof.Machine
end

section
/-! Carrier loss on a path (R6, R34, R133): the interface, the health, and the cut mark of every entry that stays. -/

namespace Sys2Proof.Machine

set_option Elab.async false

/-! ## The cut mark -/

/-- An entry that carrier loss has treated: it is cut, and a read holds an end (R133). -/
def Entry.CutOff (e : Entry) : Prop :=
  e.cut = true ∧ (e.op = .read → e.endStatus.isSome = true)

theorem Entry.Stands.cutOff {e y : Entry} (h : e.Stands y) (cut : e.CutOff) : y.CutOff :=
  ⟨h.cut cut.1, fun read => h.ended (cut.2 (h.op ▸ read))⟩

theorem standIn_endEntry (k : Nat) (st : EndStatus) (s : State) : StandIn s (endEntry k st s) :=
  standIn_onEntry (s := s) (f := Entry.ended st) fun _ => ⟨rfl, rfl, rfl, id, fun _ => rfl⟩

theorem standIn_decideEnd (k : Nat) (st : EndStatus) (s : State) : StandIn s (decideEnd st k s) := by
  unfold decideEnd
  split
  · exact .of_ift rfl
  · split
    · exact .of_ift rfl
    · exact standIn_endEntry k st s

theorem decideEnd_slotsDistinct {s : State} (k : Nat) (st : EndStatus) (distinct : SlotsDistinct s) :
    SlotsDistinct (decideEnd st k s) := by
  unfold decideEnd
  split
  · exact distinct
  · split
    · exact distinct
    · exact endEntry_slotsDistinct k st distinct

/-- After an end has been decided for a slot its entry holds one (R126). -/
theorem decideEnd_ended {s : State} {k : Nat} (st : EndStatus) {y : Entry} (found : (decideEnd st k s).entry? k = some y) :
    y.endStatus.isSome = true := by
  unfold decideEnd at found
  split at found
  · next none => rw [none] at found; cases found
  · next e there =>
    split at found
    · next decided =>
      rw [there] at found
      cases found
      exact decided
    · rw [entry?_endEntry_same st there] at found
      cases found
      rfl

/-- An entry with its cut mark set. -/
def Entry.marked (e : Entry) : Entry :=
  { e with cut := true }

theorem standIn_mark (k : Nat) (s : State) : StandIn s (s.onEntry k Entry.marked) :=
  standIn_onEntry fun _ => ⟨rfl, rfl, rfl, fun _ => rfl, id⟩

theorem cut_of_mem_mark {k : Nat} {s : State} {x : Entry} (hx : x ∈ (s.onEntry k Entry.marked).ift) (own : x.slot = k) :
    x.cut = true := by
  obtain ⟨e, _, rfl⟩ := List.mem_map.1 hx
  by_cases here : e.slot = k
  · simp [here, Entry.marked]
  · simp [here] at own

theorem entry?_mark {k : Nat} {s : State} {e : Entry} (found : s.entry? k = some e) :
    (s.onEntry k Entry.marked).entry? k = some e.marked := by
  rw [entry?_onEntry (f := Entry.marked) (fun _ => rfl), found, Option.map_some, if_pos (mem_of_entry? found).2]

/-- What carrier loss can do to the table at one slot: nothing for a slot without an entry or of a FENCED path, the removal of
an entry whose reply waited, or the mark, with an end for a read (R133). -/
inductive CutAt (k : Nat) (s t : State) : Prop where
  | absent (gone : s.entry? k = none) (h : t.ift = s.ift)
  | fenced (e : Entry) (found : s.entry? k = some e) (role : s.role e.origin = .fenced) (h : t.ift = s.ift)
  | dropped (h : t.ift = (dropEntry k s).ift)
  | marked (e : Entry) (found : s.entry? k = some e) (op : e.op ≠ .read)
      (h : t.ift = (s.onEntry k Entry.marked).ift)
  | ended (h : t.ift = (decideEnd .linkCut k (s.onEntry k Entry.marked)).ift)

theorem cutEntry_cutAt (k : Nat) (s : State) : CutAt k s (cutEntry k s) := by
  unfold cutEntry
  split
  · next gone => exact .absent gone rfl
  · next e found =>
    split
    · exact .dropped rfl
    · split
      · next role => exact .fenced e found role rfl
      · dsimp only
        split
        · exact .ended ((discardFetched_frame _ _).2.2.2.2.1.trans rfl)
        · next op =>
          split
          · exact .ended rfl
          · exact .marked e found (by simp [op]) rfl
        · next op => exact .marked e found (by simp [op]) rfl

theorem CutAt.standIn {k : Nat} {s t : State} (h : CutAt k s t) : StandIn s t := by
  cases h with
  | absent _ h => exact .of_ift h
  | fenced _ _ _ h => exact .of_ift h
  | dropped h => exact (standIn_dropEntry k s).congr h
  | marked _ _ _ h => exact (standIn_mark k s).congr h
  | ended h => exact ((standIn_mark k s).trans (standIn_decideEnd k .linkCut _)).congr h

theorem CutAt.slotsDistinct {k : Nat} {s t : State} (h : CutAt k s t) (distinct : SlotsDistinct s) : SlotsDistinct t := by
  have marked := distinct.onEntry k (f := Entry.marked) fun _ => rfl
  cases h with
  | absent _ h => exact distinct.congr h
  | fenced _ _ _ h => exact distinct.congr h
  | dropped h => exact (distinct.dropEntry k).congr h
  | marked _ _ _ h => exact marked.congr h
  | ended h => exact (decideEnd_slotsDistinct k .linkCut marked).congr h

/-- The entry that stays in the slot, of a path that is not FENCED, is cut off. -/
theorem CutAt.cutOff {k : Nat} {s t : State} (h : CutAt k s t) {y : Entry} (found : t.entry? k = some y)
    (unfenced : s.role y.origin ≠ .fenced) : y.CutOff := by
  cases h with
  | absent gone h =>
    rw [entry?_congr h, gone] at found
    cases found
  | fenced e there role h =>
    rw [entry?_congr h, there] at found
    cases found
    exact absurd role unfenced
  | dropped h =>
    rw [entry?_congr h, entry?_dropEntry_same] at found
    cases found
  | marked e there op h =>
    rw [entry?_congr h, entry?_mark there] at found
    cases found
    exact ⟨rfl, fun read => absurd read op⟩
  | ended h =>
    rw [entry?_congr h] at found
    obtain ⟨member, own⟩ := mem_of_entry? found
    obtain ⟨x, hx, stands⟩ := standIn_decideEnd k .linkCut _ y member
    exact ⟨stands.cut (cut_of_mem_mark hx (stands.slot.symm.trans own)), fun _ => decideEnd_ended .linkCut found⟩

/-- After the treatment of a list of slots every entry in one of them, of a path that is not FENCED, is cut off. -/
theorem forSlots_cutEntry_cutOff {p : Path} (l : List Nat) {s : State} (distinct : SlotsDistinct s)
    (unfenced : s.role p ≠ .fenced) :
    StandIn s (forSlots cutEntry l s) ∧ SlotsDistinct (forSlots cutEntry l s) ∧
      ∀ y ∈ (forSlots cutEntry l s).ift, y.origin = p → y.slot ∈ l → y.CutOff := by
  induction l generalizing s with
  | nil => exact ⟨.of_ift rfl, distinct, fun _ _ _ none => absurd none (by simp)⟩
  | cons k rest ih =>
    have first := cutEntry_cutAt k s
    have distinctFirst := first.slotsDistinct distinct
    obtain ⟨stand, distinctRest, cutRest⟩ := ih distinctFirst (by simpa [State.role] using unfenced)
    refine ⟨first.standIn.trans stand, distinctRest, fun y hy origin listed => ?_⟩
    rcases List.mem_cons.1 listed with own | listed
    · obtain ⟨x, hx, stands⟩ := stand y hy
      have found := entry?_of_mem distinctFirst hx
      rw [← stands.slot, own] at found
      exact stands.cutOff (first.cutOff found (by rwa [← stands.origin, origin]))
    · exact cutRest y hy origin listed

theorem cutEntries_cutOff {p : Path} {s : State} (distinct : SlotsDistinct s) (unfenced : s.role p ≠ .fenced) :
    SlotsDistinct (cutEntries p s) ∧ ∀ y ∈ (cutEntries p s).ift, y.origin = p → y.CutOff := by
  obtain ⟨stand, distinctCut, cut⟩ :=
    forSlots_cutEntry_cutOff (s.slotsWhere (fun e => e.origin == p)) distinct unfenced
  refine ⟨distinctCut, fun y hy origin => cut y hy origin ?_⟩
  obtain ⟨e, he, stands⟩ := stand y hy
  rw [stands.slot]
  exact List.mem_map_of_mem (List.mem_filter.2 ⟨he, by simp [← stands.origin, origin]⟩)

/-! ## The row -/

theorem carrierLost_up {p : Path} {s : State} (h : s.linkUp p = true) :
    carrierLost p s = conclude s (cutEntries p (healthLost p (s.onPif p Pif.carrierLost))) :=
  if_pos h

theorem carrierLost_down {p : Path} {s : State} (h : s.linkUp p = false) : carrierLost p s = s :=
  if_neg (by simp [h])

/-- Every entry that stays of a path which carrier loss leaves unfenced is cut off (R133). -/
theorem carrierLost_cutOff {before s : State} {p : Path} (distinct : SlotsDistinct s)
    (unfenced : (conclude before (cutEntries p (healthLost p s))).role p ≠ .fenced) :
    ∀ e ∈ (conclude before (cutEntries p (healthLost p s))).ift, e.origin = p → e.CutOff := by
  have live : (healthLost p s).role p ≠ .fenced := fun fenced =>
    unfenced (role_conclude_fenced before (by simpa [State.role] using fenced))
  have kept := (healthLost_fences_or_keeps p s).resolve_left live
  obtain ⟨distinctCut, cut⟩ := cutEntries_cutOff (distinct.congr kept) live
  intro y hy origin
  obtain ⟨e, he, stands⟩ := standIn_conclude before distinctCut y hy
  exact stands.cutOff (cut e he (stands.origin.symm.trans origin))

/-- Settles O20: the interface is lost and nothing later in the event offers to it, the health is that of R34, and each entry
is treated by R133 unless HMON's report has fenced the path. -/
theorem carrierLossTaken : Obligations.CarrierLossTaken := by
  unfold Obligations.CarrierLossTaken
  intro p s
  refine ⟨fun up => ?_, fun down => congrArg Host.Outcome.next (carrierLost_down down)⟩
  refine ⟨_, congrArg Host.Outcome.next (carrierLost_up up), ?_⟩
  set lost := s.onPif p Pif.carrierLost with hlost
  have interface : lost.pif.get p = { Pif.reset with sent := (s.pif.get p).sent } := by simp [hlost, Pif.carrierLost]
  have isLost : (lost.pif.get p).Lost := by
    rw [interface]
    rfl
  have hmon : (conclude s (cutEntries p (healthLost p lost))).hmon = s.hmon.set p Hmon.carrierLost := by
    simp [healthLost_hmon, hlost]
  refine ⟨?_, ?_, ?_, fun notLost => ?_, fun table _ unfenced => ?_, ⟨?_, ?_, ?_⟩, ?_⟩
  · refine (conclude_pif_lost isLost ?_).trans interface
    rw [(cutEntries_frame _ _).1]
    exact healthLost_pif_lost isLost
  · rw [hmon, Both.get_set_same]
    rfl
  · rw [hmon, Both.get_set_other]
  · refine (conclude_advances s _).flags p.other .partnerLost ?_
    rw [(cutEntries_frame _ _).2.2.2.2.2.2.1]
    exact healthLost_partnerLost (s := lost) notLost
  · exact carrierLost_cutOff (table.slotsDistinct.congr (t := lost) rfl) unfenced
  all_goals simp [hlost]

end Sys2Proof.Machine
end

section
/-! The evaluation of health, the relations of R27 at reset, and the pulse window (R25, R26, R27, R28, R30). -/

namespace Sys2Proof.Machine

set_option Elab.async false

/-! ## Ordered thresholds (R26, R52) -/

theorem thresholdsOrdered_iff (r : PolicyRecord) :
    thresholdsOrdered r = true ↔ r.doubtLo.toNat < r.doubtHi.toNat ∧ r.doubtHi.toNat < r.lostAt.toNat := by
  simp [thresholdsOrdered]

/-- Settles O14: the branches of `evaluate`, of which ordered thresholds leave one for each range of the score. -/
theorem healthEvaluationTable : Obligations.HealthEvaluationTable := by
  refine ⟨fun r score ordered => ?_,
    fun score amount => ⟨Nat.min_eq_left, fun above => Nat.min_eq_right above.le⟩⟩
  obtain ⟨lowHigh, highLost⟩ := (thresholdsOrdered_iff r).1 ordered
  refine ⟨fun lost => if_pos lost, fun doubt below => ?_, fun below => ?_, fun lost => if_pos lost, fun clear => ?_,
    fun above below => ?_, fun clear => if_pos clear, fun above => if_neg above.not_ge⟩
  · exact (if_neg below.not_ge).trans (if_pos doubt)
  · exact (if_neg (below.trans highLost).not_ge).trans (if_neg below.not_ge)
  · exact (if_neg (by omega)).trans (if_pos clear)
  · exact (if_neg below.not_ge).trans (if_neg above.not_ge)

/-! ## What an evaluation says of the score -/

theorem score_of_evaluate_healthy {r : PolicyRecord} {before : Health} {score : Nat} (ordered : thresholdsOrdered r = true)
    (h : evaluate r before score = .healthy) : score < r.doubtHi.toNat := by
  obtain ⟨lowHigh, _⟩ := (thresholdsOrdered_iff r).1 ordered
  cases before <;> simp only [evaluate] at h <;> split_ifs at h <;> omega

theorem score_of_evaluate_doubtful {r : PolicyRecord} {before : Health} {score : Nat}
    (ordered : thresholdsOrdered r = true) (h : evaluate r before score = .doubtful) :
    r.doubtLo.toNat < score ∧ score < r.lostAt.toNat := by
  obtain ⟨lowHigh, _⟩ := (thresholdsOrdered_iff r).1 ordered
  cases before <;> simp only [evaluate] at h <;> split_ifs at h <;> omega

theorem score_of_evaluate_lost {r : PolicyRecord} {before : Health} {score : Nat} (ordered : thresholdsOrdered r = true)
    (h : evaluate r before score = .lost) : r.doubtLo.toNat < score := by
  obtain ⟨lowHigh, highLost⟩ := (thresholdsOrdered_iff r).1 ordered
  cases before <;> simp only [evaluate] at h <;> split_ifs at h <;> omega

/-- No threshold above doubt_lo is passed at 255, so that a LOST path with the greatest score stays LOST. -/
theorem evaluate_lost_of_max {r : PolicyRecord} (ordered : thresholdsOrdered r = true) :
    evaluate r .lost Config.scoreMax = .lost := by
  obtain ⟨lowHigh, highLost⟩ := (thresholdsOrdered_iff r).1 ordered
  have lostAt : r.lostAt.toNat < 2 ^ 8 := r.lostAt.isLt
  exact if_neg (by simp only [Config.scoreMax]; omega)

/-! ## The relations of R27 for one path -/

/-- A path's health state evaluated under a policy (R26). -/
def Hmon.judged (r : PolicyRecord) (h : Hmon) : Hmon :=
  { h with health := evaluate r h.health h.score }

/-- An evaluation brings the relations of R27 about, whatever the health was under the thresholds before. -/
theorem HealthSound.judged {r : PolicyRecord} {link : Link} {h : Hmon} (ordered : thresholdsOrdered r = true)
    (range : h.score ≤ Config.scoreMax) (down : link = .down → h.health = .lost ∧ h.score = Config.scoreMax) :
    HealthSound r link (h.judged r) := by
  refine ⟨range, score_of_evaluate_healthy ordered, score_of_evaluate_doubtful ordered, score_of_evaluate_lost ordered,
    fun isDown => ?_⟩
  obtain ⟨health, score⟩ := down isDown
  refine ⟨?_, score⟩
  rw [Hmon.judged, health, score]
  exact evaluate_lost_of_max ordered

/-- A new score keeps the relations of R27, where on a DOWN link it is 255. -/
theorem HealthSound.scored {r : PolicyRecord} {link : Link} {h : Hmon} {score : Nat}
    (ordered : thresholdsOrdered r = true) (sound : HealthSound r link h) (range : score ≤ Config.scoreMax)
    (down : link = .down → score = Config.scoreMax) : HealthSound r link (h.scored r score) := by
  by_cases same : score = h.score
  · rw [Hmon.scored, if_pos same, same]
    exact sound
  · rw [Hmon.scored, if_neg same]
    obtain ⟨_, _, _, _, atDown⟩ := sound
    exact HealthSound.judged (h := { h with score := score }) ordered range
      fun isDown => ⟨(atDown isDown).1, down isDown⟩

/-- LOST with score 255 meets the relations on any link. -/
theorem HealthSound.of_max {r : PolicyRecord} {link : Link} {h : Hmon} (ordered : thresholdsOrdered r = true)
    (lost : h.health = .lost) (score : h.score = Config.scoreMax) : HealthSound r link h := by
  have kept : h.judged r = h := by
    rw [Hmon.judged, lost, score, evaluate_lost_of_max ordered, ← lost, ← score]
  rw [← kept]
  exact .judged ordered score.le fun _ => ⟨lost, score⟩

/-! ## Reset (R38, R67) -/

theorem healthInv_of_reset {s : State} (owc : s.owc = Owc.reset) (hmon : ∀ p, s.hmon.get p = Hmon.reset) :
    HealthInv s := by
  have ordered : thresholdsOrdered Owc.reset.policy = true := by decide
  refine ⟨?_, fun p => ?_⟩
  · rw [PolicyOrdered, owc]
    exact ⟨ordered, nofun⟩
  · rw [owc, hmon p]
    exact .of_max ordered rfl rfl

theorem healthInv_reset : HealthInv State.reset :=
  healthInv_of_reset rfl fun p => by cases p <;> rfl

theorem ownershipInv_reset : OwnershipInv State.reset := by
  refine ⟨by decide, nofun, fun p => ?_, nofun, nofun, nofun⟩
  cases p <;> decide

theorem driveInv_reset : DriveInv State.reset :=
  ⟨nofun, fun _ => ⟨8000, rfl⟩, fun _ other => absurd rfl other, by decide⟩

theorem tableInv_reset : TableInv State.reset :=
  ⟨.nil, .nil, List.forall_mem_nil _, Nat.zero_le (Config.sequenceMax + 1)⟩

/-- Settles O3: no entry, page or frame stands in the part, and its record is that of LOADING. -/
theorem resetStateSound : Obligations.ResetStateSound := by
  have queues : QueuesInv State.reset := fun p => by cases p <;> exact .of_empty rfl rfl rfl
  have records : RecordsInv State.reset :=
    (recordsInv_iff _).2 ⟨.reset, Nat.zero_le _, fun _ => (by decide : 0 < Config.attemptMax)⟩
  exact ⟨rfl, healthInv_reset, ownershipInv_reset, ⟨.nil, List.forall_mem_nil _⟩, queues, records, driveInv_reset,
    tableInv_reset, tableInv_reset, List.forall_mem_nil _, List.forall_mem_nil _⟩

/-! ## The pulse window (R28, R30) -/

theorem holdsFetched_iff (s : State) (p : Path) :
    s.holdsFetched p = true ↔ ∃ r ∈ s.stb.pages, r.path = p ∧ r.state = .fetched := by
  simp [State.holdsFetched]

theorem windowExpires_of_running {p : Path} {s : State} (h : (s.hmon.get p).window.isSome = true) :
    windowExpires p s = nextWindow p (applyScore p (windowScore p s) s) :=
  if_pos h

theorem windowExpires_of_stopped {p : Path} {s : State} (h : (s.hmon.get p).window = none) : windowExpires p s = s :=
  if_neg (by simp [h])

/-- HMON after the expiry of a window: the score of the window just over, evaluated, and the next window begun. -/
theorem windowExpires_hmon {p : Path} {s : State} (h : (s.hmon.get p).window.isSome = true) :
    (windowExpires p s).hmon = s.hmon.set p
      { (s.hmon.get p).scored s.owc.policy (windowScore p s) with
        window := some s.owc.policy.pulsePeriodMs.toNat, pulseCounted := false
        heldThroughout := (s.pif.get p).serverHold } := by
  rw [windowExpires_of_running h, nextWindow, State.onHmon_hmon, applyScore_hmon, Both.get_set_same, Both.set_set]
  simp

/-- Where the evaluation leaves the health as it was, an expiry touches HMON alone. -/
theorem windowExpires_of_same_health {p : Path} {s : State} (h : (s.hmon.get p).window.isSome = true)
    (same : windowScore p s = (s.hmon.get p).score ∨
      evaluate s.owc.policy (s.hmon.get p).health (windowScore p s) = (s.hmon.get p).health) :
    ∃ hmon, windowExpires p s = { s with hmon := hmon } := by
  have scored : ∃ hmon, applyScore p (windowScore p s) s = { s with hmon := hmon } := by
    rcases same with score | health
    · exact ⟨s.hmon, if_pos score⟩
    · exact ⟨_, applyScore_of_same_health health⟩
  obtain ⟨hmon, scored⟩ := scored
  rw [windowExpires_of_running h, scored]
  exact ⟨_, rfl⟩

/-- Settles O42: the score of the statement is `windowScore`, and the row is `windowExpires`. -/
theorem pulseWindowWorked : Obligations.PulseWindowWorked := by
  intro p s h missed score
  have charged : windowScore p s = score := by
    simp only [windowScore, Bool.and_eq_true, holdsFetched_iff]
    rfl
  refine ⟨fun running => ⟨windowExpires p s, rfl, ?_, fun same => ?_, ?_⟩,
    fun stopped => congrArg Host.Outcome.next (windowExpires_of_stopped stopped)⟩
  · rw [windowExpires_hmon running, charged]
    rfl
  · obtain ⟨hmon, only⟩ := windowExpires_of_same_health running (charged.symm ▸ same)
    rw [only]
    exact ⟨rfl, rfl, rfl, rfl, rfl, rfl, rfl⟩
  · rw [windowExpires_of_running running]
    simp [SameBlock]

end Sys2Proof.Machine
end

section
/-! The relations of R27: what each operation of the model keeps of them, and what a policy's take-effect brings about
(R25, R26, R34, R35, R37, R65). -/

namespace Sys2Proof.Machine

set_option Elab.async false

/-! ## What the relations say -/

theorem HealthInv.ordered {s : State} (inv : HealthInv s) : thresholdsOrdered s.owc.policy = true := by
  obtain ⟨⟨ordered, _⟩, _⟩ := inv
  exact ordered

theorem HealthInv.pending_ordered {s : State} (inv : HealthInv s) {r : PolicyRecord}
    (h : s.owc.pendingPolicy = some r) : thresholdsOrdered r = true := by
  obtain ⟨⟨_, pending⟩, _⟩ := inv
  exact pending r h

theorem HealthInv.sound {s : State} (inv : HealthInv s) (p : Path) :
    HealthSound s.owc.policy (s.pif.get p).link (s.hmon.get p) := by
  obtain ⟨_, sound⟩ := inv
  exact sound p

theorem HealthInv.score_le {s : State} (inv : HealthInv s) (p : Path) : (s.hmon.get p).score ≤ Config.scoreMax := by
  obtain ⟨range, _⟩ := inv.sound p
  exact range

theorem HealthInv.of_down {s : State} (inv : HealthInv s) {p : Path} (h : (s.pif.get p).link = .down) :
    (s.hmon.get p).health = .lost ∧ (s.hmon.get p).score = Config.scoreMax := by
  obtain ⟨_, _, _, _, atDown⟩ := inv.sound p
  exact atDown h

/-! ## Keeping the relations -/

/-- Going from `s` to `t` keeps the relations of R27. -/
def KeepsHealth (s t : State) : Prop :=
  HealthInv s → HealthInv t

theorem KeepsHealth.refl (s : State) : KeepsHealth s s :=
  id

theorem KeepsHealth.trans {s t u : State} (h : KeepsHealth s t) (k : KeepsHealth t u) : KeepsHealth s u :=
  fun inv => k (h inv)

/-- The relations see the health, the policy in force, the links, and the policy being committed, which may be
dropped. -/
theorem KeepsHealth.of_frame {s t : State} (hhmon : t.hmon = s.hmon := by simp)
    (hpolicy : t.owc.policy = s.owc.policy := by simp)
    (hpending : t.owc.pendingPolicy = s.owc.pendingPolicy ∨ t.owc.pendingPolicy = none := by simp)
    (hlink : ∀ p, (t.pif.get p).link = (s.pif.get p).link := by simp) : KeepsHealth s t := by
  rintro ⟨⟨ordered, pending⟩, sound⟩
  refine ⟨⟨hpolicy ▸ ordered, fun r h => ?_⟩, fun p => ?_⟩
  · rcases hpending with same | dropped
    · exact pending r (same ▸ h)
    · rw [dropped] at h
      cases h
  · rw [hhmon, hpolicy, hlink]
    exact sound p

/-- A change of one path's health, or of its link, that is sound for that path. -/
theorem HealthInv.onPath {s t : State} {p : Path} {h : Hmon} (inv : HealthInv s) (hhmon : t.hmon = s.hmon.set p h)
    (hsound : HealthSound s.owc.policy (t.pif.get p).link h) (hpolicy : t.owc.policy = s.owc.policy := by simp)
    (hpending : t.owc.pendingPolicy = s.owc.pendingPolicy := by simp)
    (hlink : ∀ q, q ≠ p → (t.pif.get q).link = (s.pif.get q).link := by simp) : HealthInv t := by
  obtain ⟨⟨ordered, pending⟩, sound⟩ := inv
  refine ⟨⟨hpolicy ▸ ordered, hpending ▸ pending⟩, fun q => ?_⟩
  rw [hhmon, hpolicy, Both.get_set]
  split
  · next same => exact same ▸ hsound
  · next other =>
    rw [hlink q other]
    exact sound q

/-- A change of HMON's fields other than score and health. -/
theorem onHmon_health (p : Path) {f : Hmon → Hmon} (s : State)
    (hscore : ∀ h, (f h).score = h.score := by intro; rfl) (hhealth : ∀ h, (f h).health = h.health := by intro; rfl) :
    KeepsHealth s (s.onHmon p f) := by
  refine fun inv => inv.onPath (State.onHmon_hmon p f s) ?_
  unfold HealthSound
  rw [hscore, hhealth]
  exact inv.sound p

/-- A change of one path interface other than its link. -/
theorem onPif_health (p : Path) {f : Pif → Pif} (s : State) (hlink : ∀ x, (f x).link = x.link := by intro; simp) :
    KeepsHealth s (s.onPif p f) := by
  refine .of_frame rfl rfl (.inl rfl) fun q => ?_
  rw [State.onPif_pif, Both.get_set]
  split
  · next same => rw [hlink, same]
  · rfl

/-- A change of OWC's record that leaves the policies as they are, or drops the one being committed. -/
theorem owc_health {s : State} (o : Owc) (policy : o.policy = s.owc.policy := by rfl)
    (pending : o.pendingPolicy = s.owc.pendingPolicy ∨ o.pendingPolicy = none := by exact .inr rfl) :
    KeepsHealth s (refreshRoles { s with owc := o }) :=
  .of_frame rfl policy pending fun _ => rfl

theorem refreshRoles_health (s : State) : KeepsHealth s (refreshRoles s) :=
  owc_health s.owc rfl (.inl rfl)

theorem addHistory_health (r : HistoryRecord) (s : State) : KeepsHealth s (addHistory r s) :=
  .of_frame rfl rfl (.inl rfl) fun _ => rfl

theorem raiseIn_health (p : Path) (flag : Flag) (s : State) : KeepsHealth s (raiseIn p flag s) :=
  .of_frame

theorem raiseBoth_health (flag : Flag) (s : State) : KeepsHealth s (raiseBoth flag s) :=
  .of_frame

theorem sendNotices_health (s : State) : KeepsHealth s (sendNotices s) :=
  .of_frame

theorem reportIfOwnerLost_health (s : State) : KeepsHealth s (reportIfOwnerLost s) :=
  .of_frame

theorem conclude_health (before s : State) : KeepsHealth s (conclude before s) :=
  .of_frame

/-! ## Scores -/

/-- A new score keeps the relations, where on a DOWN link it leaves 255 as it is. -/
theorem applyScore_health {p : Path} {score : Nat} {s : State} (range : score ≤ Config.scoreMax)
    (atMax : (s.pif.get p).link = .down → (s.hmon.get p).score = Config.scoreMax → score = Config.scoreMax) :
    KeepsHealth s (applyScore p score s) := by
  intro inv
  refine inv.onPath (applyScore_hmon p score s) ?_
  rw [show ((applyScore p score s).pif.get p).link = (s.pif.get p).link by simp]
  exact (inv.sound p).scored inv.ordered range fun isDown => atMax isDown (inv.of_down isDown).2

theorem raiseScore_le (score amount : Nat) : raiseScore score amount ≤ Config.scoreMax :=
  Nat.min_le_right _ _

theorem linkError_health (p : Path) (s : State) : KeepsHealth s (linkError p s) := by
  refine .trans (applyScore_health (raiseScore_le _ _) fun _ score => ?_) (raiseIn_health p .linkError _)
  rw [score, raiseScore_of_max]

theorem windowScore_le {p : Path} {s : State} (range : (s.hmon.get p).score ≤ Config.scoreMax) :
    windowScore p s ≤ Config.scoreMax := by
  unfold windowScore
  dsimp only
  split_ifs
  · exact raiseScore_le _ _
  · exact raiseScore_le _ _
  · exact range
  · exact raiseScore_le _ _

theorem windowScore_of_max {p : Path} {s : State} (score : (s.hmon.get p).score = Config.scoreMax) :
    windowScore p s = Config.scoreMax := by
  simp [windowScore, score, raiseScore_of_max]

theorem windowExpires_health (p : Path) (s : State) : KeepsHealth s (windowExpires p s) := by
  unfold windowExpires
  split
  · intro inv
    have scored : KeepsHealth s (applyScore p (windowScore p s) s) :=
      applyScore_health (windowScore_le (inv.score_le p)) fun _ => windowScore_of_max
    exact scored.trans (onHmon_health p _) inv
  · exact .refl s

/-- A pulse lowers a score, and is taken on an UP link alone (R6, R29). -/
theorem takePulse_health {p : Path} {s : State} (up : s.linkUp p = true) : KeepsHealth s (takePulse p s) := by
  unfold takePulse
  dsimp only
  split
  · exact .refl s
  · intro inv
    have range := (Nat.sub_le _ s.owc.policy.pulseCredit.toNat).trans (inv.score_le p)
    refine KeepsHealth.trans (onHmon_health p s) (applyScore_health range fun isDown => ?_) inv
    rw [State.onHmon_pif, State.linkUp_eq_true.1 up] at isDown
    cases isDown

/-! ## Policies (R37, R61, R65) -/

theorem thresholdsOrdered_of_accepted {capacity : Nat} {record r : PolicyRecord}
    (h : acceptPolicy capacity record = some r) : thresholdsOrdered r = true := by
  unfold acceptPolicy at h
  split at h
  · next valid =>
    cases h
    simp only [validPolicy, Bool.and_eq_true] at valid
    obtain ⟨⟨ordered, _⟩, _⟩ := valid
    exact ordered
  · cases h

theorem thresholdsOrdered_loadedPolicy (capacity : Nat) (record : PolicyRecord) :
    thresholdsOrdered (loadedPolicy capacity record) = true := by
  unfold loadedPolicy
  split
  · next accepted => exact thresholdsOrdered_of_accepted accepted
  · decide

theorem takeEffect_policy (r : PolicyRecord) (s : State) : (takeEffect r s).owc.policy = r := by
  simp [takeEffect, refreshRoles]

theorem reevaluateBoth_hmon (s : State) (p : Path) :
    (reevaluateBoth s).hmon.get p = (s.hmon.get p).judged s.owc.policy := by
  simp only [reevaluateBoth, reportChange_frame]
  cases p <;> rfl

theorem takeEffect_hmon (r : PolicyRecord) (s : State) (p : Path) :
    (takeEffect r s).hmon.get p = (s.hmon.get p).judged r := by
  simp only [takeEffect, follow_frame, testThresholds_frame, reevaluateBoth_hmon]
  rfl

/-- A policy with ordered thresholds is put into force: both paths' health is evaluated under it. -/
theorem takeEffect_health {r : PolicyRecord} (ordered : thresholdsOrdered r = true) (s : State) :
    KeepsHealth s (takeEffect r s) := by
  intro inv
  refine ⟨⟨?_, fun q h => inv.pending_ordered (by simpa using h)⟩, fun p => ?_⟩
  · rwa [takeEffect_policy]
  · rw [takeEffect_policy, takeEffect_hmon, show ((takeEffect r s).pif.get p).link = (s.pif.get p).link by simp]
    exact .judged ordered (inv.score_le p) inv.of_down

/-! ## OWC's record, FROZEN and the load -/

theorem enterFrozen_health (cause : FrozenCause) (s : State) : KeepsHealth s (enterFrozen cause s) := by
  unfold enterFrozen
  split
  · exact .of_frame
  · exact (owc_health (s.owc.freeze cause)).trans .of_frame

theorem enterLoading_health (s : State) : KeepsHealth s (enterLoading s) :=
  owc_health s.owc.startLoading

theorem driveReady_health (s : State) : KeepsHealth s (driveReady s) := by
  unfold driveReady
  split
  · exact .of_frame
  · split
    · exact (enterLoading_health s).trans .of_frame
    · exact .of_frame

theorem loadBad_health (s : State) : KeepsHealth s (loadBad s) := by
  have frozen (t : State) : KeepsHealth t (refreshRoles { t with owc := t.owc.freeze .blockBad }) := owc_health _
  intro inv
  exact (takeEffect_health inv.ordered s).trans ((frozen _).trans <| (addHistory_health _ _).trans <|
    (raiseBoth_health _ _).trans <| (raiseBoth_health _ _).trans (sendNotices_health _)) inv

theorem loadGood_health (owner : Option Path) (epoch : Word) (count : CommitCount) {r : PolicyRecord}
    (ordered : thresholdsOrdered r = true) (s : State) : KeepsHealth s (loadGood owner epoch count r s) := by
  have loaded (t : State) : KeepsHealth t (refreshRoles { t with owc := t.owc.loaded owner epoch count }) :=
    owc_health _ rfl (.inl rfl)
  unfold loadGood
  exact (takeEffect_health ordered s).trans <| (loaded _).trans <| (addHistory_health _ _).trans <|
    (sendNotices_health _).trans (reportIfOwnerLost_health _)

theorem completeLoad_health (s : State) : KeepsHealth s (completeLoad s) := by
  unfold completeLoad
  split
  · exact loadGood_health _ _ _ (by decide) s
  · exact loadGood_health _ _ _ (thresholdsOrdered_loadedPolicy _ _) s
  · exact loadBad_health s

theorem attemptFailed_health (op : BlockOp) (s : State) : KeepsHealth s (attemptFailed op s) := by
  unfold attemptFailed
  split
  · exact .of_frame
  · split
    · exact loadBad_health s
    · exact enterFrozen_health _ s

/-! ## The success of a commit (R54) -/

theorem policyStep_health (purpose : Purpose) (s : State) : KeepsHealth s (policyStep purpose s) := by
  unfold policyStep
  split
  · split
    · next r pending =>
      intro inv
      have taken : HealthInv { s with owc := { s.owc with pendingPolicy := none } } :=
        KeepsHealth.of_frame (s := s) rfl rfl (.inr rfl) (fun _ => rfl) inv
      exact takeEffect_health (inv.pending_ordered pending) _ taken
    · exact .refl s
  · exact .refl s

theorem commitSuccess_health (purpose : Purpose) (c : Contents) (s : State) :
    KeepsHealth s (commitSuccess purpose c s) := by
  have recorded : KeepsHealth s (refreshRoles { s with owc := s.owc.succeed purpose c }) :=
    owc_health _ (by simp) (.inl (by simp))
  have put := recorded.trans (policyStep_health purpose _)
  unfold commitSuccess
  dsimp only
  split
  · exact put.trans .of_frame
  · exact put.trans .of_frame

theorem operationSucceeded_health (op : BlockOp) (s : State) : KeepsHealth s (operationSucceeded op s) := by
  unfold operationSucceeded
  split
  · split
    · exact completeLoad_health s
    · exact .refl s
  · split
    · exact commitSuccess_health _ _ s
    · exact .refl s

theorem operationFailed_health (op : BlockOp) (s : State) : KeepsHealth s (operationFailed op s) := by
  unfold operationFailed
  split <;> split
  · exact attemptFailed_health _ s
  · exact .refl s
  · exact attemptFailed_health _ s
  · exact .refl s

/-! ## The drive -/

theorem beginReset_health (s : State) : KeepsHealth s (beginReset s) := by
  have aborted : KeepsHealth s (conclude s (forSlots abortEntry
      (({ s with dpt := s.dpt.startReset } : State).slotsWhere (fun _ => true)) { s with dpt := s.dpt.startReset })) :=
    .of_frame
  refine aborted.trans <| .trans ?_ (raiseBoth_health _ _)
  split
  · exact operationFailed_health _ _
  · exact .refl _

theorem requestReset_health (s : State) : KeepsHealth s (requestReset s) := by
  unfold requestReset
  split
  · exact beginReset_health s
  · exact .refl s

theorem giveUp_health (state : DriveState) (cause : DriveCause) (s : State) : KeepsHealth s (giveUp state cause s) := by
  have given : KeepsHealth s { s with dpt := s.dpt.giveUp state cause } := .of_frame
  unfold giveUp
  exact given.trans <| (enterFrozen_health .drive _).trans .of_frame

theorem judgeIdentify_health (i : Identity) (s : State) : KeepsHealth s (judgeIdentify i s) := by
  unfold judgeIdentify
  split
  · exact giveUp_health _ _ s
  · split
    · exact giveUp_health _ _ s
    · have ready : KeepsHealth s { s with dpt := s.dpt.enterReady i } := .of_frame
      unfold enterReady
      exact ready.trans <| (driveReady_health _).trans .of_frame

theorem identifyFailed_health {again : State → State} (h : ∀ t, KeepsHealth t (again t)) (s : State) :
    KeepsHealth s (identifyFailed again s) := by
  have counted : KeepsHealth s (countIdentifyFailure s) := .of_frame
  unfold identifyFailed
  dsimp only
  split
  · exact counted.trans (h _)
  · exact counted.trans (giveUp_health _ _ _)

theorem identifyRejected_health (status : DriveStatus) (s : State) : KeepsHealth s (identifyRejected status s) := by
  have again : KeepsHealth s (identifyFailed startIdentify s) := identifyFailed_health (fun _ => .of_frame) s
  cases status with
  | good => exact .refl s
  | partialDone => exact again
  | media => exact again
  | other => exact giveUp_health _ _ s

theorem identifyExpired_health (s : State) : KeepsHealth s (identifyExpired s) := by
  unfold identifyExpired
  split
  · exact identifyFailed_health beginReset_health s
  · exact .refl s

theorem acceptOperation_health (slot : Nat) (op : BlockOp) (status : DriveStatus) (done : Nat) (block : List Byte)
    (s : State) : KeepsHealth s (acceptOperation slot op status done block s) := by
  have freed : KeepsHealth s (raiseMedia status (s.freeSlot slot)) := .of_frame
  unfold acceptOperation
  dsimp only
  split
  · refine freed.trans <| .trans ?_ (operationSucceeded_health op _)
    split
    · exact .of_frame
    · exact .refl _
  · exact freed.trans (operationFailed_health op _)

theorem takeReadyRecord_health (slot : Nat) (status : DriveStatus) (done : Nat) (blocks : List (List Byte)) (s : State) :
    KeepsHealth s (takeReadyRecord slot status done blocks s) := by
  have violation : KeepsHealth s (giveUp .halted .violation s) := giveUp_health _ _ s
  unfold takeReadyRecord
  split
  · exact violation
  · split
    · split
      · exact .of_frame
      · exact acceptOperation_health _ _ _ _ _ s
      · exact violation
    · exact violation

theorem takeRecord_health (slot : Nat) (status : DriveStatus) (done : Nat) (blocks : List (List Byte)) (s : State) :
    KeepsHealth s (takeRecord slot status done blocks s) := by
  unfold takeRecord
  split
  case h_1 => exact takeReadyRecord_health _ _ _ _ s
  case h_2 =>
    split
    · exact identifyRejected_health _ s
    · exact .refl s
  all_goals exact .refl s

theorem takeReservedRecord_health (status : DriveStatus) (done : Nat) (block : List Byte) (s : State) :
    KeepsHealth s (takeReservedRecord status done block s) := by
  unfold takeReservedRecord
  split
  · exact .refl s
  · exact takeRecord_health _ _ _ _ s

theorem takeIdentifyRecord_health (status : DriveStatus) (done : Nat) (i : Identity) (s : State) :
    KeepsHealth s (takeIdentifyRecord status done i s) := by
  have freed : KeepsHealth s (s.freeSlot 0) := .of_frame
  unfold takeIdentifyRecord
  split
  · exact freed.trans (judgeIdentify_health i _)
  · exact takeRecord_health _ _ _ _ s

theorem slotExpired_health (slot : Nat) (s : State) : KeepsHealth s (slotExpired slot s) := by
  unfold slotExpired
  split
  case h_1 =>
    split
    · exact beginReset_health s
    · exact .refl s
  case h_2 =>
    split
    · exact identifyExpired_health s
    · exact .refl s
  all_goals exact .refl s

theorem resetExpired_health (s : State) : KeepsHealth s (resetExpired s) := by
  unfold resetExpired
  split
  · exact giveUp_health _ _ s
  · exact .refl s

theorem presentFalls_health (s : State) : KeepsHealth s (presentFalls s) := by
  unfold presentFalls
  dsimp only
  split
  · exact .of_frame
  · exact KeepsHealth.trans .of_frame (giveUp_health _ _ _)

end Sys2Proof.Machine
end

section
/-! The relations of R27: the events of the links, the resets and the heads taken keep them, and so does every step. -/

namespace Sys2Proof.Machine

set_option Elab.async false

/-! ## Inbound frames -/

theorem takeWriteData_health (p : Path) (tag offset : Word) (data : List Byte) (s : State) :
    KeepsHealth s (takeWriteData p tag offset data s) := by
  unfold takeWriteData
  split
  · exact .refl s
  · split
    · exact linkError_health p s
    · split
      · exact .refl s
      · exact .of_frame

theorem takeGo_health (p : Path) (s : State) : KeepsHealth s (takeGo p s) := by
  unfold takeGo
  split
  · exact (onPif_health p s).trans (onHmon_health p _)
  · exact .refl s

theorem routeFrame_health {p : Path} (frame : InFrame) {s : State} (up : s.linkUp p = true) :
    KeepsHealth s (routeFrame p frame s) := by
  cases frame with
  | pulse epoch sequence => exact (takePulse_health up).trans (onPif_health p _)
  | writeData tag offset data => exact takeWriteData_health p tag offset data s
  | hold => exact onPif_health p s
  | go => exact takeGo_health p s
  | queued q => exact (.of_frame : KeepsHealth s (arrive p q s))

/-- A frame routed as the assembler returns to IDLE. -/
theorem routeCleared_health {p : Path} (frame : InFrame) {s : State} (up : s.linkUp p = true) :
    KeepsHealth s (routeFrame p frame (s.onPif p Pif.clearAssembler)) :=
  KeepsHealth.trans .of_frame (routeFrame_health frame (by rwa [State.linkUp_clearAssembler]))

theorem frameCompletes_health (p : Path) (frame : InFrame) (s : State) : KeepsHealth s (frameCompletes p frame s) := by
  unfold frameCompletes
  split
  · next up => exact routeCleared_health frame up
  · cases frame with
    | writeData tag offset data => exact takeWriteData_health p tag offset data s
    | pulse _ _ | hold | go | queued _ => exact .refl s

theorem discardFrame_health (p : Path) (s : State) : KeepsHealth s (discardFrame p s) :=
  KeepsHealth.trans .of_frame (linkError_health p _)

theorem completeFrame_health {p : Path} (kind : Byte) (length : Nat) (bytes : List Byte) (sum : Word) {s : State}
    (up : s.linkUp p = true) : KeepsHealth s (completeFrame p kind length bytes sum s) := by
  unfold completeFrame
  split
  · split
    · exact routeCleared_health _ up
    · exact discardFrame_health p s
  · exact discardFrame_health p s

theorem takeMarked_health (p : Path) (byte : Byte) (s : State) : KeepsHealth s (takeMarked p byte s) := by
  unfold takeMarked
  split
  · exact .of_frame
  · exact (discardFrame_health p s).trans .of_frame
  · exact (discardFrame_health p s).trans .of_frame

theorem takeUnmarked_health {p : Path} (byte : Byte) {s : State} (up : s.linkUp p = true) :
    KeepsHealth s (takeUnmarked p byte s) := by
  unfold takeUnmarked
  split
  · exact .refl s
  · exact .of_frame
  · unfold takeLength
    dsimp only
    split
    · exact discardFrame_health p s
    · exact .of_frame
  · unfold takeBody
    split
    · exact .of_frame
    · split
      · exact .of_frame
      · exact completeFrame_health _ _ _ _ up

theorem takeCharacter_health (p : Path) (marked : Bool) (byte : Byte) (s : State) :
    KeepsHealth s (takeCharacter p marked byte s) := by
  unfold takeCharacter
  split
  · next up =>
    split
    · exact takeMarked_health p byte s
    · exact takeUnmarked_health byte up
  · exact .refl s

theorem takeCharacterIf_health (due : Assembler → Bool) (p : Path) (marked : Bool) (byte : Byte) (s : State) :
    KeepsHealth s (takeCharacterIf due p marked byte s) := by
  unfold takeCharacterIf
  split
  · exact takeCharacter_health p marked byte s
  · exact .refl s

theorem gapExpired_health (p : Path) (s : State) : KeepsHealth s (gapExpired p s) := by
  unfold gapExpired
  split
  · exact discardFrame_health p s
  · exact .refl s

/-! ## Resets and carrier -/

theorem powerUp_health (cause : ResetCause) (present : Bool) (s : State) : KeepsHealth s (powerUp cause present s) := by
  have cleared : HealthInv (clearAll cause present s) := healthInv_of_reset rfl fun p => by cases p <;> rfl
  intro _
  unfold powerUp
  dsimp only
  split
  · exact (.of_frame : KeepsHealth (clearAll cause present s) (startIdentify _)) cleared
  · exact (enterFrozen_health .drive _).trans (raiseBoth_health _ _) cleared

theorem clearHeld_health (p : Path) (s : State) : KeepsHealth s (clearHeld p s) := by
  unfold clearHeld
  split
  · exact onHmon_health p s
  · exact .refl s

theorem softResetLinks_health (s : State) : KeepsHealth s (softResetLinks s) :=
  (clearHeld_health .a s).trans <| (clearHeld_health .b _).trans <| (onPif_health .a _).trans (onPif_health .b _)

theorem softResetDrive_health (s : State) : KeepsHealth s (softResetDrive s) := by
  have cleared : KeepsHealth s { s with dpt := s.dpt.softClear } := .of_frame
  have reset := cleared.trans (beginReset_health _)
  unfold softResetDrive
  dsimp only
  split
  case h_1 => exact cleared.trans (enterFrozen_health _ _)
  case h_2 => exact cleared
  all_goals exact reset

theorem softReset_health (s : State) : KeepsHealth s (softReset s) := by
  have worked (t : State) : KeepsHealth t (softResetWork t) := .of_frame
  have driven := (softResetLinks_health s).trans <| (worked _).trans <| (enterLoading_health _).trans <|
    softResetDrive_health _
  unfold softReset
  dsimp only
  split
  · exact driven.trans .of_frame
  · exact driven.trans .of_frame

theorem carrierLost_health (p : Path) (s : State) : KeepsHealth s (carrierLost p s) := by
  unfold carrierLost
  split
  · intro inv
    have lost : HealthInv (healthLost p (s.onPif p Pif.carrierLost)) :=
      inv.onPath (healthLost_hmon p _) (.of_max inv.ordered rfl rfl) (by simp) (by simp)
        fun q other => by simp [State.onPif_pif, Both.get_set_ne _ _ other]
    have cut (t : State) : KeepsHealth t (cutEntries p t) := .of_frame
    exact (cut _).trans (conclude_health s _) lost
  · exact .refl s

/-- At a carrier return the score is 192 and the link UP, so that the evaluation gives what R27 asks (R35). -/
theorem carrierBack_health (p : Path) (s : State) : KeepsHealth s (carrierBack p s) := by
  cases up : s.linkUp p with
  | true => exact fun inv => by rwa [carrierBack, if_pos up]
  | false =>
    intro inv
    rw [carrierBack_down up]
    have back : HealthInv ((s.onPif p (fun f => { Pif.reset with link := .up, sent := f.sent })).onHmon p
        (fun _ => Hmon.returned s.owc.policy)) := by
      refine inv.onPath rfl ?_ rfl rfl fun q other => by simp [State.onPif_pif, Both.get_set_ne _ _ other]
      refine HealthSound.judged (h := Hmon.carrierBack s.owc.policy.pulsePeriodMs.toNat) inv.ordered
        (by decide : Config.returnScore ≤ Config.scoreMax) ?_
      rw [State.onHmon_pif, State.onPif_get_same]
      exact nofun
    dsimp only
    split
    · exact (.of_frame : KeepsHealth _ (ownerHealthy p _)) back
    · exact back

/-! ## Heads taken -/

theorem takeHead_health {p : Path} {decision : QueuedFrame → Option (State → State)} (s : State)
    (h : ∀ head act t, decision head = some act → KeepsHealth t (act t)) :
    KeepsHealth s (takeHead p decision s) := by
  have removed : KeepsHealth s (removeHead p s) := .of_frame
  unfold takeHead
  split
  · split
    · exact .refl s
    · split
      · next decided => exact removed.trans (h _ _ _ decided)
      · exact .refl s
  · exact .refl s

theorem withRoom_health {p : Path} {act : State → State} (s : State) (h : KeepsHealth s (act s)) :
    KeepsHealth s (withRoom p act s) := by
  unfold withRoom
  split
  · exact h
  · exact .refl s

theorem commandRow_health (p : Path) (test : Byte → Byte → Bool) (s : State) :
    KeepsHealth s (takeHead p (commandWhere p test) s) := by
  refine takeHead_health s fun head act t decided => ?_
  unfold commandWhere at decided
  split at decided
  · obtain ⟨_, ⟨⟩⟩ := Option.ite_none_right_eq_some.1 decided
    exact .of_frame
  · cases decided

theorem claimRow_health (p : Path) (test : Byte → Bool) (s : State) :
    KeepsHealth s (takeHead p (claimWhere p test) s) := by
  refine takeHead_health s fun head act t decided => ?_
  unfold claimWhere at decided
  split at decided
  · obtain ⟨_, ⟨⟩⟩ := Option.ite_none_right_eq_some.1 decided
    exact .of_frame
  · cases decided

theorem releaseRow_health (p : Path) (handover : Bool) (s : State) :
    KeepsHealth s (takeHead p (releaseWhere p handover) s) := by
  refine takeHead_health s fun head act t decided => ?_
  unfold releaseWhere at decided
  split at decided
  · obtain ⟨_, ⟨⟩⟩ := Option.ite_none_right_eq_some.1 decided
    exact .of_frame
  · cases decided

theorem rejoinRow_health (p : Path) (s : State) : KeepsHealth s (takeHead p (rejoinHead p) s) := by
  refine takeHead_health s fun head act t decided => ?_
  unfold rejoinHead at decided
  split at decided
  · cases decided
    exact .of_frame
  · cases decided

/-- The policy of an accepted request is held until its commit succeeds, and its thresholds are in order (R51, R52). -/
theorem acceptPolicyRequest_health (p : Path) (tag : Word) {r : PolicyRecord} (ordered : thresholdsOrdered r = true)
    (s : State) : KeepsHealth s (acceptPolicyRequest p tag r s) := by
  intro inv
  refine ⟨⟨by simpa using inv.ordered, fun q pending => ?_⟩, by simpa using inv.sound⟩
  have held : (acceptPolicyRequest p tag r s).owc.pendingPolicy = some r := by
    simp [acceptPolicyRequest, oweReply]
  rw [held] at pending
  cases pending
  exact ordered

theorem policyRow_health (p : Path) (s : State) : KeepsHealth s (takeHead p (policyHead p) s) := by
  refine takeHead_health s fun head act t decided => ?_
  unfold policyHead at decided
  split at decided
  · cases decided
    unfold decidePolicy
    split
    · exact .of_frame
    · split
      · exact .of_frame
      · next accepted => exact acceptPolicyRequest_health p _ (thresholdsOrdered_of_accepted accepted) t
  · cases decided

theorem inspectSetRow_health (p : Path) (s : State) : KeepsHealth s (takeHead p (inspectSetHead p) s) := by
  refine takeHead_health s fun head act t decided => ?_
  unfold inspectSetHead at decided
  split at decided
  · obtain ⟨_, ⟨⟩⟩ := Option.ite_none_right_eq_some.1 decided
    exact withRoom_health t .of_frame
  · cases decided

theorem inspectNextRow_health (p : Path) (s : State) : KeepsHealth s (takeHead p (inspectNextHead p) s) := by
  refine takeHead_health s fun head act t decided => ?_
  unfold inspectNextHead at decided
  split at decided
  · obtain ⟨_, ⟨⟩⟩ := Option.ite_none_right_eq_some.1 decided
    exact withRoom_health t .of_frame
  · cases decided

theorem inspectBadRow_health (p : Path) (s : State) : KeepsHealth s (takeHead p (inspectBadHead p) s) := by
  refine takeHead_health s fun head act t decided => ?_
  unfold inspectBadHead at decided
  split at decided
  · obtain ⟨_, ⟨⟩⟩ := Option.ite_none_left_eq_some.1 decided
    exact withRoom_health t .of_frame
  · cases decided

theorem clearFlagsRow_health (p : Path) (s : State) : KeepsHealth s (takeHead p (clearFlagsHead p) s) := by
  refine takeHead_health s fun head act t decided => ?_
  unfold clearFlagsHead at decided
  split at decided
  · obtain ⟨_, ⟨⟩⟩ := Option.ite_none_right_eq_some.1 decided
    exact withRoom_health t .of_frame
  · cases decided

theorem clearOrphansRow_health (p : Path) (s : State) : KeepsHealth s (takeHead p (clearOrphansHead p) s) := by
  refine takeHead_health s fun head act t decided => ?_
  unfold clearOrphansHead at decided
  split at decided
  · obtain ⟨_, ⟨⟩⟩ := Option.ite_none_right_eq_some.1 decided
    exact withRoom_health t .of_frame
  · cases decided

theorem clearBadRow_health (p : Path) (s : State) : KeepsHealth s (takeHead p (clearBadHead p) s) := by
  refine takeHead_health s fun head act t decided => ?_
  unfold clearBadHead at decided
  split at decided
  · obtain ⟨_, ⟨⟩⟩ := Option.ite_none_left_eq_some.1 decided
    exact withRoom_health t .of_frame
  · cases decided

theorem notifyMaskRow_health (p : Path) (s : State) : KeepsHealth s (takeHead p (notifyMaskHead p) s) := by
  refine takeHead_health s fun head act t decided => ?_
  unfold notifyMaskHead at decided
  split at decided
  · cases decided
    exact withRoom_health t .of_frame
  · cases decided

theorem deviceResetRow_health (p : Path) (s : State) : KeepsHealth s (takeHead p (deviceResetHead p) s) := by
  refine takeHead_health s fun head act t decided => ?_
  have deciding (d : Option (Path × Word)) (u : State) : KeepsHealth u (setDeciding d u) := .of_frame
  unfold deviceResetHead at decided
  split at decided
  · next tag epoch =>
    cases decided
    refine .trans (deciding (some (p, tag)) t) (.trans ?_ (deciding none _))
    split
    · exact withRoom_health _ .of_frame
    · exact softReset_health _
  · cases decided

/-! ## Grace and drain timers -/

theorem graceExpires_health (s : State) : KeepsHealth s (graceExpires s) := by
  unfold graceExpires
  split
  · split
    · exact .of_frame
    · exact .refl s
  · exact .refl s

theorem enterStage_health (stage : DrainStage) (s : State) : KeepsHealth s (enterStage stage s) :=
  .of_frame rfl rfl (.inl rfl) fun _ => rfl

theorem stage1Expires_health (s : State) : KeepsHealth s (stage1Expires s) := by
  have fenced (p : Path) : KeepsHealth s (fence p s) := .of_frame
  unfold stage1Expires
  split
  · exact (fenced _).trans <| (enterStage_health _ _).trans <| (refreshRoles_health _).trans (conclude_health s _)
  · exact .refl s

theorem stage2Expires_health (s : State) : KeepsHealth s (stage2Expires s) := by
  unfold stage2Expires
  split
  · dsimp only
    split
    · exact (requestReset_health s).trans <| (enterStage_health _ _).trans (conclude_health _ _)
    · exact requestReset_health s
  · exact .refl s

theorem stage3Expires_health (s : State) : KeepsHealth s (stage3Expires s) := by
  unfold stage3Expires
  split
  · dsimp only
    split
    · exact KeepsHealth.trans .of_frame (requestReset_health _)
    · exact .of_frame
  · exact .refl s

/-! ## Every step -/

theorem beginDueLoad_health (s : State) : KeepsHealth s (beginDueLoad s) := by
  unfold beginDueLoad
  split
  · exact .of_frame
  · exact .refl s

theorem KeepsHealth.of_next {s t u : State} (k : KeepsHealth s u)
    (h : (.next u : Host.Outcome State Fault Refusal) = .next t) : KeepsHealth s t := by
  cases h
  exact k

theorem exec_health {c : Instr} {s t : State} (h : exec c s = .next t) : KeepsHealth s t := by
  cases c with
  | powerOnReset drivePresent => exact (powerUp_health .power drivePresent s).of_next h
  | pinReset => exact (powerUp_health .pin s.dpt.present s).of_next h
  | carrierLoss p => exact (carrierLost_health p s).of_next h
  | carrierReturn p => exact (carrierBack_health p s).of_next h
  | truncation p kind => exact (takeCharacterIf_health _ p true kind s).of_next h
  | overLength p low => exact (takeCharacterIf_health _ p false low s).of_next h
  | gapTimeout p => exact (gapExpired_health p s).of_next h
  | checkFailure p low => exact (takeCharacterIf_health _ p false low s).of_next h
  | unknownKind p low => exact (takeCharacterIf_health _ p false low s).of_next h
  | pulse p epoch sequence => exact (frameCompletes_health p (.pulse epoch sequence) s).of_next h
  | hold p => exact (frameCompletes_health p .hold s).of_next h
  | go p => exact (frameCompletes_health p .go s).of_next h
  | writeData p tag offset data => exact (frameCompletes_health p (.writeData tag offset data) s).of_next h
  | receiveQueueArrival p frame => exact (frameCompletes_health p (.queued frame) s).of_next h
  | commandRead p => exact (commandRow_health p _ s).of_next h
  | commandWrite p => exact (commandRow_health p _ s).of_next h
  | commandWritePosted p => exact (commandRow_health p _ s).of_next h
  | commandFlush p => exact (commandRow_health p _ s).of_next h
  | commandBadOp p => exact (commandRow_health p _ s).of_next h
  | claim p => exact (claimRow_health p _ s).of_next h
  | forcedClaim p => exact (claimRow_health p _ s).of_next h
  | overrideClaim p => exact (claimRow_health p _ s).of_next h
  | release p => exact (releaseRow_health p false s).of_next h
  | releaseHandover p => exact (releaseRow_health p true s).of_next h
  | rejoin p => exact (rejoinRow_health p s).of_next h
  | policy p => exact (policyRow_health p s).of_next h
  | inspectSet p => exact (inspectSetRow_health p s).of_next h
  | inspectNext p => exact (inspectNextRow_health p s).of_next h
  | clearFaultFlags p => exact (clearFlagsRow_health p s).of_next h
  | clearOrphanList p => exact (clearOrphansRow_health p s).of_next h
  | notifyMask p => exact (notifyMaskRow_health p s).of_next h
  | deviceReset p => exact (deviceResetRow_health p s).of_next h
  | waitingFrameEntry p => exact (.of_frame : KeepsHealth s (conclude s (enterWaiting p s))).of_next h
  | frameTransmitted p => exact (.of_frame : KeepsHealth s (frameSent p s)).of_next h
  | readDataOffer p => exact (.of_frame : KeepsHealth s (offerReadData p s)).of_next h
  | pulseWindowExpiry p => exact (windowExpires_health p s).of_next h
  | graceExpiry => exact (graceExpires_health s).of_next h
  | drainStage1Expiry => exact (stage1Expires_health s).of_next h
  | drainStage2Expiry => exact (stage2Expires_health s).of_next h
  | drainStage3Expiry => exact (stage3Expires_health s).of_next h
  | drainEnd => exact (.of_frame : KeepsHealth s (checkDrainEnd s)).of_next h
  | waitingTransition => exact (.of_frame : KeepsHealth s (beginWaiting s)).of_next h
  | loadBegin => exact (beginDueLoad_health s).of_next h
  | reservedOperationIssue => exact (.of_frame : KeepsHealth s (issueReserved s)).of_next h
  | segmentIssue => exact (.of_frame : KeepsHealth s (runArbiter s)).of_next h
  | readGrant => exact (.of_frame : KeepsHealth s (runArbiter (walkGrants s))).of_next h
  | pathSlotCompletion slot status done blocks => exact (takeRecord_health slot status done.toNat blocks s).of_next h
  | entryRemoval slot => exact (.of_frame : KeepsHealth s (follow s (checkDrainEnd (reportSlot slot s)))).of_next h
  | reservedSlotCompletion status done block => exact (takeReservedRecord_health status done.toNat block s).of_next h
  | identifyCompletion status done capacity blockSize depth =>
    exact (takeIdentifyRecord_health status done.toNat _ s).of_next h
  | identifyTimeout => exact (identifyExpired_health s).of_next h
  | slotTimeout slot => exact (slotExpired_health slot s).of_next h
  | readyIndication => exact (.of_frame : KeepsHealth s (takeReadyIndication s)).of_next h
  | resetTimeout => exact (resetExpired_health s).of_next h
  | drvPresentFall => exact (presentFalls_health s).of_next h
  | drvPresentRise => exact (.of_frame : KeepsHealth s (presentRises s)).of_next h
  | linkCharacter p marked byte => exact (takeCharacter_health p marked byte s).of_next h
  | inspectBadMode p => exact (inspectBadRow_health p s).of_next h
  | clearBadTarget p => exact (clearBadRow_health p s).of_next h

theorem step_health {s t : State} (h : step s = .next t) : KeepsHealth s t := by
  unfold step at h
  split at h
  · exact (KeepsHealth.refl s).of_next h
  · next c rest _ =>
    have queued : KeepsHealth s (s.withPending rest) := .of_frame
    exact queued.trans (exec_health h)

/-- Settles O5: every operation keeps the relations, and under ordered thresholds each evaluation brings them about. -/
theorem healthRelationsAlways : Obligations.HealthRelationsAlways :=
  ⟨healthInv_reset, fun _ _ inv h => step_health h inv⟩

end Sys2Proof.Machine
end

section
/-! The ownership relations (R40 to R43): what one change of OWC's record keeps of them. -/

namespace Sys2Proof.Machine

set_option Elab.async false

/-! ## Roles -/

theorem role_refreshRoles (p : Path) (s : State) : (refreshRoles s).role p = roleFor s.owc p := by
  cases p <;> rfl

/-- The list of R42 gives FENCED exactly to a FENCED path. -/
theorem roleFor_eq_fenced {o : Owc} {p : Path} : roleFor o p = .fenced ↔ o.roles.get p = .fenced := by
  unfold roleFor nonOwnerRole
  split_ifs <;> simp_all

theorem refreshRoles_fenced_iff (p : Path) (s : State) : (refreshRoles s).role p = .fenced ↔ s.role p = .fenced := by
  rw [role_refreshRoles, roleFor_eq_fenced, State.role]

/-- Setting the roles afresh leaves what R42's list gives each path. -/
theorem roleFor_refreshRoles (p : Path) (s : State) : roleFor (refreshRoles s).owc p = roleFor s.owc p := by
  have same : (refreshRoles s).owc.roles.get p = .fenced ↔ s.owc.roles.get p = .fenced := refreshRoles_fenced_iff p s
  unfold roleFor
  rw [if_congr same rfl rfl]
  rfl

theorem fence_roles (p : Path) (s : State) : (fence p s).owc.roles = s.owc.roles.set p .fenced := by
  have answered (l : List QueuedFrame) (t : State) : (l.foldl (answerFenced p) t).owc = t.owc := by
    induction l generalizing t with
    | nil => rfl
    | cons frame rest ih => exact (ih _).trans (by simp)
  simp [fence, answered, setRole]

theorem fence_fenced {p q : Path} {s : State} (h : s.role q = .fenced) : (fence p s).role q = .fenced := by
  unfold State.role at h ⊢
  rw [fence_roles, Both.get_set, h, ite_self]

/-! ## The relations taken apart -/

/-- The record without the roles: an owner is named exactly in OWNED and GRACE and is not FENCED, and the commits are
sound. -/
def RecordSound (s : State) : Prop :=
  (s.owc.owner.isSome = true ↔ s.owc.state = .owned ∨ s.owc.state = .grace) ∧
    (∀ p, s.owc.owner = some p → s.role p ≠ .fenced) ∧ CommitSound s

/-- No transition is under way: a commit in flight is that of a POLICY, and none waits. -/
def NoTransition (s : State) : Prop :=
  (∀ c purpose, s.owc.contents = some c → s.owc.purpose = some purpose → purpose = .policy) ∧
    s.owc.waitingTransition = none

theorem OwnershipInv.recordSound {s : State} (h : OwnershipInv s) : RecordSound s := by
  obtain ⟨named, unfenced, _, commits⟩ := h
  exact ⟨named, unfenced, commits⟩

theorem OwnershipInv.commitSound {s : State} (h : OwnershipInv s) : CommitSound s := by
  obtain ⟨_, _, _, commits⟩ := h
  exact commits

/-- Outside OWNED and GRACE no owner is named (R41). -/
theorem OwnershipInv.unowned {s : State} (h : OwnershipInv s) (owned : s.owc.state ≠ .owned)
    (grace : s.owc.state ≠ .grace) : s.owc.owner = none := by
  obtain ⟨named, _⟩ := h
  simpa [owned, grace] using named

/-- Outside COMMITTING no transition is under way (R53). -/
theorem OwnershipInv.noTransition {s : State} (h : OwnershipInv s) (state : s.owc.state ≠ .committing) :
    NoTransition s := by
  obtain ⟨flight, waiting, _⟩ := h.commitSound
  refine ⟨fun c purpose contents held => ?_, ?_⟩
  · by_contra other
    obtain ⟨committing, _⟩ := flight c purpose contents held other
    exact state committing
  · cases held : s.owc.waitingTransition with
    | none => rfl
    | some purpose =>
      obtain ⟨committing, _⟩ := waiting purpose held
      exact absurd committing state

theorem NoTransition.commitSound {s : State} (h : NoTransition s)
    (successor : s.owc.state = .committing → ∀ p, s.owc.successor = some (some p) → s.role p ≠ .fenced) :
    CommitSound s := by
  obtain ⟨flight, waiting⟩ := h
  refine ⟨fun c purpose contents held other => absurd (flight c purpose contents held) other, fun purpose held => ?_,
    successor⟩
  rw [waiting] at held
  cases held

theorem NoTransition.congr {s t : State} (h : NoTransition s) (contents : t.owc.contents = s.owc.contents := by simp)
    (purpose : t.owc.purpose = s.owc.purpose := by simp)
    (waiting : t.owc.waitingTransition = s.owc.waitingTransition := by simp) : NoTransition t := by
  unfold NoTransition
  rwa [contents, purpose, waiting]

/-- A record outside OWNED and GRACE. -/
theorem RecordSound.of_unowned {s : State} (owner : s.owc.owner = none) (commits : CommitSound s)
    (owned : s.owc.state ≠ .owned := by simp) (grace : s.owc.state ≠ .grace := by simp) : RecordSound s :=
  ⟨by simp [owner, owned, grace], fun p h => by simp [owner] at h, commits⟩

/-- Once the roles are set afresh, a sound record meets the relations. -/
theorem RecordSound.refreshRoles {s : State} (h : RecordSound s) : OwnershipInv (refreshRoles s) := by
  obtain ⟨named, unfenced, flight, waiting, successor⟩ := h
  refine ⟨named, fun p owner => ?_, fun p => ?_, fun c purpose contents held other => ?_, waiting, fun state p next => ?_⟩
  · exact (refreshRoles_fenced_iff p s).not.2 (unfenced p owner)
  · rw [role_refreshRoles, roleFor_refreshRoles]
  · obtain ⟨state, unfencedNext, none⟩ := flight c purpose contents held other
    exact ⟨state, fun p owner => (refreshRoles_fenced_iff p s).not.2 (unfencedNext p owner), none⟩
  · exact (refreshRoles_fenced_iff p s).not.2 (successor state p next)

/-! ## Keeping the relations -/

/-- OWC's record with every field cleared that neither the ownership relations nor the block's own fields rest on. -/
def Owc.bare (o : Owc) : Owc :=
  { Owc.reset with
    state := o.state, owner := o.owner, epoch := o.epoch, commitCount := o.commitCount, drainStage := o.drainStage
    successor := o.successor, purpose := o.purpose, roles := o.roles, policy := o.policy, contents := o.contents
    waitingTransition := o.waitingTransition, drainedPath := o.drainedPath }

/-- The ownership relations see the bare record alone. -/
theorem ownershipInv_congr {s t : State} (h : t.owc.bare = s.owc.bare) (inv : OwnershipInv s) : OwnershipInv t := by
  have bare (u : State) : OwnershipInv { u with owc := u.owc.bare } ↔ OwnershipInv u := Iff.rfl
  have same : OwnershipInv { t with owc := s.owc.bare } := inv
  rwa [← h, bare] at same

/-- Going from `s` to `t` the ownership relations are kept, and no FENCED path leaves its role (R42). -/
structure KeepsOwnership (s t : State) : Prop where
  inv : OwnershipInv s → OwnershipInv t
  fenced : ∀ p, s.role p = .fenced → t.role p = .fenced

/-- Going from `s` to `t` the block's own fields stay as well (R43, R54, R61, R65). -/
structure KeepsRecord (s t : State) : Prop extends KeepsOwnership s t where
  block : SameBlock s t

theorem KeepsOwnership.refl (s : State) : KeepsOwnership s s :=
  ⟨id, fun _ => id⟩

theorem KeepsOwnership.trans {s t u : State} (h : KeepsOwnership s t) (k : KeepsOwnership t u) : KeepsOwnership s u :=
  ⟨fun inv => k.inv (h.inv inv), fun p fenced => k.fenced p (h.fenced p fenced)⟩

theorem SameBlock.refl (s : State) : SameBlock s s :=
  ⟨rfl, rfl, rfl⟩

theorem SameBlock.trans {s t u : State} (h : SameBlock s t) (k : SameBlock t u) : SameBlock s u := by
  obtain ⟨epoch, count, policy⟩ := h
  obtain ⟨epochNext, countNext, policyNext⟩ := k
  exact ⟨epochNext.trans epoch, countNext.trans count, policyNext.trans policy⟩

theorem KeepsRecord.refl (s : State) : KeepsRecord s s :=
  ⟨.refl s, .refl s⟩

theorem KeepsRecord.trans {s t u : State} (h : KeepsRecord s t) (k : KeepsRecord t u) : KeepsRecord s u :=
  ⟨h.toKeepsOwnership.trans k.toKeepsOwnership, h.block.trans k.block⟩

theorem KeepsRecord.of_bare {s t : State} (h : t.owc.bare = s.owc.bare) : KeepsRecord s t where
  inv := ownershipInv_congr h
  fenced p fenced := (congrArg (fun o => o.roles.get p) h).trans fenced
  block := ⟨congrArg (fun o => o.epoch) h, congrArg (fun o => o.commitCount) h, congrArg (fun o => o.policy) h⟩

/-- A step outside the bare record. -/
theorem KeepsRecord.of_frame {s t : State} (h : t.owc.bare = s.owc.bare := by simp [Owc.bare]) : KeepsRecord s t :=
  .of_bare h

/-- A change of the record after which the roles are set afresh. -/
theorem keepsOwnership_refreshRoles {s u : State} (sound : OwnershipInv s → RecordSound u)
    (fenced : ∀ p, s.role p = .fenced → u.role p = .fenced) : KeepsOwnership s (refreshRoles u) :=
  ⟨fun inv => (sound inv).refreshRoles, fun p h => (refreshRoles_fenced_iff p u).2 (fenced p h)⟩

theorem keepsRecord_refreshRoles {s u : State} (sound : OwnershipInv s → RecordSound u)
    (fenced : ∀ p, s.role p = .fenced → u.role p = .fenced) (block : SameBlock s u) : KeepsRecord s (refreshRoles u) :=
  ⟨keepsOwnership_refreshRoles sound fenced, block⟩

/-! ## Commits (R53) -/

/-- A commit begins that is a POLICY's, or stands in COMMITTING and names no FENCED path. -/
theorem beginCommit_keepsRecord {purpose : Purpose} {c : Contents} {s : State}
    (sound : OwnershipInv s → purpose ≠ .policy →
      s.owc.state = .committing ∧ ∀ p, c.owner = some p → s.role p ≠ .fenced) : KeepsRecord s (beginCommit purpose c s) where
  inv inv := by
    have ⟨named, unfenced, roles, _, _, successor⟩ := inv
    have held : (beginCommit purpose c s).owc.contents = some c ∧ (beginCommit purpose c s).owc.purpose = some purpose ∧
        (beginCommit purpose c s).owc.waitingTransition = none := by simp [beginCommit]
    refine ⟨by simpa using named, by simpa [State.role] using unfenced, by simpa [State.role, roleFor] using roles,
      fun d other contents begun notPolicy => ?_, fun other waits => ?_, by simpa [State.role] using successor⟩
    · obtain ⟨⟨⟩, ⟨⟩⟩ : some c = some d ∧ some purpose = some other := ⟨held.1 ▸ contents, held.2.1 ▸ begun⟩
      obtain ⟨committing, names⟩ := sound inv notPolicy
      exact ⟨by simpa using committing, by simpa [State.role] using names, held.2.2⟩
    · simp [held] at waits
  fenced p h := by simpa [State.role] using h
  block := by simp [SameBlock]

/-- A transition that stands in COMMITTING, with none under way, begins its commit or waits for the POLICY commit in
flight. -/
theorem KeepsRecord.beginTransition {purpose : Purpose} {s u : State} (h : KeepsRecord s u) (notPolicy : purpose ≠ .policy)
    (state : u.owc.state = .committing) (quiet : OwnershipInv s → NoTransition u) :
    KeepsRecord s (beginTransition purpose u) := by
  unfold Machine.beginTransition
  split
  · refine ⟨⟨fun inv => ?_, h.fenced⟩, h.block⟩
    obtain ⟨named, unfenced, roles, _, _, successor⟩ := h.inv inv
    obtain ⟨flight, _⟩ := quiet inv
    refine ⟨named, unfenced, roles, fun c other contents held policy => absurd (flight c other contents held) policy,
      fun other held => ?_, successor⟩
    cases held
    exact ⟨state, notPolicy⟩
  · refine h.trans (beginCommit_keepsRecord fun inv _ => ⟨state, fun p owner => ?_⟩)
    obtain ⟨_, _, successor⟩ := inv.commitSound
    exact successor state p (Option.join_eq_some_iff.1 owner)

/-! ## Drains (R80, R87) -/

/-- The path chosen at drain end is not FENCED (R87). -/
theorem chooseSuccessor_unfenced {cause : DrainCause} {drained p : Path} {s : State}
    (h : chooseSuccessor cause drained s = some p) : s.role p ≠ .fenced := by
  have eligible : s.eligible p = true := by
    unfold chooseSuccessor at h
    split at h
    · cases h
    · obtain ⟨eligible, ⟨⟩⟩ := Option.ite_none_right_eq_some.1 h
      exact eligible
    all_goals
      split at h
      · obtain ⟨eligible, ⟨⟩⟩ := Option.ite_none_right_eq_some.1 h
        exact eligible
      · cases h
  simp only [State.eligible, Bool.and_eq_true, bne_iff_ne] at eligible
  exact eligible.2

theorem drainPurpose_ne_policy (cause : DrainCause) : drainPurpose cause ≠ .policy := by
  cases cause <;> decide

/-- The record at drain end (R87, R88). -/
def Owc.close (successor : Option Path) (o : Owc) : Owc :=
  { o with state := .committing, drainTimer := none, successor := some successor }

theorem endDrain_eq (cause : DrainCause) (drained : Path) (s : State) :
    endDrain cause drained s = beginTransition (drainPurpose cause)
      (refreshRoles { s with owc := s.owc.close (chooseSuccessor cause drained s) }) := rfl

theorem checkDrainEnd_keepsRecord (s : State) : KeepsRecord s (checkDrainEnd s) := by
  unfold checkDrainEnd
  split
  · split
    · next cause drained _ _ due =>
      obtain ⟨draining, _⟩ := due
      have notCommitting : s.owc.state ≠ .committing := by simp [draining]
      have chosen (p : Path) (h : chooseSuccessor cause drained s = some p) : s.role p ≠ .fenced :=
        chooseSuccessor_unfenced h
      have quiet (inv : OwnershipInv s) :
          NoTransition { s with owc := s.owc.close (chooseSuccessor cause drained s) } :=
        (inv.noTransition notCommitting).congr rfl rfl rfl
      have closing : KeepsRecord s (refreshRoles { s with owc := s.owc.close (chooseSuccessor cause drained s) }) := by
        refine keepsRecord_refreshRoles (fun inv => ?_) (fun _ => id) (.refl s)
        exact .of_unowned (inv.unowned (by simp [draining]) (by simp [draining]))
          ((quiet inv).commitSound fun _ p next => chosen p (Option.some.inj next)) (by simp [Owc.close])
          (by simp [Owc.close])
      rw [endDrain_eq]
      exact closing.beginTransition (drainPurpose_ne_policy cause) rfl fun inv => (quiet inv).congr rfl rfl rfl
    · exact .refl s
  · exact .refl s

theorem raiseIn_keepsRecord (p : Path) (flag : Flag) (s : State) : KeepsRecord s (raiseIn p flag s) :=
  .of_frame

theorem raiseBoth_keepsRecord (flag : Flag) (s : State) : KeepsRecord s (raiseBoth flag s) :=
  .of_frame

theorem sendNotices_keepsRecord (s : State) : KeepsRecord s (sendNotices s) :=
  .of_frame

theorem addHistory_keepsRecord (r : HistoryRecord) (s : State) : KeepsRecord s (addHistory r s) :=
  .of_bare rfl

theorem follow_keepsRecord (before s : State) : KeepsRecord s (follow before s) :=
  .of_frame

theorem conclude_keepsRecord (before s : State) : KeepsRecord s (conclude before s) := by
  have reported : KeepsRecord s (reportAll s) := .of_frame
  exact reported.trans <| (checkDrainEnd_keepsRecord (reportAll s)).trans (follow_keepsRecord before _)

/-- A record in DRAINING, with no transition under way, is sound (R80). -/
theorem RecordSound.of_draining {s : State} (quiet : NoTransition s) (owner : s.owc.owner = none)
    (state : s.owc.state = .draining) : RecordSound s :=
  .of_unowned owner (quiet.commitSound fun committing => by simp [state] at committing) (by simp [state])
    (by simp [state])

theorem startDrainTimer_role (p : Path) (s : State) : (startDrainTimer s).role p = s.role p := rfl

theorem beginFencedDrain_keepsRecord {cause : DrainCause} {owner : Path} {s : State}
    (state : s.owc.state ≠ .committing) : KeepsRecord s (beginFencedDrain cause owner s) := by
  have fenced : KeepsRecord s (refreshRoles (startDrainTimer (fence owner
      { s with owc := s.owc.beginDrain .fenced cause owner (some owner.other) }))) := by
    refine keepsRecord_refreshRoles (fun inv => ?_) (fun p h => ?_) ⟨?_, ?_, ?_⟩
    · refine .of_draining ((inv.noTransition state).congr ?_ ?_ ?_) ?_ ?_ <;> simp [startDrainTimer_owc, Owc.beginDrain]
    · exact (startDrainTimer_role p _).trans (fence_fenced h)
    all_goals simp [startDrainTimer_owc, Owc.beginDrain]
  exact fenced.trans (conclude_keepsRecord s _)

theorem beginReleaseDrain_keepsRecord {cause : DrainCause} {releaser : Path} {successor : Option Path} {s : State}
    (state : s.owc.state ≠ .committing) : KeepsRecord s (beginReleaseDrain cause releaser successor s) := by
  have recorded : KeepsRecord s (refreshRoles (startDrainTimer
      { s with owc := s.owc.beginDrain .cooperative cause releaser successor })) :=
    keepsRecord_refreshRoles (fun inv => .of_draining ((inv.noTransition state).congr rfl rfl rfl) rfl rfl)
      (fun _ => id) (.refl s)
  exact recorded.trans (conclude_keepsRecord s _)

/-! ## The owner's health (R69, R71, R73) -/

/-- An owner named in OWNED or GRACE stays named from the one to the other. -/
theorem RecordSound.owner_state {s u : State} (inv : OwnershipInv s) (before : s.owc.state = .owned ∨ s.owc.state = .grace)
    (after : u.owc.state = .owned ∨ u.owc.state = .grace) (owner : u.owc.owner = s.owc.owner := by rfl)
    (roles : ∀ p, u.role p = s.role p := by exact fun _ => rfl)
    (contents : u.owc.contents = s.owc.contents := by rfl) (purpose : u.owc.purpose = s.owc.purpose := by rfl)
    (waiting : u.owc.waitingTransition = s.owc.waitingTransition := by rfl) : RecordSound u := by
  have notCommitting : s.owc.state ≠ .committing := by rcases before with h | h <;> simp [h]
  have quiet : NoTransition u := (inv.noTransition notCommitting).congr contents purpose waiting
  obtain ⟨named, unfenced, _⟩ := inv
  refine ⟨by simp [owner, named, before, after], fun p held => ?_, quiet.commitSound fun committing => ?_⟩
  · rw [roles p]
    exact unfenced p (owner ▸ held)
  · simp [committing] at after

theorem ownerLost_keepsRecord (p : Path) (s : State) : KeepsRecord s (ownerLost p s) := by
  unfold ownerLost
  split
  · next lost =>
    obtain ⟨owned, _⟩ := lost
    split
    · exact beginFencedDrain_keepsRecord (by simp [owned])
    · exact keepsRecord_refreshRoles (fun inv => .owner_state inv (.inl owned) (.inr rfl)) (fun _ => id) (.refl s)
  · exact .refl s

theorem ownerHealthy_keepsRecord (p : Path) (s : State) : KeepsRecord s (ownerHealthy p s) := by
  unfold ownerHealthy
  split
  · next held =>
    obtain ⟨grace, _⟩ := held
    exact keepsRecord_refreshRoles (fun inv => .owner_state inv (.inr grace) (.inl rfl)) (fun _ => id) (.refl s)
  · exact .refl s

theorem reportHealth_keepsRecord (p : Path) (old new : Health) (s : State) : KeepsRecord s (reportHealth p old new s) := by
  have told : KeepsRecord s
      (match new with
       | .lost => ownerLost p s
       | .healthy => ownerHealthy p s
       | .doubtful => s) := by
    cases new with
    | lost => exact ownerLost_keepsRecord p s
    | healthy => exact ownerHealthy_keepsRecord p s
    | doubtful => exact .refl s
  unfold reportHealth
  dsimp only
  split
  · exact told.trans (raiseIn_keepsRecord _ _ _)
  · exact told

theorem reportChange_keepsRecord (p : Path) (old : Health) (s : State) : KeepsRecord s (reportChange p old s) := by
  unfold reportChange
  split
  · exact .refl s
  · exact reportHealth_keepsRecord p old _ s

theorem reevaluate_keepsRecord (p : Path) (s : State) : KeepsRecord s (reevaluate p s) :=
  KeepsRecord.trans .of_frame (reportChange_keepsRecord p _ (judgeHealth p s))

theorem reevaluateBoth_keepsRecord (s : State) : KeepsRecord s (reevaluateBoth s) :=
  KeepsRecord.trans .of_frame <| (reportChange_keepsRecord .a _ (judgeHealth .b (judgeHealth .a s))).trans
    (reportChange_keepsRecord .b _ _)

theorem applyScore_keepsRecord (p : Path) (score : Nat) (s : State) : KeepsRecord s (applyScore p score s) := by
  unfold applyScore
  split
  · exact .refl s
  · exact KeepsRecord.trans .of_frame (reevaluate_keepsRecord p _)

theorem linkError_keepsRecord (p : Path) (s : State) : KeepsRecord s (linkError p s) :=
  (applyScore_keepsRecord p _ s).trans (raiseIn_keepsRecord p .linkError _)

theorem takePulse_keepsRecord (p : Path) (s : State) : KeepsRecord s (takePulse p s) := by
  unfold takePulse
  dsimp only
  split
  · exact .refl s
  · exact KeepsRecord.trans .of_frame (applyScore_keepsRecord p _ _)

theorem reportIfOwnerLost_keepsRecord (s : State) : KeepsRecord s (reportIfOwnerLost s) := by
  unfold reportIfOwnerLost
  split
  · split
    · exact ownerLost_keepsRecord _ s
    · exact .refl s
  · exact .refl s

end Sys2Proof.Machine
end

section
/-! The ownership relations (R40 to R43): loads, commits, FROZEN and the drive keep them. -/

namespace Sys2Proof.Machine

set_option Elab.async false

/-! ## A policy's take-effect (R65) -/

/-- Another policy in force leaves the record sound (R65). -/
theorem takeEffect_keepsOwnership (r : PolicyRecord) (s : State) : KeepsOwnership s (takeEffect r s) := by
  have inForce : KeepsOwnership s (refreshRoles { s with owc := { s.owc with policy := r } }) :=
    keepsOwnership_refreshRoles (fun inv => inv.recordSound) fun _ => id
  have tested (u : State) : KeepsRecord u (testThresholds .b (testThresholds .a u)) := .of_frame
  exact inForce.trans <| ((reevaluateBoth_keepsRecord _).trans <| (tested _).trans
    (follow_keepsRecord _ _)).toKeepsOwnership

/-- In no other state than OWNED and GRACE does OWC answer a change of health (R69, R71). -/
theorem reportChange_owc_of_idle (p : Path) (old : Health) {s : State} (owned : s.owc.state ≠ .owned)
    (grace : s.owc.state ≠ .grace) : (reportChange p old s).owc = s.owc := by
  have lost : ownerLost p s = s := if_neg fun h => owned h.1
  have healthy : ownerHealthy p s = s := if_neg fun h => grace h.1
  unfold reportChange
  split
  · rfl
  · unfold reportHealth
    cases (s.hmon.get p).health <;> simp only [lost, healthy] <;> split <;> simp

theorem takeEffect_owc_of_idle (r : PolicyRecord) {s : State} (owned : s.owc.state ≠ .owned)
    (grace : s.owc.state ≠ .grace) :
    (takeEffect r s).owc = (refreshRoles { s with owc := { s.owc with policy := r } }).owc := by
  have idle (p : Path) (old : Health) (u : State)
      (h : u.owc = (refreshRoles { s with owc := { s.owc with policy := r } }).owc) :
      (reportChange p old u).owc = u.owc :=
    reportChange_owc_of_idle p old (by rw [h]; exact owned) (by rw [h]; exact grace)
  simp only [takeEffect, follow_frame, testThresholds_frame, reevaluateBoth]
  rw [idle .b, idle .a]
  · simp
  · simp
  · rw [idle .a]
    · simp
    · simp

/-! ## FROZEN and LOADING (R59, R63) -/

/-- A record with no owner, no successor and no commit is sound outside OWNED and GRACE. -/
theorem RecordSound.of_cleared {s : State} (owner : s.owc.owner = none := by rfl)
    (contents : s.owc.contents = none := by rfl) (waiting : s.owc.waitingTransition = none := by rfl)
    (successor : s.owc.successor = none := by rfl) (owned : s.owc.state ≠ .owned := by nofun)
    (grace : s.owc.state ≠ .grace := by nofun) : RecordSound s := by
  have quiet : NoTransition s := ⟨fun c purpose held => by simp [contents] at held, waiting⟩
  exact .of_unowned owner (quiet.commitSound fun _ p held => by simp [successor] at held) owned grace

theorem freeze_keepsRecord (cause : FrozenCause) (s : State) :
    KeepsRecord s (refreshRoles { s with owc := s.owc.freeze cause }) :=
  keepsRecord_refreshRoles (fun _ => .of_cleared) (fun _ => id) (.refl s)

theorem enterFrozen_keepsRecord (cause : FrozenCause) (s : State) : KeepsRecord s (enterFrozen cause s) := by
  unfold enterFrozen
  split
  · exact .of_bare rfl
  · have answered (u : State) (l : List OwedReply) : KeepsRecord u (settleReplies s.owc l u) := .of_frame
    exact (freeze_keepsRecord cause s).trans <| (raiseBoth_keepsRecord .frozen _).trans <|
      (sendNotices_keepsRecord _).trans (answered _ _)

theorem enterLoading_keepsRecord (s : State) : KeepsRecord s (enterLoading s) :=
  keepsRecord_refreshRoles (fun _ => .of_cleared) (fun _ => id) (.refl s)

theorem beginLoad_keepsRecord (s : State) : KeepsRecord s (beginLoad s) :=
  .of_frame

theorem driveReady_keepsRecord (s : State) : KeepsRecord s (driveReady s) := by
  unfold driveReady
  split
  · exact beginLoad_keepsRecord s
  · split
    · exact (enterLoading_keepsRecord s).trans (beginLoad_keepsRecord _)
    · exact .of_frame

/-! ## The load (R60 to R62) -/

theorem loadBad_keepsRecord (s : State) : KeepsRecord s (loadBad s) where
  toKeepsOwnership :=
    (takeEffect_keepsOwnership _ s).trans <| ((freeze_keepsRecord .blockBad _).trans <|
      (addHistory_keepsRecord _ _).trans <| (raiseBoth_keepsRecord _ _).trans <|
      (raiseBoth_keepsRecord _ _).trans (sendNotices_keepsRecord _)).toKeepsOwnership
  block := by simp [SameBlock, loadBad, refreshRoles, addHistory, takeEffect_policy, Owc.freeze]

/-- The record of a load in LOADING that names an owner who is not FENCED, or none (R61). -/
theorem loaded_keepsOwnership {owner : Option Path} {epoch : Word} {count : CommitCount} {s : State}
    (loading : s.owc.state = .loading) (unfenced : ∀ p, owner = some p → s.role p ≠ .fenced) :
    KeepsOwnership s (refreshRoles { s with owc := s.owc.loaded owner epoch count }) := by
  refine keepsOwnership_refreshRoles (fun inv => ?_) fun _ => id
  have quiet : NoTransition { s with owc := s.owc.loaded owner epoch count } :=
    (inv.noTransition (by simp [loading])).congr rfl rfl rfl
  refine ⟨by cases owner <;> simp [Owc.loaded], unfenced, quiet.commitSound fun committing => ?_⟩
  cases owner <;> simp [Owc.loaded] at committing

theorem loadGood_keepsOwnership {owner : Option Path} {epoch : Word} {count : CommitCount} {r : PolicyRecord} {s : State}
    (loading : s.owc.state = .loading) (unfenced : ∀ p, owner = some p → s.role p ≠ .fenced) :
    KeepsOwnership s (loadGood owner epoch count r s) := by
  have record := takeEffect_owc_of_idle r (s := s) (by simp [loading]) (by simp [loading])
  have role (p : Path) : (takeEffect r s).role p = .fenced ↔ s.role p = .fenced := by
    unfold State.role
    rw [record]
    exact refreshRoles_fenced_iff p { s with owc := { s.owc with policy := r } }
  have recorded := (takeEffect_keepsOwnership r s).trans (loaded_keepsOwnership (owner := owner) (epoch := epoch)
    (count := count) (by rw [record]; exact loading) fun p named => (role p).not.2 (unfenced p named))
  unfold loadGood
  dsimp only
  exact recorded.trans <| ((addHistory_keepsRecord _ _).trans <| (sendNotices_keepsRecord _).trans
    (reportIfOwnerLost_keepsRecord _)).toKeepsOwnership

theorem loadedOwner_unfenced {ownerByte : Byte} {s : State} {p : Path} (h : loadedOwner ownerByte s = some p) :
    s.role p ≠ .fenced := by
  unfold loadedOwner at h
  dsimp only at h
  split at h
  · split at h
    · cases h
    · next unfenced =>
      cases h
      exact unfenced
  · cases h

theorem completeLoad_keepsOwnership {s : State} (loading : s.owc.state = .loading) :
    KeepsOwnership s (completeLoad s) := by
  unfold completeLoad
  split
  · exact loadGood_keepsOwnership loading nofun
  · exact loadGood_keepsOwnership loading fun p => loadedOwner_unfenced
  · exact (loadBad_keepsRecord s).toKeepsOwnership

theorem attemptFailed_keepsRecord (op : BlockOp) (s : State) : KeepsRecord s (attemptFailed op s) := by
  have asked : KeepsRecord s (requestBlockOp op { s with owc := { s.owc with attempt := s.owc.attempt + 1 } }) :=
    .of_frame
  unfold attemptFailed
  split
  · exact asked
  · split
    · exact loadBad_keepsRecord s
    · exact enterFrozen_keepsRecord _ s

theorem operationFailed_keepsRecord (op : BlockOp) (s : State) : KeepsRecord s (operationFailed op s) := by
  unfold operationFailed
  split <;> split
  · exact attemptFailed_keepsRecord _ s
  · exact .refl s
  · exact attemptFailed_keepsRecord _ s
  · exact .refl s

/-! ## The success of a commit (R54) -/

/-- The record after a success is sound: a commit of another purpose than POLICY stood in COMMITTING and named no FENCED
path. -/
theorem succeed_keepsOwnership {purpose : Purpose} {c : Contents} {s : State} (held : s.owc.purpose = some purpose)
    (contents : s.owc.contents = some c) : KeepsOwnership s (refreshRoles { s with owc := s.owc.succeed purpose c }) := by
  refine keepsOwnership_refreshRoles (fun inv => ?_) fun p h => by simpa [State.role] using h
  obtain ⟨named, unfenced, _, flight, waiting, successor⟩ := inv
  by_cases policy : purpose = .policy
  · subst policy
    exact ⟨named, unfenced, fun d other none => by simp [Owc.succeed] at none, waiting, successor⟩
  · obtain ⟨_, names, none⟩ := flight c purpose contents held policy
    have quiet : NoTransition { s with owc := s.owc.succeed purpose c } :=
      ⟨fun d other gone => by simp [Owc.succeed, policy] at gone, by simpa using none⟩
    have state : (s.owc.succeed purpose c).state = if c.owner.isSome then .owned else .unowned := by
      simp [Owc.succeed, policy]
    have owner : (s.owc.succeed purpose c).owner = c.owner := by simp [Owc.succeed, policy]
    refine ⟨?_, fun p own => ?_, quiet.commitSound fun committing => ?_⟩
    · dsimp only
      rw [state, owner]
      cases c.owner <;> simp
    · have role : ({ s with owc := s.owc.succeed purpose c } : State).role p = s.role p := by simp [State.role]
      rw [role]
      exact names p (owner ▸ own)
    · dsimp only at committing
      rw [state] at committing
      split at committing <;> cases committing

theorem beginWaiting_keepsRecord (s : State) : KeepsRecord s (beginWaiting s) := by
  unfold beginWaiting
  split
  · next purpose waits =>
    split
    · exact .refl s
    · refine beginCommit_keepsRecord fun inv _ => ?_
      obtain ⟨_, waiting, successor⟩ := inv.commitSound
      obtain ⟨committing, _⟩ := waiting purpose waits
      exact ⟨committing, fun p owner => successor committing p (Option.join_eq_some_iff.1 owner)⟩
  · exact .refl s

theorem policyStep_keepsOwnership (purpose : Purpose) (s : State) : KeepsOwnership s (policyStep purpose s) := by
  have dropped : KeepsRecord s { s with owc := { s.owc with pendingPolicy := none } } := .of_bare rfl
  unfold policyStep
  split
  · split
    · exact dropped.toKeepsOwnership.trans (takeEffect_keepsOwnership _ _)
    · exact .refl s
  · exact .refl s

theorem historyStep_keepsRecord (before : Owc) (purpose : Purpose) (c : Contents) (s : State) :
    KeepsRecord s (historyStep before purpose c s) := by
  unfold historyStep
  split
  · exact addHistory_keepsRecord _ s
  · exact .refl s

theorem replyFor_keepsRecord (purpose : Purpose) (c : Contents) (s : State) : KeepsRecord s (replyFor purpose c s) := by
  unfold replyFor
  split
  · exact .refl s
  · exact .of_frame

theorem commitSuccess_keepsOwnership {purpose : Purpose} {c : Contents} {s : State} (held : s.owc.purpose = some purpose)
    (contents : s.owc.contents = some c) : KeepsOwnership s (commitSuccess purpose c s) := by
  have answered (u : State) : KeepsRecord u
      (beginWaiting (replyFor purpose c (sendNotices (historyStep s.owc purpose c u)))) :=
    (historyStep_keepsRecord s.owc purpose c u).trans <| (sendNotices_keepsRecord _).trans <|
      (replyFor_keepsRecord purpose c _).trans (beginWaiting_keepsRecord _)
  have done := (succeed_keepsOwnership held contents).trans <| (policyStep_keepsOwnership purpose _).trans
    (answered _).toKeepsOwnership
  unfold commitSuccess
  dsimp only
  split
  · exact done
  · exact done.trans (reportIfOwnerLost_keepsRecord _).toKeepsOwnership

theorem operationSucceeded_keepsOwnership (op : BlockOp) (s : State) : KeepsOwnership s (operationSucceeded op s) := by
  unfold operationSucceeded
  split
  · split
    · next loading => exact completeLoad_keepsOwnership loading
    · exact .refl s
  · split
    · next held contents => exact commitSuccess_keepsOwnership held contents
    · exact .refl s

/-! ## The drive -/

theorem beginReset_keepsRecord (s : State) : KeepsRecord s (beginReset s) := by
  have started : KeepsRecord s { s with dpt := s.dpt.startReset } := .of_bare rfl
  have aborted (u : State) (l : List Nat) : KeepsRecord u (forSlots abortEntry l u) := .of_frame
  have concluded := started.trans <| (aborted _ (({ s with dpt := s.dpt.startReset } : State).slotsWhere
    (fun _ => true))).trans (conclude_keepsRecord s _)
  unfold beginReset
  dsimp only
  refine .trans ?_ (raiseBoth_keepsRecord .driveReset _)
  split
  · exact concluded.trans (operationFailed_keepsRecord _ _)
  · exact concluded

theorem requestReset_keepsRecord (s : State) : KeepsRecord s (requestReset s) := by
  unfold requestReset
  split
  · exact beginReset_keepsRecord s
  · exact .refl s

theorem giveUp_keepsRecord (state : DriveState) (cause : DriveCause) (s : State) :
    KeepsRecord s (giveUp state cause s) := by
  have given : KeepsRecord s { s with dpt := s.dpt.giveUp state cause } := .of_bare rfl
  have ended (u : State) (l : List Nat) : KeepsRecord u (forSlots failEntry l u) := .of_frame
  exact given.trans <| (enterFrozen_keepsRecord .drive _).trans <| (ended _ _).trans <|
    (conclude_keepsRecord s _).trans (raiseBoth_keepsRecord .driveFailed _)

theorem judgeIdentify_keepsRecord (i : Identity) (s : State) : KeepsRecord s (judgeIdentify i s) := by
  unfold judgeIdentify
  split
  · exact giveUp_keepsRecord _ _ s
  · split
    · exact giveUp_keepsRecord _ _ s
    · have ready : KeepsRecord s { s with dpt := s.dpt.enterReady i } := .of_bare rfl
      unfold enterReady
      exact ready.trans <| (driveReady_keepsRecord _).trans (follow_keepsRecord s _)

theorem identifyFailed_keepsRecord {again : State → State} (h : ∀ t, KeepsRecord t (again t)) (s : State) :
    KeepsRecord s (identifyFailed again s) := by
  have counted : KeepsRecord s (countIdentifyFailure s) := .of_bare rfl
  unfold identifyFailed
  dsimp only
  split
  · exact counted.trans (h _)
  · exact counted.trans (giveUp_keepsRecord _ _ _)

theorem identifyRejected_keepsRecord (status : DriveStatus) (s : State) :
    KeepsRecord s (identifyRejected status s) := by
  have again : KeepsRecord s (identifyFailed startIdentify s) := identifyFailed_keepsRecord (fun _ => .of_frame) s
  cases status with
  | good => exact .refl s
  | partialDone => exact again
  | media => exact again
  | other => exact giveUp_keepsRecord _ _ s

theorem identifyExpired_keepsRecord (s : State) : KeepsRecord s (identifyExpired s) := by
  unfold identifyExpired
  split
  · exact identifyFailed_keepsRecord beginReset_keepsRecord s
  · exact .refl s

theorem acceptSegment_keepsRecord (slot entry offset length : Nat) (op : Op) (status : DriveStatus) (done : Nat)
    (blocks : List (List Byte)) (s : State) :
    KeepsRecord s (acceptSegment slot entry offset length op status done blocks s) := by
  have taken : KeepsRecord s (takeCompletion entry slot offset length (classOf op status done length) done blocks
      (raiseMedia status (s.freeSlot slot))) := .of_frame
  exact taken.trans (conclude_keepsRecord s _)

theorem acceptOperation_keepsOwnership (slot : Nat) (op : BlockOp) (status : DriveStatus) (done : Nat)
    (block : List Byte) (s : State) : KeepsOwnership s (acceptOperation slot op status done block s) := by
  have freed : KeepsRecord s (raiseMedia status (s.freeSlot slot)) := .of_frame
  have loaded (u : State) (m : Memory) : KeepsRecord u { u with mem := m } := .of_bare rfl
  unfold acceptOperation
  dsimp only
  split
  · refine freed.toKeepsOwnership.trans <| .trans ?_ (operationSucceeded_keepsOwnership op _)
    split
    · exact (loaded _ _).toKeepsOwnership
    · exact .refl _
  · exact (freed.trans (operationFailed_keepsRecord op _)).toKeepsOwnership

theorem takeReadyRecord_keepsOwnership (slot : Nat) (status : DriveStatus) (done : Nat) (blocks : List (List Byte))
    (s : State) : KeepsOwnership s (takeReadyRecord slot status done blocks s) := by
  have violation := (giveUp_keepsRecord .halted .violation s).toKeepsOwnership
  unfold takeReadyRecord
  split
  · exact violation
  · split
    · split
      · exact (acceptSegment_keepsRecord _ _ _ _ _ _ _ _ s).toKeepsOwnership
      · exact acceptOperation_keepsOwnership _ _ _ _ _ s
      · exact violation
    · exact violation

theorem takeRecord_keepsOwnership (slot : Nat) (status : DriveStatus) (done : Nat) (blocks : List (List Byte))
    (s : State) : KeepsOwnership s (takeRecord slot status done blocks s) := by
  unfold takeRecord
  split
  case h_1 => exact takeReadyRecord_keepsOwnership _ _ _ _ s
  case h_2 =>
    split
    · exact (identifyRejected_keepsRecord _ s).toKeepsOwnership
    · exact .refl s
  all_goals exact .refl s

theorem takeReservedRecord_keepsOwnership (status : DriveStatus) (done : Nat) (block : List Byte) (s : State) :
    KeepsOwnership s (takeReservedRecord status done block s) := by
  unfold takeReservedRecord
  split
  · exact .refl s
  · exact takeRecord_keepsOwnership _ _ _ _ s

theorem takeIdentifyRecord_keepsOwnership (status : DriveStatus) (done : Nat) (i : Identity) (s : State) :
    KeepsOwnership s (takeIdentifyRecord status done i s) := by
  have freed : KeepsRecord s (s.freeSlot 0) := .of_bare rfl
  unfold takeIdentifyRecord
  split
  · exact (freed.trans (judgeIdentify_keepsRecord i _)).toKeepsOwnership
  · exact takeRecord_keepsOwnership _ _ _ _ s

theorem slotExpired_keepsRecord (slot : Nat) (s : State) : KeepsRecord s (slotExpired slot s) := by
  unfold slotExpired
  split
  case h_1 =>
    split
    · exact beginReset_keepsRecord s
    · exact .refl s
  case h_2 =>
    split
    · exact identifyExpired_keepsRecord s
    · exact .refl s
  all_goals exact .refl s

theorem takeReadyIndication_keepsRecord (s : State) : KeepsRecord s (takeReadyIndication s) := by
  unfold takeReadyIndication
  split
  · exact .of_bare rfl
  · exact .refl s

theorem resetExpired_keepsRecord (s : State) : KeepsRecord s (resetExpired s) := by
  unfold resetExpired
  split
  · exact giveUp_keepsRecord _ _ s
  · exact .refl s

theorem presentFalls_keepsRecord (s : State) : KeepsRecord s (presentFalls s) := by
  have low (d : Dpt) : KeepsRecord s { s with dpt := d } := .of_bare rfl
  unfold presentFalls
  dsimp only
  split
  · exact low _
  · exact (low _).trans (giveUp_keepsRecord _ _ _)

theorem presentRises_keepsRecord (s : State) : KeepsRecord s (presentRises s) := by
  unfold presentRises
  dsimp only
  split <;> exact .of_bare rfl

end Sys2Proof.Machine
end

section
/-! The ownership relations (R40 to R43): link events, resets, heads taken and timers keep them, and so does every step. -/

namespace Sys2Proof.Machine

set_option Elab.async false

/-! ## Inbound frames -/

theorem onPif_keepsRecord (p : Path) (f : Pif → Pif) (s : State) : KeepsRecord s (s.onPif p f) :=
  .of_bare rfl

theorem onHmon_keepsRecord (p : Path) (f : Hmon → Hmon) (s : State) : KeepsRecord s (s.onHmon p f) :=
  .of_bare rfl

theorem offer_keepsRecord (p : Path) (producer : Producer) (frame : OutFrame) (s : State) :
    KeepsRecord s (s.offer p producer frame) :=
  .of_bare rfl

theorem takeWriteData_keepsRecord (p : Path) (tag offset : Word) (data : List Byte) (s : State) :
    KeepsRecord s (takeWriteData p tag offset data s) := by
  have taken (e : Entry) : KeepsRecord s (takeBlock e offset.toNat data s) := .of_frame
  unfold takeWriteData
  split
  · exact .refl s
  · split
    · exact linkError_keepsRecord p s
    · split
      · exact .refl s
      · exact (taken _).trans (conclude_keepsRecord s _)

theorem routeFrame_keepsRecord (p : Path) (frame : InFrame) (s : State) : KeepsRecord s (routeFrame p frame s) := by
  cases frame with
  | pulse epoch sequence => exact (takePulse_keepsRecord p s).trans (onPif_keepsRecord p _ _)
  | writeData tag offset data => exact takeWriteData_keepsRecord p tag offset data s
  | hold => exact (.of_frame : KeepsRecord s (takeHold p s))
  | go => exact (.of_frame : KeepsRecord s (takeGo p s))
  | queued q => exact (.of_frame : KeepsRecord s (arrive p q s))

theorem frameCompletes_keepsRecord (p : Path) (frame : InFrame) (s : State) :
    KeepsRecord s (frameCompletes p frame s) := by
  unfold frameCompletes
  split
  · exact (onPif_keepsRecord p _ s).trans (routeFrame_keepsRecord p frame _)
  · cases frame with
    | writeData tag offset data => exact takeWriteData_keepsRecord p tag offset data s
    | pulse _ _ | hold | go | queued _ => exact .refl s

theorem discardFrame_keepsRecord (p : Path) (s : State) : KeepsRecord s (discardFrame p s) :=
  (onPif_keepsRecord p _ s).trans (linkError_keepsRecord p _)

theorem completeFrame_keepsRecord (p : Path) (kind : Byte) (length : Nat) (bytes : List Byte) (sum : Word) (s : State) :
    KeepsRecord s (completeFrame p kind length bytes sum s) := by
  unfold completeFrame
  split
  · split
    · exact (onPif_keepsRecord p _ s).trans (routeFrame_keepsRecord p _ _)
    · exact discardFrame_keepsRecord p s
  · exact discardFrame_keepsRecord p s

theorem takeMarked_keepsRecord (p : Path) (byte : Byte) (s : State) : KeepsRecord s (takeMarked p byte s) := by
  unfold takeMarked
  split
  · exact onPif_keepsRecord p _ s
  · exact (discardFrame_keepsRecord p s).trans (onPif_keepsRecord p _ _)
  · exact (discardFrame_keepsRecord p s).trans (onPif_keepsRecord p _ _)

theorem takeUnmarked_keepsRecord (p : Path) (byte : Byte) (s : State) : KeepsRecord s (takeUnmarked p byte s) := by
  unfold takeUnmarked
  split
  · exact .refl s
  · exact onPif_keepsRecord p _ s
  · unfold takeLength
    dsimp only
    split
    · exact discardFrame_keepsRecord p s
    · exact onPif_keepsRecord p _ s
  · unfold takeBody
    split
    · exact onPif_keepsRecord p _ s
    · split
      · exact onPif_keepsRecord p _ s
      · exact completeFrame_keepsRecord p _ _ _ _ s

theorem takeCharacter_keepsRecord (p : Path) (marked : Bool) (byte : Byte) (s : State) :
    KeepsRecord s (takeCharacter p marked byte s) := by
  unfold takeCharacter
  split
  · split
    · exact takeMarked_keepsRecord p byte s
    · exact takeUnmarked_keepsRecord p byte s
  · exact .refl s

theorem takeCharacterIf_keepsRecord (due : Assembler → Bool) (p : Path) (marked : Bool) (byte : Byte) (s : State) :
    KeepsRecord s (takeCharacterIf due p marked byte s) := by
  unfold takeCharacterIf
  split
  · exact takeCharacter_keepsRecord p marked byte s
  · exact .refl s

theorem gapExpired_keepsRecord (p : Path) (s : State) : KeepsRecord s (gapExpired p s) := by
  unfold gapExpired
  split
  · exact discardFrame_keepsRecord p s
  · exact .refl s

theorem enterWaiting_keepsRecord (p : Path) (s : State) : KeepsRecord s (enterWaiting p s) :=
  .of_frame

theorem frameSent_keepsRecord (p : Path) (s : State) : KeepsRecord s (frameSent p s) := by
  have reported (tie : Tie) (u : State) : KeepsRecord u (reportTransmitted tie u) := .of_frame
  unfold frameSent
  split
  · exact .refl s
  · exact (onPif_keepsRecord p _ s).trans <| (enterWaiting_keepsRecord p _).trans <|
      (onPif_keepsRecord p _ _).trans <| (reported _ _).trans (conclude_keepsRecord s _)

/-! ## Resets and carrier -/

/-- Power-on and pin reset bring the relations about (R67, R157). -/
theorem ownershipInv_powerUp (cause : ResetCause) (present : Bool) (s : State) :
    OwnershipInv (powerUp cause present s) := by
  have cleared : OwnershipInv (clearAll cause present s) := ownershipInv_reset
  have started : KeepsRecord (clearAll cause present s) (startIdentify (clearAll cause present s)) := .of_bare rfl
  unfold powerUp
  dsimp only
  split
  · exact started.inv cleared
  · exact ((enterFrozen_keepsRecord .drive _).trans (raiseBoth_keepsRecord .driveFailed _)).inv cleared

theorem softResetDrive_keepsRecord (s : State) : KeepsRecord s (softResetDrive s) := by
  have cleared : KeepsRecord s { s with dpt := s.dpt.softClear } := .of_bare rfl
  have reset := cleared.trans (beginReset_keepsRecord _)
  unfold softResetDrive
  dsimp only
  split
  case h_1 => exact cleared.trans (enterFrozen_keepsRecord _ _)
  case h_2 => exact cleared
  all_goals exact reset

theorem softReset_keepsRecord (s : State) : KeepsRecord s (softReset s) := by
  have links : KeepsRecord s (softResetLinks s) := .of_frame
  have worked (t : State) : KeepsRecord t (softResetWork t) := .of_frame
  have recorded (t : State) (f : Fnu) : KeepsRecord t { t with fnu := f } := .of_bare rfl
  have driven := links.trans <| (worked _).trans <| (enterLoading_keepsRecord _).trans <| softResetDrive_keepsRecord _
  unfold softReset
  dsimp only
  split
  · exact driven.trans <| (recorded _ _).trans (raiseBoth_keepsRecord _ _)
  · exact driven.trans (recorded _ _)

theorem carrierLost_keepsRecord (p : Path) (s : State) : KeepsRecord s (carrierLost p s) := by
  have lost (t : State) : KeepsRecord t (healthLost p t) := by
    unfold healthLost
    dsimp only
    split
    · exact onHmon_keepsRecord p _ t
    · exact (onHmon_keepsRecord p _ t).trans (reportHealth_keepsRecord p _ _ _)
  have cut (t : State) : KeepsRecord t (cutEntries p t) := .of_frame
  unfold carrierLost
  split
  · exact (onPif_keepsRecord p _ s).trans <| (lost _).trans <| (cut _).trans (conclude_keepsRecord s _)
  · exact .refl s

theorem carrierBack_keepsRecord (p : Path) (s : State) : KeepsRecord s (carrierBack p s) := by
  unfold carrierBack
  split
  · exact .refl s
  · exact (onPif_keepsRecord p _ s).trans <| (onHmon_keepsRecord p _ _).trans (reevaluate_keepsRecord p _)

/-! ## Heads taken -/

/-- Taking a head either does nothing or decides a frame, which has left the queue (R11). -/
theorem takeHead_cases (p : Path) (decision : QueuedFrame → Option (State → State)) (s : State) :
    takeHead p decision s = s ∨
      ∃ head act, decision head = some act ∧ takeHead p decision s = act (removeHead p s) := by
  unfold takeHead
  split
  · split
    · exact .inl rfl
    · next head _ _ =>
      split
      · next act decided => exact .inr ⟨head, act, decided, rfl⟩
      · exact .inl rfl
  · exact .inl rfl

theorem removeHead_keepsRecord (p : Path) (s : State) : KeepsRecord s (removeHead p s) :=
  .of_bare rfl

theorem takeHead_keepsRecord {p : Path} {decision : QueuedFrame → Option (State → State)} (s : State)
    (h : ∀ head act t, decision head = some act → KeepsRecord t (act t)) : KeepsRecord s (takeHead p decision s) := by
  rcases takeHead_cases p decision s with same | ⟨head, act, decided, taken⟩
  · rw [same]
    exact .refl s
  · rw [taken]
    exact (removeHead_keepsRecord p s).trans (h head act _ decided)

theorem commandRow_keepsRecord (p : Path) (test : Byte → Byte → Bool) (s : State) :
    KeepsRecord s (takeHead p (commandWhere p test) s) := by
  have accepted (c : CommandFields) (op : Op) (slot : Nat) (t : State) : KeepsRecord t (acceptCommand p c op slot t) := by
    have added (e : Entry) : KeepsRecord t (addEntry e t) := .of_bare rfl
    have reported (u : State) : KeepsRecord u (reportSlot slot u) := .of_frame
    have granted (u : State) : KeepsRecord u (walkGrants u) := .of_frame
    unfold acceptCommand
    dsimp only
    refine .trans ?_ <| (reported _).trans <| (checkDrainEnd_keepsRecord _).trans (granted _)
    split
    · exact (added _).trans (offer_keepsRecord p _ _ _)
    · exact added _
  refine takeHead_keepsRecord s fun head act t decided => ?_
  unfold commandWhere at decided
  split at decided
  · obtain ⟨_, ⟨⟩⟩ := Option.ite_none_right_eq_some.1 decided
    unfold decideCommand
    split
    · exact offer_keepsRecord p _ _ t
    · split
      · exact accepted _ _ _ t
      · exact .refl t
  · cases decided

/-! ## Control frames -/

/-- A claim that R46 accepts comes from a path that is not FENCED, in UNOWNED. -/
theorem judgeClaim_accepted {s : State} {p : Path} {c : ClaimFields} (h : judgeClaim s p c = .accepted) :
    s.role p ≠ .fenced ∧ s.owc.state = .unowned := by
  unfold judgeClaim at h
  split_ifs at h with _ fenced
  refine ⟨fenced, ?_⟩
  unfold judgeClaimState at h
  split at h
  case h_1 state => exact state
  case h_2 | h_3 => unfold judgeClaimOwned at h; split_ifs at h
  case h_6 => unfold judgeClaimFrozen at h; split_ifs at h
  all_goals cases h

/-- A forced claim is accepted in OWNED or GRACE (R47). -/
theorem judgeClaim_forced {s : State} {p owner : Path} {c : ClaimFields} (h : judgeClaim s p c = .forced owner) :
    s.owc.state = .owned ∨ s.owc.state = .grace := by
  unfold judgeClaim at h
  split_ifs at h
  unfold judgeClaimState at h
  split at h
  case h_2 state => exact .inl state
  case h_3 state => exact .inr state
  case h_6 => unfold judgeClaimFrozen at h; split_ifs at h
  all_goals cases h

/-- An override claim is accepted from a path that is not FENCED, in FROZEN (R48). -/
theorem judgeClaim_overridden {s : State} {p : Path} {epoch : Word} {c : ClaimFields}
    (h : judgeClaim s p c = .overridden epoch) : s.role p ≠ .fenced ∧ s.owc.state = .frozen := by
  unfold judgeClaim at h
  split_ifs at h with _ fenced
  refine ⟨fenced, ?_⟩
  unfold judgeClaimState at h
  split at h
  case h_2 | h_3 => unfold judgeClaimOwned at h; split_ifs at h
  case h_6 state => exact state
  all_goals cases h

theorem admAnswer_keepsRecord (p : Path) (tag : Word) (status : Status) (s : State) :
    KeepsRecord s (admAnswer p tag status s) :=
  .of_frame

theorem oweReply_keepsRecord (p : Path) (tag : Word) (purpose : Purpose) (s : State) :
    KeepsRecord s (oweReply p tag purpose s) :=
  .of_bare rfl

/-- At an accepted claim the record stands in COMMITTING, with no transition under way yet (R46, R48). -/
theorem claimBy_keepsRecord {p : Path} {s : State} (unfenced : s.role p ≠ .fenced) (state : s.owc.state ≠ .committing) :
    KeepsRecord s (refreshRoles { s with owc := s.owc.claimBy p }) := by
  refine keepsRecord_refreshRoles (fun inv => ?_) (fun _ => id) (.refl s)
  have quiet : NoTransition { s with owc := s.owc.claimBy p } := (inv.noTransition state).congr rfl rfl rfl
  refine .of_unowned rfl (quiet.commitSound fun _ q next => ?_) (by simp [Owc.claimBy]) (by simp [Owc.claimBy])
  cases next
  exact unfenced

theorem acceptClaim_keepsRecord {p : Path} {tag : Word} {s : State} (unfenced : s.role p ≠ .fenced)
    (state : s.owc.state ≠ .committing) : KeepsRecord s (acceptClaim p tag s) := by
  have claimed := (claimBy_keepsRecord unfenced state).trans (oweReply_keepsRecord p tag .claim _)
  exact claimed.beginTransition (by decide) rfl fun inv => (inv.noTransition state).congr rfl rfl rfl

theorem acceptOverride_keepsRecord {p : Path} {tag epoch : Word} {s : State} (unfenced : s.role p ≠ .fenced)
    (state : s.owc.state ≠ .committing) : KeepsRecord s (acceptOverride p tag epoch s) := by
  refine (claimBy_keepsRecord unfenced state).trans <| (oweReply_keepsRecord p tag .override _).trans <|
    beginCommit_keepsRecord fun _ _ => ⟨rfl, fun q owner => ?_⟩
  cases owner
  exact (refreshRoles_fenced_iff p _).not.2 unfenced

theorem decideClaim_keepsRecord (p : Path) (c : ClaimFields) (s : State) : KeepsRecord s (decideClaim p c s) := by
  unfold decideClaim
  split
  · exact admAnswer_keepsRecord p _ _ s
  · next accepted =>
    obtain ⟨unfenced, state⟩ := judgeClaim_accepted accepted
    exact acceptClaim_keepsRecord unfenced (by simp [state])
  · next owner forced =>
    have state : s.owc.state ≠ .committing := by rcases judgeClaim_forced forced with h | h <;> simp [h]
    exact (oweReply_keepsRecord p _ .forced s).trans (beginFencedDrain_keepsRecord state)
  · next overridden =>
    obtain ⟨unfenced, state⟩ := judgeClaim_overridden overridden
    exact acceptOverride_keepsRecord unfenced (by simp [state])

theorem claimRow_keepsRecord (p : Path) (test : Byte → Bool) (s : State) :
    KeepsRecord s (takeHead p (claimWhere p test) s) := by
  refine takeHead_keepsRecord s fun head act t decided => ?_
  unfold claimWhere at decided
  split at decided
  · obtain ⟨_, ⟨⟩⟩ := Option.ite_none_right_eq_some.1 decided
    exact decideClaim_keepsRecord p _ t
  · cases decided

/-- A RELEASE is accepted in OWNED, from the owner (R49). -/
theorem judgeRelease_eq_none {s : State} {p : Path} {epoch : Word} (h : judgeRelease s p epoch = none) :
    s.owc.state = .owned ∧ s.owc.owner = some p := by
  unfold judgeRelease at h
  split_ifs at h with _ _ held
  exact held

theorem decideRelease_keepsRecord (p : Path) (tag epoch : Word) (flags : Byte) (s : State) :
    KeepsRecord s (decideRelease p tag epoch flags s) := by
  unfold decideRelease
  split
  · exact admAnswer_keepsRecord p _ _ s
  · next accepted =>
    obtain ⟨state, _⟩ := judgeRelease_eq_none accepted
    have notCommitting (u : State) (h : u.owc.state = s.owc.state) : u.owc.state ≠ .committing := by simp [h, state]
    unfold acceptRelease
    split
    · exact (oweReply_keepsRecord p tag .handover s).trans (beginReleaseDrain_keepsRecord (notCommitting _ rfl))
    · exact (oweReply_keepsRecord p tag .release s).trans (beginReleaseDrain_keepsRecord (notCommitting _ rfl))

theorem releaseRow_keepsRecord (p : Path) (handover : Bool) (s : State) :
    KeepsRecord s (takeHead p (releaseWhere p handover) s) := by
  refine takeHead_keepsRecord s fun head act t decided => ?_
  unfold releaseWhere at decided
  split at decided
  · obtain ⟨_, ⟨⟩⟩ := Option.ite_none_right_eq_some.1 decided
    exact decideRelease_keepsRecord p _ _ _ t
  · cases decided

theorem acceptPolicyRequest_keepsRecord (p : Path) (tag : Word) (r : PolicyRecord) (s : State) :
    KeepsRecord s (acceptPolicyRequest p tag r s) := by
  have owed : KeepsRecord s (oweReply p tag .policy { s with owc := { s.owc with pendingPolicy := some r } }) :=
    .of_bare rfl
  unfold acceptPolicyRequest
  exact owed.trans (beginCommit_keepsRecord fun _ other => absurd rfl other)

theorem policyRow_keepsRecord (p : Path) (s : State) : KeepsRecord s (takeHead p (policyHead p) s) := by
  refine takeHead_keepsRecord s fun head act t decided => ?_
  unfold policyHead at decided
  split at decided
  · cases decided
    unfold decidePolicy
    split
    · exact admAnswer_keepsRecord p _ _ t
    · split
      · exact admAnswer_keepsRecord p _ _ t
      · exact acceptPolicyRequest_keepsRecord p _ _ t
  · cases decided

/-! ## Frames for the Fault and Notice Unit -/

theorem withRoom_keepsRecord {p : Path} {act : State → State} (s : State) (h : KeepsRecord s (act s)) :
    KeepsRecord s (withRoom p act s) := by
  unfold withRoom
  split
  · exact h
  · exact .refl s

theorem inspectSetRow_keepsRecord (p : Path) (s : State) : KeepsRecord s (takeHead p (inspectSetHead p) s) := by
  refine takeHead_keepsRecord s fun head act t decided => ?_
  unfold inspectSetHead at decided
  split at decided
  · obtain ⟨_, ⟨⟩⟩ := Option.ite_none_right_eq_some.1 decided
    exact withRoom_keepsRecord t .of_frame
  · cases decided

theorem inspectNextRow_keepsRecord (p : Path) (s : State) : KeepsRecord s (takeHead p (inspectNextHead p) s) := by
  refine takeHead_keepsRecord s fun head act t decided => ?_
  unfold inspectNextHead at decided
  split at decided
  · obtain ⟨_, ⟨⟩⟩ := Option.ite_none_right_eq_some.1 decided
    exact withRoom_keepsRecord t .of_frame
  · cases decided

theorem inspectBadRow_keepsRecord (p : Path) (s : State) : KeepsRecord s (takeHead p (inspectBadHead p) s) := by
  refine takeHead_keepsRecord s fun head act t decided => ?_
  unfold inspectBadHead at decided
  split at decided
  · obtain ⟨_, ⟨⟩⟩ := Option.ite_none_left_eq_some.1 decided
    exact withRoom_keepsRecord t .of_frame
  · cases decided

theorem clearFlagsRow_keepsRecord (p : Path) (s : State) : KeepsRecord s (takeHead p (clearFlagsHead p) s) := by
  refine takeHead_keepsRecord s fun head act t decided => ?_
  unfold clearFlagsHead at decided
  split at decided
  · obtain ⟨_, ⟨⟩⟩ := Option.ite_none_right_eq_some.1 decided
    exact withRoom_keepsRecord t .of_frame
  · cases decided

theorem clearOrphansRow_keepsRecord (p : Path) (s : State) : KeepsRecord s (takeHead p (clearOrphansHead p) s) := by
  refine takeHead_keepsRecord s fun head act t decided => ?_
  unfold clearOrphansHead at decided
  split at decided
  · obtain ⟨_, ⟨⟩⟩ := Option.ite_none_right_eq_some.1 decided
    exact withRoom_keepsRecord t .of_frame
  · cases decided

theorem clearBadRow_keepsRecord (p : Path) (s : State) : KeepsRecord s (takeHead p (clearBadHead p) s) := by
  refine takeHead_keepsRecord s fun head act t decided => ?_
  unfold clearBadHead at decided
  split at decided
  · obtain ⟨_, ⟨⟩⟩ := Option.ite_none_left_eq_some.1 decided
    exact withRoom_keepsRecord t .of_frame
  · cases decided

theorem notifyMaskRow_keepsRecord (p : Path) (s : State) : KeepsRecord s (takeHead p (notifyMaskHead p) s) := by
  refine takeHead_keepsRecord s fun head act t decided => ?_
  unfold notifyMaskHead at decided
  split at decided
  · cases decided
    exact withRoom_keepsRecord t .of_frame
  · cases decided

theorem deviceResetRow_keepsRecord (p : Path) (s : State) : KeepsRecord s (takeHead p (deviceResetHead p) s) := by
  refine takeHead_keepsRecord s fun head act t decided => ?_
  have deciding (d : Option (Path × Word)) (u : State) : KeepsRecord u (setDeciding d u) := .of_bare rfl
  unfold deviceResetHead at decided
  split at decided
  · next tag epoch =>
    cases decided
    refine .trans (deciding (some (p, tag)) t) (.trans ?_ (deciding none _))
    split
    · exact withRoom_keepsRecord _ .of_frame
    · exact softReset_keepsRecord _
  · cases decided

/-! ## REJOIN -/

/-- A path readmitted is not FENCED, and the other path's role keeps (R50). -/
theorem setRole_nonOwner_fenced {policy : PolicyRecord} {p q : Path} {s : State}
    (h : (setRole p (nonOwnerRole policy) s).role q = .fenced) : q ≠ p ∧ s.role q = .fenced := by
  change (s.owc.roles.set p (nonOwnerRole policy)).get q = .fenced at h
  rw [Both.get_set] at h
  split_ifs at h with same
  · unfold nonOwnerRole at h
    split_ifs at h
  · exact ⟨same, h⟩

theorem readmit_inv {p : Path} {s : State} (inv : OwnershipInv s) : OwnershipInv (readmit p s) := by
  have unfenced {q : Path} (h : s.role q ≠ .fenced) : (setRole p (nonOwnerRole s.owc.policy) s).role q ≠ .fenced :=
    fun fenced => h (setRole_nonOwner_fenced fenced).2
  obtain ⟨named, owner, flight, waiting, successor⟩ := inv.recordSound
  refine RecordSound.refreshRoles ⟨named, fun q held => unfenced (owner q held), fun c purpose contents held other => ?_,
    waiting, fun state q next => unfenced (successor state q next)⟩
  obtain ⟨state, names, quiet⟩ := flight c purpose contents held other
  exact ⟨state, fun q owned => unfenced (names q owned), quiet⟩

theorem readmit_fenced {p q : Path} {s : State} (other : q ≠ p) (h : s.role q = .fenced) :
    (readmit p s).role q = .fenced := by
  refine (refreshRoles_fenced_iff q _).2 ?_
  change (s.owc.roles.set p _).get q = .fenced
  rwa [Both.get_set, if_neg other]

/-! ## Grace, drain timers and the part's own steps -/

theorem windowExpires_keepsRecord (p : Path) (s : State) : KeepsRecord s (windowExpires p s) := by
  have next (u : State) : KeepsRecord u (nextWindow p u) := .of_frame
  unfold windowExpires
  split
  · exact (applyScore_keepsRecord p _ s).trans (next _)
  · exact .refl s

theorem graceExpires_keepsRecord (s : State) : KeepsRecord s (graceExpires s) := by
  unfold graceExpires
  split
  · split
    · next grace => exact beginFencedDrain_keepsRecord (by simp [grace])
    · exact .refl s
  · exact .refl s

theorem State.drainDue_draining {s : State} {stage : DrainStage} {p : Path} (h : s.drainDue stage = some p) :
    s.owc.state = .draining := by
  unfold State.drainDue at h
  obtain ⟨⟨draining, _⟩, _⟩ := Option.ite_none_right_eq_some.1 h
  exact draining

theorem enterStage_owc (stage : DrainStage) (s : State) :
    (enterStage stage s).owc = { s.owc with drainStage := some stage, drainTimer := (startDrainTimer s).owc.drainTimer } :=
  rfl

theorem stage1Expires_keepsRecord (s : State) : KeepsRecord s (stage1Expires s) := by
  unfold stage1Expires
  split
  · next releaser due =>
    have draining := State.drainDue_draining due
    have staged : KeepsRecord s (refreshRoles (enterStage .fenced (fence releaser s))) := by
      refine keepsRecord_refreshRoles (fun inv => ?_) (fun p h => ?_) ⟨?_, ?_, ?_⟩
      · refine .of_draining ((inv.noTransition (by simp [draining])).congr ?_ ?_ ?_) ?_ ?_
        case refine_4 => simpa [enterStage_owc] using inv.unowned (by simp [draining]) (by simp [draining])
        all_goals simp [enterStage_owc, draining]
      · exact fence_fenced h
      all_goals simp [enterStage_owc]
    exact staged.trans (conclude_keepsRecord s _)
  · exact .refl s

/-- The relations rest on the drain stage through the roles alone, which do not tell the later stages apart (R42). -/
theorem enterStage_keepsRecord {s : State} {stage : DrainStage} (late : s.owc.drainStage ≠ some .cooperative)
    (next : stage ≠ .cooperative) : KeepsRecord s (enterStage stage s) where
  inv inv := by
    obtain ⟨named, unfenced, roles, flight, waiting, successor⟩ := inv
    refine ⟨named, unfenced, fun p => ?_, flight, waiting, successor⟩
    refine (roles p).trans ?_
    unfold roleFor
    simp [enterStage_owc, late, next]
  fenced _ := id
  block := .refl s

theorem State.drainDue_stage {s : State} {stage : DrainStage} {p : Path} (h : s.drainDue stage = some p) :
    s.owc.drainStage = some stage := by
  unfold State.drainDue at h
  obtain ⟨⟨_, held, _⟩, _⟩ := Option.ite_none_right_eq_some.1 h
  exact held

@[simp] theorem refreshRoles_drainStage (s : State) : (refreshRoles s).owc.drainStage = s.owc.drainStage := rfl

@[simp] theorem addHistory_drainStage (r : HistoryRecord) (s : State) :
    (addHistory r s).owc.drainStage = s.owc.drainStage := rfl

/-- The drain stage after a failed attempt: an entry into FROZEN clears it (R63, R86). -/
theorem enterFrozen_drainStage (cause : FrozenCause) (s : State) :
    (enterFrozen cause s).owc.drainStage = s.owc.drainStage ∨ (enterFrozen cause s).owc.drainStage = none := by
  unfold enterFrozen
  split
  · exact .inl rfl
  · exact .inr (by simp [Owc.freeze])

theorem operationFailed_drainStage (op : BlockOp) (s : State) :
    (operationFailed op s).owc.drainStage = s.owc.drainStage ∨ (operationFailed op s).owc.drainStage = none := by
  have attempted (op : BlockOp) :
      (attemptFailed op s).owc.drainStage = s.owc.drainStage ∨ (attemptFailed op s).owc.drainStage = none := by
    unfold attemptFailed
    split
    · exact .inl (by simp)
    · cases op with
      | load => exact .inr (by simp [loadBad, Owc.freeze])
      | commit => exact enterFrozen_drainStage .commitFailed s
  unfold operationFailed
  split
  all_goals
    split
    · exact attempted _
    · exact .inl rfl

theorem beginReset_drainStage (s : State) :
    (beginReset s).owc.drainStage = s.owc.drainStage ∨ (beginReset s).owc.drainStage = none := by
  unfold beginReset
  dsimp only
  split
  · next op _ =>
    simpa using operationFailed_drainStage op
      (conclude s (forSlots abortEntry (State.slotsWhere { s with dpt := s.dpt.startReset } fun _ => true)
        { s with dpt := s.dpt.startReset }))
  · exact .inl (by simp)

theorem requestReset_drainStage (s : State) :
    (requestReset s).owc.drainStage = s.owc.drainStage ∨ (requestReset s).owc.drainStage = none := by
  unfold requestReset
  split
  · exact beginReset_drainStage s
  · exact .inl rfl

theorem stage2Expires_keepsRecord (s : State) : KeepsRecord s (stage2Expires s) := by
  unfold stage2Expires
  split
  · next due =>
    have late : (requestReset s).owc.drainStage ≠ some .cooperative := by
      rcases requestReset_drainStage s with same | cleared
      · simp [same, State.drainDue_stage due]
      · simp [cleared]
    dsimp only
    split
    · exact (requestReset_keepsRecord s).trans <| (enterStage_keepsRecord late (by decide)).trans <|
        conclude_keepsRecord _ _
    · exact requestReset_keepsRecord s
  · exact .refl s

theorem stage3Expires_keepsRecord (s : State) : KeepsRecord s (stage3Expires s) := by
  have ended (slots : List Nat) : KeepsRecord s
      (forSlots (decideEnd .driveStall) slots { s with owc := { s.owc with drainTimer := none } }) := .of_frame
  unfold stage3Expires
  split
  · dsimp only
    split
    · exact (ended _).trans <| (conclude_keepsRecord s _).trans (requestReset_keepsRecord _)
    · exact (ended _).trans (conclude_keepsRecord s _)
  · exact .refl s

theorem beginDueLoad_keepsRecord (s : State) : KeepsRecord s (beginDueLoad s) := by
  unfold beginDueLoad
  split
  · exact beginLoad_keepsRecord s
  · exact .refl s

theorem removeDue_keepsRecord (slot : Nat) (s : State) : KeepsRecord s (removeDue slot s) := by
  have reported : KeepsRecord s (reportSlot slot s) := .of_frame
  exact reported.trans <| (checkDrainEnd_keepsRecord _).trans (follow_keepsRecord s _)

/-! ## Every step -/

/-- The commands that clear every role: power-on and the pin (R67). -/
def restarts : Instr → Bool
  | .powerOnReset _ | .pinReset => true
  | _ => false

/-- The commands with which a completion record is taken (R165). -/
def completes : Instr → Bool
  | .pathSlotCompletion .. | .reservedSlotCompletion .. | .identifyCompletion .. => true
  | _ => false

/-- What every command keeps of OWC's record. -/
structure ExecKeeps (c : Instr) (s t : State) : Prop where
  inv : OwnershipInv s → OwnershipInv t
  fenced : restarts c = false → ∀ p, c ≠ .rejoin p → s.role p = .fenced → t.role p = .fenced
  block : restarts c = false → completes c = false → SameBlock s t

theorem KeepsRecord.exec {c : Instr} {s t u : State} (k : KeepsRecord s u)
    (h : (.next u : Host.Outcome State Fault Refusal) = .next t) : ExecKeeps c s t := by
  cases h
  exact ⟨k.inv, fun _ p _ => k.fenced p, fun _ _ => k.block⟩

theorem KeepsOwnership.exec {c : Instr} {s t u : State} (k : KeepsOwnership s u)
    (h : (.next u : Host.Outcome State Fault Refusal) = .next t) (record : completes c = true) : ExecKeeps c s t := by
  cases h
  exact ⟨k.inv, fun _ p _ => k.fenced p, fun _ other => by simp [record] at other⟩

theorem ExecKeeps.of_restart {c : Instr} {s t u : State} (inv : OwnershipInv u)
    (h : (.next u : Host.Outcome State Fault Refusal) = .next t) (restart : restarts c = true) : ExecKeeps c s t := by
  cases h
  exact ⟨fun _ => inv, fun other => by simp [restart] at other, fun other => by simp [restart] at other⟩

/-- A REJOIN keeps the relations and the other path's role (R50). -/
theorem execKeeps_rejoin (p : Path) (s : State) : ExecKeeps (.rejoin p) s (takeHead p (rejoinHead p) s) := by
  rcases takeHead_cases p (rejoinHead p) s with same | ⟨head, act, decided, taken⟩
  · rw [same]
    exact (KeepsRecord.refl s).exec rfl
  · unfold rejoinHead at decided
    split at decided
    · next tag epoch =>
      cases decided
      rw [taken]
      have removed := removeHead_keepsRecord p s
      unfold decideRejoin
      split
      · have answered := admAnswer_keepsRecord p tag (judgeRejoin (removeHead p s) p epoch).1 (readmit p (removeHead p s))
        refine ⟨fun inv => answered.inv (readmit_inv (removed.inv inv)), fun _ q other fenced => ?_, fun _ _ => ?_⟩
        · exact answered.fenced q (readmit_fenced (fun same => other (by rw [same])) (removed.fenced q fenced))
        · exact removed.block.trans answered.block
      · exact (removed.trans (admAnswer_keepsRecord p tag _ _)).exec rfl
    · cases decided

theorem exec_keeps {c : Instr} {s t : State} (h : exec c s = .next t) : ExecKeeps c s t := by
  cases c with
  | powerOnReset drivePresent => exact .of_restart (ownershipInv_powerUp .power drivePresent s) h rfl
  | pinReset => exact .of_restart (ownershipInv_powerUp .pin s.dpt.present s) h rfl
  | carrierLoss p => exact (carrierLost_keepsRecord p s).exec h
  | carrierReturn p => exact (carrierBack_keepsRecord p s).exec h
  | truncation p kind => exact (takeCharacterIf_keepsRecord _ p true kind s).exec h
  | overLength p low => exact (takeCharacterIf_keepsRecord _ p false low s).exec h
  | gapTimeout p => exact (gapExpired_keepsRecord p s).exec h
  | checkFailure p low => exact (takeCharacterIf_keepsRecord _ p false low s).exec h
  | unknownKind p low => exact (takeCharacterIf_keepsRecord _ p false low s).exec h
  | pulse p epoch sequence => exact (frameCompletes_keepsRecord p (.pulse epoch sequence) s).exec h
  | hold p => exact (frameCompletes_keepsRecord p .hold s).exec h
  | go p => exact (frameCompletes_keepsRecord p .go s).exec h
  | writeData p tag offset data => exact (frameCompletes_keepsRecord p (.writeData tag offset data) s).exec h
  | receiveQueueArrival p frame => exact (frameCompletes_keepsRecord p (.queued frame) s).exec h
  | commandRead p | commandWrite p | commandWritePosted p | commandFlush p | commandBadOp p =>
    exact (commandRow_keepsRecord p _ s).exec h
  | claim p | forcedClaim p | overrideClaim p => exact (claimRow_keepsRecord p _ s).exec h
  | release p => exact (releaseRow_keepsRecord p false s).exec h
  | releaseHandover p => exact (releaseRow_keepsRecord p true s).exec h
  | rejoin p =>
    cases h
    exact execKeeps_rejoin p s
  | policy p => exact (policyRow_keepsRecord p s).exec h
  | inspectSet p => exact (inspectSetRow_keepsRecord p s).exec h
  | inspectNext p => exact (inspectNextRow_keepsRecord p s).exec h
  | clearFaultFlags p => exact (clearFlagsRow_keepsRecord p s).exec h
  | clearOrphanList p => exact (clearOrphansRow_keepsRecord p s).exec h
  | notifyMask p => exact (notifyMaskRow_keepsRecord p s).exec h
  | deviceReset p => exact (deviceResetRow_keepsRecord p s).exec h
  | waitingFrameEntry p => exact ((enterWaiting_keepsRecord p s).trans (conclude_keepsRecord s _)).exec h
  | frameTransmitted p => exact (frameSent_keepsRecord p s).exec h
  | readDataOffer p => exact (.of_frame : KeepsRecord s (offerReadData p s)).exec h
  | pulseWindowExpiry p => exact (windowExpires_keepsRecord p s).exec h
  | graceExpiry => exact (graceExpires_keepsRecord s).exec h
  | drainStage1Expiry => exact (stage1Expires_keepsRecord s).exec h
  | drainStage2Expiry => exact (stage2Expires_keepsRecord s).exec h
  | drainStage3Expiry => exact (stage3Expires_keepsRecord s).exec h
  | drainEnd => exact (checkDrainEnd_keepsRecord s).exec h
  | waitingTransition => exact (beginWaiting_keepsRecord s).exec h
  | loadBegin => exact (beginDueLoad_keepsRecord s).exec h
  | reservedOperationIssue => exact (.of_frame : KeepsRecord s (issueReserved s)).exec h
  | segmentIssue => exact (.of_frame : KeepsRecord s (runArbiter s)).exec h
  | readGrant => exact (.of_frame : KeepsRecord s (runArbiter (walkGrants s))).exec h
  | pathSlotCompletion slot status done blocks =>
    exact (takeRecord_keepsOwnership slot status done.toNat blocks s).exec h rfl
  | entryRemoval slot => exact (removeDue_keepsRecord slot s).exec h
  | reservedSlotCompletion status done block =>
    exact (takeReservedRecord_keepsOwnership status done.toNat block s).exec h rfl
  | identifyCompletion status done capacity blockSize depth =>
    exact (takeIdentifyRecord_keepsOwnership status done.toNat _ s).exec h rfl
  | identifyTimeout => exact (identifyExpired_keepsRecord s).exec h
  | slotTimeout slot => exact (slotExpired_keepsRecord slot s).exec h
  | readyIndication => exact (takeReadyIndication_keepsRecord s).exec h
  | resetTimeout => exact (resetExpired_keepsRecord s).exec h
  | drvPresentFall => exact (presentFalls_keepsRecord s).exec h
  | drvPresentRise => exact (presentRises_keepsRecord s).exec h
  | linkCharacter p marked byte => exact (takeCharacter_keepsRecord p marked byte s).exec h
  | inspectBadMode p => exact (inspectBadRow_keepsRecord p s).exec h
  | clearBadTarget p => exact (clearBadRow_keepsRecord p s).exec h

theorem step_keepsOwnershipInv {s t : State} (h : step s = .next t) (inv : OwnershipInv s) : OwnershipInv t := by
  unfold step at h
  split at h
  · cases h
    exact inv
  · next c rest _ =>
    have queued : KeepsRecord s (s.withPending rest) := .of_bare rfl
    exact (exec_keeps h).inv (queued.inv inv)

/-! ## What the relations say (R41, R42) -/

theorem OwnershipInv.role_eq {s : State} (inv : OwnershipInv s) (p : Path) : s.role p = roleFor s.owc p := by
  obtain ⟨_, _, roles, _⟩ := inv
  exact roles p

/-- The path that the record names is the only one whose role is OWNER. -/
theorem OwnershipInv.role_owner_iff {s : State} (inv : OwnershipInv s) (p : Path) :
    s.role p = .owner ↔ s.owc.owner = some p := by
  have ⟨named, unfenced, _⟩ := inv
  refine ⟨fun role => ?_, fun owner => ?_⟩
  · rw [inv.role_eq p] at role
    unfold roleFor nonOwnerRole at role
    split_ifs at role with _ owned
    exact owned.2
  · have state : s.owc.state = .owned ∨ s.owc.state = .grace := named.1 (by simp [owner])
    have clear : s.owc.roles.get p ≠ .fenced := unfenced p owner
    rw [inv.role_eq p, roleFor, if_neg clear, if_pos ⟨state, owner⟩]

/-- A RELEASING path is releasing in DRAINING. -/
theorem roleFor_releasing {o : Owc} {p : Path} (h : roleFor o p = .releasing) : o.state = .draining := by
  unfold roleFor nonOwnerRole at h
  split_ifs at h with _ _ releasing
  exact releasing.1

theorem roleFor_sharer {o : Owc} {p : Path} (h : roleFor o p = .sharer) : shareReads o.policy = true := by
  unfold roleFor nonOwnerRole at h
  split_ifs at h with _ _ _ shares
  exact shares

theorem roleFor_standby {o : Owc} {p : Path} (h : roleFor o p = .standby) : shareReads o.policy = false := by
  unfold roleFor nonOwnerRole at h
  split_ifs at h with _ _ _ shares
  exact Bool.eq_false_iff.2 shares

/-- Settles O6: every command keeps the relations, which name the roles through R42's list. -/
theorem stepKeepsOwnership : Obligations.StepKeepsOwnership := by
  refine ⟨fun s t inv h => step_keepsOwnershipInv h inv, fun s inv => ?_⟩
  have ⟨named, _⟩ := inv
  exact ⟨named, inv.role_owner_iff, fun p h => roleFor_releasing (inv.role_eq p ▸ h),
    fun p h => roleFor_sharer (inv.role_eq p ▸ h), fun p h => roleFor_standby (inv.role_eq p ▸ h)⟩

theorem restarts_eq_false {c : Instr} (power : ∀ present, c ≠ .powerOnReset present) (pin : c ≠ .pinReset) :
    restarts c = false := by
  unfold restarts
  split
  · exact absurd rfl (power _)
  · exact absurd rfl pin
  · rfl

/-- Settles O10: only a REJOIN of its own and the resets that clear every role end the FENCED role of a path. -/
theorem fencedUntilRejoin : Obligations.FencedUntilRejoin :=
  fun _ _ _ p fenced h rejoin pin power => (exec_keeps h).fenced (restarts_eq_false power pin) p rejoin fenced

/-- Settles O11: only what a completion record brings about changes the block's own fields. -/
theorem blockFieldsChangeAtCompletions : Obligations.BlockFieldsChangeAtCompletions := by
  intro c s t h power pin path reserved identify
  refine (exec_keeps h).block (restarts_eq_false power pin) ?_
  unfold completes
  split
  · exact absurd rfl (path _ _ _ _)
  · exact absurd rfl (reserved _ _ _)
  · exact absurd rfl (identify _ _ _ _ _)
  · rfl

end Sys2Proof.Machine
end

section
/-! Control frames (R44 to R53): what each is answered with, and the commits that they begin. -/

namespace Sys2Proof.Machine

set_option Elab.async false

/-! ## The head that a command takes -/

/-- The head that the arbiter offers leaves its queue, and its decision is carried out (R11, R96). -/
theorem TakesHead.takeHead_eq {s : State} {p : Path} {frame : QueuedFrame}
    {decision : QueuedFrame → Option (State → State)} {act : State → State} (h : TakesHead s p frame)
    (decided : decision frame = some act) : takeHead p decision s = act (removeHead p s) := by
  obtain ⟨chosen, head⟩ := h
  obtain ⟨rest, queue⟩ := List.head?_eq_some_iff.1 head
  simp [takeHead, chosen, queue, decided]

theorem claimWhere_claim (p : Path) {test : Byte → Bool} {tag epoch f : Word} {flags : Byte} (h : test flags = true) :
    claimWhere p test (.claim tag epoch flags f) =
      some (decideClaim p { tag := tag, epoch := epoch, flags := flags, overrideEpoch := f }) :=
  if_pos h

theorem releaseWhere_release (p : Path) {handover : Bool} {tag epoch : Word} {flags : Byte}
    (h : flagBit0 flags = handover) :
    releaseWhere p handover (.release tag epoch flags) = some (decideRelease p tag epoch flags) :=
  if_pos h

/-- Each of the three CLAIM rows decides a claim that its flags let it take. -/
theorem ClaimRow.exec_eq {s : State} {p : Path} {tag epoch f : Word} {flags : Byte} {i : Instr}
    (row : ClaimRow p flags i) (h : TakesHead s p (.claim tag epoch flags f)) :
    exec i s =
      .next (decideClaim p { tag := tag, epoch := epoch, flags := flags, overrideEpoch := f } (removeHead p s)) := by
  have taken {test : Byte → Bool} (accepts : test flags = true) := h.takeHead_eq (claimWhere_claim p accepts)
  rcases row with ⟨rfl, force, override⟩ | ⟨rfl, force⟩ | ⟨rfl, override⟩
  · exact congrArg Host.Outcome.next (taken (by simp [force, override]))
  · exact congrArg Host.Outcome.next (taken force)
  · exact congrArg Host.Outcome.next (taken override)

theorem exec_releaseRow {s : State} {p : Path} {tag epoch : Word} {flags : Byte}
    (h : TakesHead s p (.release tag epoch flags)) :
    exec (releaseRow p flags) s = .next (decideRelease p tag epoch flags (removeHead p s)) := by
  have taken {handover : Bool} (flag : flagBit0 flags = handover) := h.takeHead_eq (releaseWhere_release p flag)
  unfold releaseRow
  split
  · next flag => exact congrArg Host.Outcome.next (taken flag)
  · next flag => exact congrArg Host.Outcome.next (taken (Bool.eq_false_iff.2 flag))

theorem exec_rejoin {s : State} {p : Path} {tag epoch : Word} (h : TakesHead s p (.rejoin tag epoch)) :
    exec (.rejoin p) s = .next (decideRejoin p tag epoch (removeHead p s)) :=
  congrArg Host.Outcome.next (h.takeHead_eq rfl)

theorem exec_policy {s : State} {p : Path} {tag epoch : Word} {record : PolicyRecord}
    (h : TakesHead s p (.policy tag epoch record)) :
    exec (.policy p) s = .next (decidePolicy p tag epoch record (removeHead p s)) :=
  congrArg Host.Outcome.next (h.takeHead_eq rfl)

theorem removeHead_role (p q : Path) (s : State) : (removeHead p s).role q = s.role q := rfl

/-! ## Commits -/

theorem beginCommit_owc (purpose : Purpose) (c : Contents) (s : State) :
    (beginCommit purpose c s).owc =
      { s.owc with purpose := some purpose, contents := some c, attempt := 1, waitingTransition := none } := by
  simp [beginCommit]

theorem beginCommit_mem (purpose : Purpose) (c : Contents) (s : State) :
    (beginCommit purpose c s).mem = fillOwnershipPage c s.mem := by
  simp [beginCommit]

/-! ## CLAIM -/

/-- Settles O32: each check of R45 to R48 that decides at once gives its answer, and nothing else. -/
theorem claimAnsweredAtOnce : Obligations.ClaimAnsweredAtOnce := by
  intro p s tag epoch f flags i head row answers
  have answered {status : Status}
      (judged : judgeClaim s p { tag := tag, epoch := epoch, flags := flags, overrideEpoch := f } = .answered status) :
      answers status := by
    have same : judgeClaim (removeHead p s) p { tag := tag, epoch := epoch, flags := flags, overrideEpoch := f } =
        .answered status := judged
    change exec i s = _
    rw [row.exec_eq head, decideClaim, same]
    rfl
  refine ⟨fun stale => answered (if_pos stale), ?_⟩
  rintro rfl
  refine ⟨fun fenced => answered ?_, fun unfenced sick => answered ?_, fun unfenced healthy => ?_⟩
  · simp [judgeClaim, fenced]
  · simp [judgeClaim, unfenced, sick]
  have byState {status : Status} (h : judgeClaimState s p
      { tag := tag, epoch := s.owc.epoch, flags := flags, overrideEpoch := f } = .answered status) : answers status := by
    refine answered ?_
    simpa [judgeClaim, unfenced, healthy] using h
  refine ⟨fun state => ?_, fun state => ?_, fun state => ?_⟩
  · have owned {status : Status} (h : judgeClaimOwned s p flags = .answered status) : answers status := by
      refine byState ?_
      rcases state with state | state <;> simpa [judgeClaimState, state] using h
    refine ⟨fun own => owned ?_, fun other force => owned ?_, fun other force allowed => owned ?_⟩
    · simp [judgeClaimOwned, own]
    · simp [judgeClaimOwned, other, force, Path.other_ne]
    · simp [judgeClaimOwned, other, force, allowed, Path.other_ne]
  · refine byState ?_
    rcases state with state | state <;> simp [judgeClaimState, state]
  · refine ⟨fun override => byState ?_, fun override drive => byState ?_, fun override drive stale => byState ?_⟩
    · simp [judgeClaimState, state, judgeClaimFrozen, override]
    · simp [judgeClaimState, state, judgeClaimFrozen, override, drive]
    · simp [judgeClaimState, state, judgeClaimFrozen, override, drive, stale]

theorem judgeClaim_unowned {s : State} {p : Path} {c : ClaimFields} (epoch : c.epoch = s.owc.epoch)
    (unfenced : s.role p ≠ .fenced) (healthy : (s.hmon.get p).health = .healthy) (state : s.owc.state = .unowned) :
    judgeClaim s p c = .accepted := by
  simp [judgeClaim, judgeClaimState, epoch, unfenced, healthy, state]

theorem judgeClaim_override {s : State} {p : Path} {c : ClaimFields} (epoch : c.epoch = s.owc.epoch)
    (unfenced : s.role p ≠ .fenced) (healthy : (s.hmon.get p).health = .healthy) (state : s.owc.state = .frozen)
    (override : flagBit1 c.flags = true) (drive : s.dpt.state = .ready) (zero : c.overrideEpoch ≠ 0#16)
    (stale : c.overrideEpoch ≠ s.owc.epoch) : judgeClaim s p c = .overridden c.overrideEpoch := by
  simp [judgeClaim, judgeClaimState, judgeClaimFrozen, epoch, unfenced, healthy, state, override, drive, zero, stale]

/-- In COMMITTING no path is OWNER (R41, R42). -/
theorem roleFor_ne_owner {o : Owc} (p : Path) (state : o.state = .committing) : roleFor o p ≠ .owner := by
  unfold roleFor nonOwnerRole
  split_ifs <;> simp_all

/-- The record at an accepted claim, its reply owed (R46, R48). -/
def claimed (p : Path) (tag : Word) (purpose : Purpose) (s : State) : State :=
  oweReply p tag purpose (refreshRoles { s with owc := s.owc.claimBy p })

theorem claimed_owc (p : Path) (tag : Word) (purpose : Purpose) (s : State) :
    (claimed p tag purpose s).owc =
      { s.owc with
        state := .committing, owner := none, successor := some (some p), frozenCause := none
        roles := { a := roleFor (s.owc.claimBy p) .a, b := roleFor (s.owc.claimBy p) .b }
        owedReplies := s.owc.owedReplies ++ [{ path := p, tag := tag, purpose := purpose }] } :=
  rfl

theorem claimed_role (p q : Path) (tag : Word) (purpose : Purpose) (s : State) :
    (claimed p tag purpose s).role q ≠ .owner := by
  have role : (claimed p tag purpose s).role q = roleFor (s.owc.claimBy p) q := by cases q <;> rfl
  rw [role]
  exact roleFor_ne_owner q rfl

/-- Settles O31: the claim puts the record in COMMITTING, and its commit begins or waits for the one in flight. -/
theorem claimAcceptedUnowned : Obligations.ClaimAcceptedUnowned := by
  intro p s tag f flags i head row unfenced healthy state c
  have judged : judgeClaim (removeHead p s) p
      { tag := tag, epoch := s.owc.epoch, flags := flags, overrideEpoch := f } = .accepted :=
    judgeClaim_unowned rfl unfenced healthy state
  have role (q : Path) : (acceptClaim p tag (removeHead p s)).role q = (claimed p tag .claim (removeHead p s)).role q :=
    congrArg (fun roles : Both Role => roles.get q) (by simp [acceptClaim, claimed])
  have unfolded : acceptClaim p tag (removeHead p s) = beginTransition .claim (claimed p tag .claim (removeHead p s)) := rfl
  refine ⟨acceptClaim p tag (removeHead p s), by rw [row.exec_eq head, decideClaim, judged], ?_, ?_, ?_, ?_,
    fun free => ?_, fun flight => ?_, fun q => ?_, ?_, ?_⟩
  case refine_5 =>
    have begun : acceptClaim p tag (removeHead p s) = beginCommit .claim c (claimed p tag .claim (removeHead p s)) := by
      rw [unfolded, beginTransition, if_neg (by simp [State.commitInFlight, claimed_owc, free])]
      rfl
    rw [begun, beginCommit_owc, beginCommit_mem]
    exact ⟨rfl, rfl, rfl, rfl, rfl⟩
  case refine_6 =>
    rw [unfolded, beginTransition, if_pos (by simpa [State.commitInFlight, claimed_owc] using flight)]
    exact ⟨rfl, rfl, rfl, rfl, rfl⟩
  case refine_7 =>
    rw [role]
    exact claimed_role p q tag .claim _
  case refine_8 => simp [SameBlock]
  case refine_9 => simp
  all_goals simp [unfolded, claimed_owc]

/-- Settles O34: the commit begins at once under the epoch that the claim carries. -/
theorem overrideClaimCommits : Obligations.OverrideClaimCommits := by
  intro p s tag f flags i head row override unfenced healthy state drive zero stale c
  have judged : judgeClaim (removeHead p s) p
      { tag := tag, epoch := s.owc.epoch, flags := flags, overrideEpoch := f } = .overridden f :=
    judgeClaim_override rfl unfenced healthy state override drive zero stale
  have unfolded : acceptOverride p tag f (removeHead p s) =
      beginCommit .override c (claimed p tag .override (removeHead p s)) := rfl
  refine ⟨acceptOverride p tag f (removeHead p s), by rw [row.exec_eq head, decideClaim, judged], ?_⟩
  rw [unfolded, beginCommit_owc, beginCommit_mem]
  simp [claimed, refreshRoles_owc, SameBlock, Owc.claimBy, oweReply, beginCommit_owc]

/-! ## REJOIN -/

theorem readmit_role (p q : Path) (s : State) :
    (readmit p s).role q = roleFor { s.owc with roles := s.owc.roles.set p (nonOwnerRole s.owc.policy) } q :=
  role_refreshRoles q _

/-- A readmitted path is SHARER or STANDBY: a FENCED path is no owner, and outside DRAINING none is RELEASING. -/
theorem readmit_role_self {p : Path} {s : State} (state : s.owc.state ≠ .draining) (inv : OwnershipInv s)
    (fenced : s.role p = .fenced) : (readmit p s).role p = nonOwnerRole s.owc.policy := by
  have notOwner : s.owc.owner ≠ some p := by
    obtain ⟨_, unfenced, _⟩ := inv
    exact fun owner => unfenced p owner fenced
  have set : nonOwnerRole s.owc.policy ≠ .fenced := by
    unfold nonOwnerRole
    split_ifs <;> simp
  simp [readmit_role, roleFor, set, notOwner, state]

theorem readmit_role_other {p : Path} {s : State} (inv : OwnershipInv s) :
    (readmit p s).role p.other = s.role p.other := by
  simp [readmit_role, inv.role_eq, roleFor]

/-- Settles O36: the first case of R50 that fits answers; the last readmits the path and touches no other role. -/
theorem rejoinDecided : Obligations.RejoinDecided := by
  intro p s tag epoch head answers
  have answered {status : Status} (judged : judgeRejoin s p epoch = (status, false)) : answers status := by
    have same : judgeRejoin (removeHead p s) p epoch = (status, false) := judged
    change exec (.rejoin p) s = _
    rw [exec_rejoin head, decideRejoin, same]
    rfl
  refine ⟨fun stale => answered ?_, ?_⟩
  · simp [judgeRejoin, stale]
  rintro rfl
  refine ⟨fun unfenced => answered ?_, fun fenced sick => answered ?_, fun fenced healthy draining => answered ?_,
    fun fenced healthy other inv => ?_⟩
  · simp [judgeRejoin, unfenced]
  · simp [judgeRejoin, fenced, sick]
  · simp [judgeRejoin, fenced, healthy, draining]
  have judged : judgeRejoin (removeHead p s) p s.owc.epoch = (.ok, true) := by
    simp [judgeRejoin, fenced, healthy, other, removeHead_role]
  have readmitted : exec (.rejoin p) s = .next (admAnswer p tag .ok (readmit p (removeHead p s))) := by
    rw [exec_rejoin head, decideRejoin, judged]
    rfl
  exact ⟨_, readmitted, readmit_role_self other inv fenced, readmit_role_other inv, rfl, rfl, rfl, rfl,
    rfl, rfl, rfl, rfl, rfl⟩

/-! ## POLICY -/

/-- Settles O37: the first check that fails answers, and a record that passes them begins its commit. -/
theorem policyDecided : Obligations.PolicyDecided := by
  intro p s tag epoch record head answers standing busy
  have refused {status : Status} (judged : judgePolicy s p epoch = some status) : answers status := by
    have same : judgePolicy (removeHead p s) p epoch = some status := judged
    change exec (.policy p) s = _
    rw [exec_policy head, decidePolicy, same]
    rfl
  refine ⟨fun stale => refused (if_pos stale), ?_⟩
  rintro rfl
  refine ⟨fun fenced => refused ?_, fun unfenced => ⟨fun other sick => refused ?_, fun fit => ?_⟩⟩
  · simp [judgePolicy, fenced]
  · simp [judgePolicy, unfenced, other, sick]
  have able : ¬(s.owc.owner ≠ some p ∧ (s.hmon.get p).health ≠ .healthy) := by tauto
  have passed (stands : standing) (free : ¬busy) : judgePolicy (removeHead p s) p s.owc.epoch = none := by
    change judgePolicy s p s.owc.epoch = none
    rw [judgePolicy, if_neg (by simp), if_neg unfenced, if_neg able, if_neg (not_not.2 stands)]
    exact if_neg free
  refine ⟨fun elsewhere => refused ?_, fun stands held => refused ?_, fun stands free bad => ?_,
    fun stands free r accepted => ?_⟩
  · rw [judgePolicy, if_neg (by simp), if_neg unfenced, if_neg able, if_pos elsewhere]
  · rw [judgePolicy, if_neg (by simp), if_neg unfenced, if_neg able, if_neg (not_not.2 stands)]
    exact if_pos held
  · have same : acceptPolicy (removeHead p s).reportedCapacity record = none := bad
    change exec (.policy p) s = _
    rw [exec_policy head, decidePolicy, passed stands free, same]
    rfl
  · have same : acceptPolicy (removeHead p s).reportedCapacity record = some r := accepted
    intro c
    refine ⟨acceptPolicyRequest p tag r (removeHead p s),
      by rw [exec_policy head, decidePolicy, passed stands free, same], ?_⟩
    have unfolded : acceptPolicyRequest p tag r (removeHead p s) = beginCommit .policy c
        (oweReply p tag .policy { removeHead p s with owc := { s.owc with pendingPolicy := some r } }) := rfl
    rw [unfolded, beginCommit_owc, beginCommit_mem]
    simp [oweReply]

/-! ## Ownership block operations (R53, R59, R164) -/

/-- The Drive Port after an ownership block operation has taken the reserved slot (R164). -/
def Dpt.withReserved (op : BlockOp) (attempt : Nat) (timer : Nat) (request : DriveRequest) (d : Dpt) : Dpt :=
  { d with
    busy := d.busy ++ [{ slot := d.slotCount - 1, holder := .blockOp op attempt, timer := timer }]
    requests := d.requests ++ [request], request := none }

/-- The descriptor of an ownership block operation: the block past the capacity, by page 255 (R164). -/
def State.blockRequest (s : State) : BlockOp → DriveRequest
  | .load => .read (s.dpt.slotCount - 1) s.reportedCapacity 1 [255]
  | .commit => .write (s.dpt.slotCount - 1) s.reportedCapacity 1 [255]

/-- The drive is READY and the reserved slot free (R164). -/
def State.ReservedFree (s : State) : Prop :=
  s.dpt.state = .ready ∧ ∀ b ∈ s.dpt.busy, b.slot ≠ s.dpt.slotCount - 1

theorem State.ReservedFree.slotBusy {s : State} (h : s.ReservedFree) : s.slotBusy (s.dpt.slotCount - 1) = false := by
  obtain ⟨_, free⟩ := h
  simpa [State.slotBusy] using free

theorem issueReserved_free {s : State} {op : BlockOp} (free : s.ReservedFree) (request : s.dpt.request = some op) :
    issueReserved s =
      { s with
        dpt := s.dpt.withReserved op s.owc.attempt s.owc.policy.driveTimeoutMs.toNat (s.blockRequest op) } := by
  have ⟨ready, _⟩ := free
  unfold issueReserved
  rw [request]
  simp only [ready, free.slotBusy, and_self, if_true]
  cases op <;> rfl

theorem issueReserved_of_not {s : State} (h : s.dpt.request = none ∨ s.dpt.state ≠ .ready) : issueReserved s = s := by
  unfold issueReserved
  split
  · rfl
  · next request =>
    rcases h with none | other
    · simp [request] at none
    · rw [if_neg fun due => other due.1]

theorem requestBlockOp_free {s : State} {op : BlockOp} (free : s.ReservedFree) :
    requestBlockOp op s =
      { s with
        dpt := s.dpt.withReserved op s.owc.attempt s.owc.policy.driveTimeoutMs.toNat (s.blockRequest op) } := by
  have ⟨ready, _⟩ := free
  have still : State.ReservedFree { s with dpt := { s.dpt with request := some op } } := free
  rw [requestBlockOp, if_neg (by simp [ready]), issueReserved_free still rfl]
  cases op <;> rfl

/-- Settles O46: each of the three commands takes its own step where it is due. -/
theorem ownershipOperationsBegin : Obligations.OwnershipOperationsBegin := by
  intro s n issued free
  refine ⟨?_, fun state attempt ready => ?_, fun ready => ⟨fun request => ?_, fun request => ?_⟩, fun h => ?_⟩
  · intro purpose waits flight c
    have begun : beginWaiting s = beginCommit purpose c s := by
      simp [beginWaiting, waits, State.commitInFlight, flight, c]
    refine ⟨beginCommit purpose c s, congrArg Host.Outcome.next begun, beginCommit_owc purpose c s,
      beginCommit_mem purpose c s, by simp, by simp, by simp, by simp, by simp, by simp, fun ready => ?_⟩
    have still : State.ReservedFree
        { s with
          owc := { s.owc with purpose := some purpose, contents := some c, attempt := 1, waitingTransition := none }
          mem := fillOwnershipPage c s.mem } := ready
    rw [beginCommit, requestBlockOp_free still]
    rfl
  · have still : State.ReservedFree { s with owc := { s.owc with attempt := 1 } } := ready
    refine congrArg Host.Outcome.next ?_
    rw [beginDueLoad, if_pos ⟨state, attempt, ready.1⟩, beginLoad, requestBlockOp_free still]
    rfl
  · exact congrArg Host.Outcome.next (issueReserved_free ready request)
  · exact congrArg Host.Outcome.next (issueReserved_free ready request)
  · exact congrArg Host.Outcome.next (issueReserved_of_not h)

/-! ## Policy records (R52) -/

theorem clamped_clampTo {lo hi : Nat} (n : Nat) (ordered : lo ≤ hi) : Clamped lo hi n (clampTo lo hi n) := by
  unfold Clamped clampTo
  split_ifs <;> omega

theorem clampTo_le (lo : Nat) {hi : Nat} (n : Nat) (h : lo ≤ hi) : clampTo lo hi n ≤ hi := by
  unfold clampTo
  split_ifs <;> omega

theorem clamped_clampByte (v : Byte) {lo hi : Nat} (ordered : lo ≤ hi := by decide) (small : hi < 256 := by decide) :
    Clamped lo hi v.toNat (clampByte lo hi v).toNat := by
  have held := clampTo_le lo v.toNat ordered
  rw [clampByte, BitVec.toNat_ofNat, Nat.mod_eq_of_lt (by omega)]
  exact clamped_clampTo v.toNat ordered

theorem clamped_clampWord (v : Word) {lo hi : Nat} (ordered : lo ≤ hi := by decide) (small : hi < 65536 := by decide) :
    Clamped lo hi v.toNat (clampWord lo hi v).toNat := by
  have held := clampTo_le lo v.toNat ordered
  rw [clampWord, BitVec.toNat_ofNat, Nat.mod_eq_of_lt (by omega)]
  exact clamped_clampTo v.toNat ordered

/-- Clearing bits 4 to 7 leaves the four flags (R52). -/
theorem maskedFlags_getLsbD (flags : Byte) {i : Nat} (h : i < 4) : (flags &&& 0x0F#8).getLsbD i = flags.getLsbD i := by
  have low : (0x0F#8).getLsbD i = true := by
    interval_cases i <;> rfl
  rw [BitVec.getLsbD_and, low, Bool.and_true]

theorem maskedFlags_lt (flags : Byte) : (flags &&& 0x0F#8).toNat < 16 := by
  rw [BitVec.toNat_and]
  exact Nat.lt_succ_of_le Nat.and_le_right

theorem validPolicy_iff (capacity : Nat) (r : PolicyRecord) :
    validPolicy capacity r = true ↔
      r.doubtLo.toNat < r.doubtHi.toNat ∧ r.doubtHi.toNat < r.lostAt.toNat ∧ r.quotaA.toNat + r.quotaB.toNat ≤ 255 ∧
        (0 < r.commonCount.toNat → r.commonStart.toNat + r.commonCount.toNat ≤ capacity) := by
  have zero : r.commonCount = 0#16 ↔ ¬0 < r.commonCount.toNat := by
    rw [Nat.not_lt, Nat.le_zero]
    exact BitVec.toNat_inj.symm
  simp only [validPolicy, thresholdsOrdered, Bool.and_eq_true, Bool.or_eq_true, decide_eq_true_eq, beq_iff_eq, zero]
  tauto

/-- Settles O15: the clamped record keeps what R52 lets stand, and it is taken exactly where it is valid. -/
theorem policyClampAndValidation : Obligations.PolicyClampAndValidation := by
  refine ⟨?_, fun capacity => ?_⟩
  · intro r capacity q
    refine ⟨?_, ⟨rfl, rfl, rfl, rfl, rfl, rfl, rfl⟩, ?_, ?_, ?_⟩
    · exact ⟨clamped_clampWord _, clamped_clampByte _, clamped_clampByte _, clamped_clampWord _, clamped_clampWord _,
        clamped_clampWord _, clamped_clampByte _, clamped_clampByte _, clamped_clampByte _, clamped_clampByte _⟩
    · exact ⟨maskedFlags_getLsbD _ (by decide), maskedFlags_getLsbD _ (by decide), maskedFlags_getLsbD _ (by decide),
        maskedFlags_getLsbD _ (by decide), maskedFlags_lt _⟩
    · exact (Option.ite_none_right_eq_some.trans (and_iff_left rfl)).trans (validPolicy_iff capacity q)
    · unfold acceptPolicy
      split
      · exact .inl rfl
      · exact .inr rfl
  · have valid : validPolicy capacity defaultPolicy = true := by
      rw [validPolicy_iff]
      exact ⟨by decide, by decide, by decide, fun common => absurd common (by decide)⟩
    have clamped : clampPolicy defaultPolicy = defaultPolicy := by decide
    rw [acceptPolicy, clamped, if_pos valid]

end Sys2Proof.Machine
end

section
/-! Drains (R49, R80): what the end of an event leaves of the table and of a drain's record, and the RELEASE. -/

namespace Sys2Proof.Machine

set_option Elab.async false

/-! ## What grants and gifts leave of the table -/

/-- An entry without what grants and gifts of the arbiter change of it (R117, R121, R146). -/
def Entry.standing (e : Entry) : Entry :=
  { e with issued := 0, frontier := 0, outstanding := [], returned := [], readGrant := none }

/-- The table without what grants and gifts change of its entries. -/
def State.standing (s : State) : List Entry :=
  s.ift.map Entry.standing

theorem standing_congr {s t : State} (h : t.ift = s.ift) : t.standing = s.standing :=
  congrArg (List.map Entry.standing) h

theorem standing_onEntry {slot : Nat} {f : Entry → Entry} (s : State) (h : ∀ e, (f e).standing = e.standing) :
    (s.onEntry slot f).standing = s.standing := by
  rw [State.standing, State.onEntry_ift, List.map_map]
  refine List.map_congr_left fun e _ => ?_
  rw [Function.comp_apply]
  split
  · exact h e
  · rfl

theorem Entry.standing_issueInto (driveSlot : Nat) (run : Run) (e : Entry) :
    (e.issueInto driveSlot run).standing = e.standing := by
  unfold Entry.issueInto Entry.standing
  cases e.op with
  | flush => rfl
  | read | write => cases e.returned <;> rfl

theorem placeRequests_ift (s : State) : (placeRequests s).ift = s.ift := by
  have kept (l : List Entry) (t : State) : (l.foldl (fun u e => placeRequest e u) t).ift = t.ift := by
    induction l generalizing t with
    | nil => rfl
    | cons e rest ih => exact (ih (placeRequest e t)).trans (by simp)
  exact kept s.ift s

theorem makeGrant_standing (g : GrantRequest) (s : State) : (makeGrant g s).standing = s.standing := by
  unfold makeGrant
  split
  · rfl
  · next e _ =>
    let allocated := allocateRun g.slot g.path e.frontier (s.freePages.take g.length) s
    have granted : (allocated.onEntry g.slot (fun x => { x with readGrant := some g.length })).standing =
        allocated.standing := standing_onEntry _ fun _ => rfl
    exact (standing_congr (by simp [withdrawRequest, allocated])).trans (granted.trans (standing_congr (by simp [allocated])))

theorem walkFrom_standing (l : List GrantRequest) (full : Both Bool) (s : State) :
    (walkFrom l full s).standing = s.standing := by
  induction l generalizing full s with
  | nil => rfl
  | cons g rest ih =>
    unfold walkFrom
    split
    · exact ih full s
    · split
      · exact ih _ s
      · split
        · rfl
        · exact (ih full _).trans (makeGrant_standing g s)

theorem walkGrants_standing (s : State) : (walkGrants s).standing = s.standing :=
  (walkFrom_standing _ _ _).trans (standing_congr (placeRequests_ift s))

theorem arbiterGift_standing {s t : State} (h : arbiterGift s = some t) : t.standing = s.standing := by
  unfold arbiterGift at h
  split at h
  · split at h
    · split at h
      · cases h
        exact (walkGrants_standing _).trans (standing_onEntry _ fun e => e.standing_issueInto _ _)
      · cases h
    · cases h
  · cases h

theorem arbiterRuns_standing (n : Nat) (s : State) : (arbiterRuns n s).standing = s.standing := by
  induction n generalizing s with
  | zero => rfl
  | succ n ih =>
    unfold arbiterRuns
    split
    · next gift => exact (ih _).trans (arbiterGift_standing gift)
    · rfl

theorem follow_standing (before s : State) : (follow before s).standing = s.standing := by
  have tested : (testGoAfter before .b (testGoAfter before .a s)).standing = s.standing :=
    standing_congr (by simp)
  have offered (t : State) : (offerReadData .b (offerReadData .a t)).standing = t.standing :=
    standing_congr (by simp)
  exact (offered _).trans <| (arbiterRuns_standing _ _).trans <| (walkGrants_standing _).trans tested

theorem entryCount_of_standing {s t : State} (h : t.standing = s.standing) (p : Path) :
    t.entryCount p = s.entryCount p := by
  have counted (u : State) : u.entryCount p = (u.standing.filter (fun e => e.origin == p)).length := by
    rw [State.standing, List.filter_map, List.length_map]
    rfl
  rw [counted, counted, h]

/-! ## A drain that has not ended -/

theorem beginTransition_state (purpose : Purpose) (s : State) :
    (beginTransition purpose s).owc.state = s.owc.state := by
  simp

/-- The check for drain end either leaves the state, where the path holds an entry, or goes to COMMITTING (R80). -/
theorem checkDrainEnd_cases {s : State} {cause : DrainCause} {drained : Path} (state : s.owc.state = .draining)
    (held : s.owc.drainCause = some cause) (path : s.owc.drainedPath = some drained) :
    (checkDrainEnd s = s ∧ 0 < s.entryCount drained) ∨ (checkDrainEnd s).owc.state = .committing := by
  unfold checkDrainEnd
  rw [held, path]
  dsimp only
  split
  · right
    rw [endDrain_eq, beginTransition_state]
    rfl
  · next remains => exact .inl ⟨rfl, Nat.pos_of_ne_zero fun none => remains ⟨state, none⟩⟩

/-- An event in DRAINING ends in COMMITTING, or it leaves the drain's record and an entry of the drained path (R80). -/
theorem conclude_draining (before : State) {s : State} {cause : DrainCause} {drained : Path}
    (state : s.owc.state = .draining) (held : s.owc.drainCause = some cause) (path : s.owc.drainedPath = some drained) :
    ((conclude before s).owc.state = .draining ∧ (conclude before s).owc = (reportAll s).owc ∧
        0 < (conclude before s).entryCount drained) ∨
      (conclude before s).owc.state = .committing := by
  have followed : (conclude before s).owc = (checkDrainEnd (reportAll s)).owc := by simp [conclude]
  rw [followed]
  rcases checkDrainEnd_cases (s := reportAll s) (by simpa using state) (by simpa using held) (by simpa using path) with
    ⟨same, remains⟩ | ended
  · refine .inl ⟨by simpa [same] using state, by rw [same], ?_⟩
    rw [conclude, entryCount_of_standing (follow_standing before _), same]
    exact remains
  · exact .inr ended

/-! ## RELEASE -/

/-- The drain that a RELEASE begins (R49, R80, R81). -/
theorem beginReleaseDrain_spec (cause : DrainCause) (releaser : Path) (successor : Option Path) {s : State}
    (unfenced : s.role releaser ≠ .fenced) :
    let t := beginReleaseDrain cause releaser successor s
    t.owc.owner = none ∧ (t.owc.state = .draining ∨ t.owc.state = .committing) ∧ t.owc.drainStage = some .cooperative ∧
      t.owc.drainCause = some cause ∧ t.owc.drainedPath = some releaser ∧ t.owc.owedReplies = s.owc.owedReplies ∧
      (t.owc.state = .draining →
        t.role releaser = .releasing ∧ t.owc.successor = some successor ∧
          t.owc.drainTimer = some s.owc.policy.drainMs.toNat ∧ 0 < t.entryCount releaser) ∧
      SameBlock s t ∧ t.owc.history = s.owc.history ∧ t.hmon = s.hmon := by
  let begun : State := refreshRoles (startDrainTimer
    { s with owc := s.owc.beginDrain .cooperative cause releaser successor })
  have releasing : begun.role releaser = .releasing := by
    have clear : s.owc.roles.get releaser ≠ .fenced := unfenced
    rw [role_refreshRoles, roleFor]
    simp [startDrainTimer_owc, Owc.beginDrain, clear]
  intro t
  have unfolded : t = conclude s begun := rfl
  have concluded := conclude_draining s (s := begun) (cause := cause) (drained := releaser) rfl rfl rfl
  refine ⟨?_, ?_, ?_, ?_, ?_, ?_, fun draining => ?_, ?_, ?_, ?_⟩
  case refine_2 => exact concluded.imp (fun h => h.1) id
  case refine_7 =>
    rcases concluded with ⟨_, owc, remains⟩ | committing
    · refine ⟨?_, ?_, ?_, remains⟩
      · rw [← releasing]
        simp [unfolded, State.role, owc]
      · rw [unfolded, owc, (by simp : (reportAll begun).owc.successor = begun.owc.successor)]
        rfl
      · rw [unfolded, owc, (by simp : (reportAll begun).owc.drainTimer = begun.owc.drainTimer)]
        rfl
    · rw [unfolded, committing] at draining
      cases draining
  all_goals simp [unfolded, begun, refreshRoles_owc, startDrainTimer_owc, Owc.beginDrain, SameBlock]

/-- The drain that an accepted RELEASE begins, by whether it hands over (R49). -/
theorem acceptRelease_spec {p : Path} (tag : Word) (flags : Byte) {s : State} (unfenced : s.role p ≠ .fenced) :
    let handover := handsOver s p flags
    let t := acceptRelease p tag flags s
    t.owc.owner = none ∧ (t.owc.state = .draining ∨ t.owc.state = .committing) ∧ t.owc.drainStage = some .cooperative ∧
      t.owc.drainCause = some (if handover then .handover else .release) ∧ t.owc.drainedPath = some p ∧
      t.owc.owedReplies =
        s.owc.owedReplies ++ [{ path := p, tag := tag, purpose := if handover then .handover else .release }] ∧
      (t.owc.state = .draining →
        t.role p = .releasing ∧ t.owc.successor = some (if handover then some p.other else none) ∧
          t.owc.drainTimer = some s.owc.policy.drainMs.toNat ∧ 0 < t.entryCount p) ∧
      SameBlock s t ∧ t.owc.history = s.owc.history ∧ t.hmon = s.hmon := by
  unfold acceptRelease
  cases handsOver s p flags with
  | true =>
    simp only [if_true]
    exact beginReleaseDrain_spec .handover p (some p.other) (s := oweReply p tag .handover s) unfenced
  | false =>
    simp only [Bool.false_eq_true, if_false]
    exact beginReleaseDrain_spec .release p none (s := oweReply p tag .release s) unfenced

/-- Settles O35: a RELEASE from the owner begins a cooperative drain, and every other one is answered. -/
theorem releaseDecided : Obligations.ReleaseDecided := by
  intro p s tag epoch flags head answers handover
  have refused {status : Status} (judged : judgeRelease s p epoch = some status) : answers status := by
    have same : judgeRelease (removeHead p s) p epoch = some status := judged
    change exec (releaseRow p flags) s = _
    rw [exec_releaseRow head, decideRelease, same]
    rfl
  refine ⟨fun stale => refused (if_pos stale), ?_, ?_, ?_⟩
  · rintro rfl fenced
    exact refused (by simp [judgeRelease, fenced])
  · rintro rfl unfenced elsewhere
    exact refused (by simp [judgeRelease, unfenced, elsewhere])
  · rintro rfl unfenced owned owner
    have judged : judgeRelease (removeHead p s) p s.owc.epoch = none := by
      simp [judgeRelease, unfenced, owned, owner, removeHead_role]
    have decided : handsOver (removeHead p s) p flags = handover := by
      have eligible : (removeHead p s).eligible p.other =
          decide ((s.hmon.get p.other).health = .healthy ∧ s.role p.other ≠ .fenced) := by
        simp [State.eligible, removeHead_role, Bool.decide_and, beq_eq_decide, bne]
      rw [handsOver, eligible]
    have taken : exec (releaseRow p flags) s = .next (acceptRelease p tag flags (removeHead p s)) := by
      rw [exec_releaseRow head, decideRelease, judged]
    refine ⟨acceptRelease p tag flags (removeHead p s), taken, ?_⟩
    have spec := acceptRelease_spec tag flags (s := removeHead p s) unfenced
    rw [decided] at spec
    exact spec

end Sys2Proof.Machine
end

section
/-! Notices and replies (R45, R58, R63): they are sent, and no later step of the event loses them. -/

namespace Sys2Proof.Machine

set_option Elab.async false

/-! ## Frames that are not READ_DATA -/

/-- From `s` to `t` no frame but a READ_DATA is lost. -/
def KeepsFrames (s t : State) : Prop :=
  ∀ p frame, frame.isReadData = false → Carries (s.pif.get p) frame → Carries (t.pif.get p) frame

theorem KeepsFrames.trans {s t u : State} (h : KeepsFrames s t) (k : KeepsFrames t u) : KeepsFrames s u :=
  fun p frame other carried => k p frame other (h p frame other carried)

theorem Advances.keepsFrames {s t : State} (h : Advances s t) : KeepsFrames s t :=
  fun p frame _ => (h.pif p).carries frame

theorem KeepsFrames.of_pif {s t : State} (h : t.pif = s.pif := by simp) : KeepsFrames s t :=
  fun _ _ _ carried => h ▸ carried

theorem KeepsFrames.onPif {p : Path} {f : Pif → Pif} {s : State}
    (h : ∀ frame, frame.isReadData = false → Carries (s.pif.get p) frame → Carries (f (s.pif.get p)) frame) :
    KeepsFrames s (s.onPif p f) := by
  intro q frame other carried
  rw [State.onPif_pif, Both.get_set]
  split
  · subst q
    exact h frame other carried
  · exact carried

theorem carries_withdrawReadData {f : Pif} {frame : OutFrame} (other : frame.isReadData = false) (h : Carries f frame) :
    Carries f.withdrawReadData frame := by
  rcases h with ⟨x, hx, rfl⟩ | ⟨x, hx, rfl⟩ | ⟨w, hw, rfl⟩
  · exact .inl ⟨x, List.mem_filter.2 ⟨hx, by simp [other]⟩, rfl⟩
  · refine .inr (.inl ⟨_, congrArg (Option.map _) hx, ?_⟩)
    dsimp only
    split <;> rfl
  · exact .inr (.inr ⟨w, List.mem_filter.2 ⟨hw, by simp [other]⟩, rfl⟩)

theorem carries_keepReply {f : Pif} {frame : OutFrame} (slot : Nat) (h : Carries f frame) :
    Carries (f.keepReply slot) frame := by
  rcases h with hx | hx | ⟨w, hw, rfl⟩
  · exact .inl hx
  · exact .inr (.inl hx)
  · refine .inr (.inr ⟨_, List.mem_map.2 ⟨w, hw, rfl⟩, ?_⟩)
    split <;> rfl

/-- The frame steps of the fencing step, up to its entries (R75, R77). -/
theorem withdrawPathReadData_keepsFrames (p : Path) (s : State) : KeepsFrames s (withdrawPathReadData p s) := by
  have withdrawn (u : State) : KeepsFrames u (u.onPif p Pif.withdrawReadData) :=
    .onPif fun _ other => carries_withdrawReadData other
  unfold withdrawPathReadData
  dsimp only
  split
  · exact KeepsFrames.trans (t := detachPage _ s) (.of_pif rfl) (withdrawn _)
  · exact withdrawn s

theorem enterWaiting_advances (p : Path) (s : State) : Advances s (enterWaiting p s) := by
  have entered : Advances s (s.onPif p Pif.enterWaiting) := .onPif (.enterWaiting _)
  unfold enterWaiting
  dsimp only
  split
  · exact entered.trans (dropEntry_advances _ _)
  · exact entered

theorem fenceEntry_keepsFrames (slot : Nat) (s : State) : KeepsFrames s (fenceEntry slot s) := by
  unfold fenceEntry
  split
  · exact .of_pif rfl
  · split
    · exact KeepsFrames.trans (.onPif fun _ _ => carries_keepReply slot) (dropEntry_advances slot _).keepsFrames
    · split
      · exact .of_pif rfl
      · dsimp only
        split <;> exact .of_pif

theorem forSlots_keepsFrames {op : Nat → State → State} (h : ∀ k s, KeepsFrames s (op k s)) (l : List Nat) (s : State) :
    KeepsFrames s (forSlots op l s) := by
  induction l generalizing s with
  | nil => exact .of_pif rfl
  | cons k rest ih => exact (h k s).trans (ih (op k s))

theorem answerFenced_advances (p : Path) (s : State) (frame : QueuedFrame) : Advances s (answerFenced p s frame) := by
  unfold answerFenced
  split
  · exact offer_advances _ _ _ s
  · exact .refl s

theorem answersFenced_advances (p : Path) (l : List QueuedFrame) (s : State) :
    Advances s (l.foldl (answerFenced p) s) := by
  induction l generalizing s with
  | nil => exact .refl s
  | cons frame rest ih => exact (answerFenced_advances p s frame).trans (ih _)

theorem fence_keepsFrames (p : Path) (s : State) : KeepsFrames s (fence p s) := by
  have emptied : KeepsFrames s ((setRole p .fenced s).onPif p Pif.emptyReceive) :=
    KeepsFrames.trans (t := setRole p .fenced s) (.of_pif rfl) (.onPif fun _ _ => id)
  exact emptied.trans <| (answersFenced_advances p _ _).keepsFrames.trans <|
    (withdrawPathReadData_keepsFrames p _).trans <| (enterWaiting_advances p _).keepsFrames.trans <|
    (forSlots_keepsFrames fenceEntry_keepsFrames _ _).trans (reportAll_advances _).keepsFrames

theorem beginFencedDrain_keepsFrames (cause : DrainCause) (owner : Path) (s : State) :
    KeepsFrames s (beginFencedDrain cause owner s) := by
  have fenced := fence_keepsFrames owner { s with owc := s.owc.beginDrain .fenced cause owner (some owner.other) }
  have timed (u : State) : KeepsFrames u (refreshRoles (startDrainTimer u)) := .of_pif rfl
  exact (fenced.trans (timed _)).trans (conclude_advances s _).keepsFrames

theorem ownerLost_keepsFrames (p : Path) (s : State) : KeepsFrames s (ownerLost p s) := by
  unfold ownerLost
  split
  · split
    · exact beginFencedDrain_keepsFrames .loss p s
    · exact .of_pif rfl
  · exact .of_pif rfl

theorem reportIfOwnerLost_keepsFrames (s : State) : KeepsFrames s (reportIfOwnerLost s) := by
  unfold reportIfOwnerLost
  split
  · split
    · exact ownerLost_keepsFrames _ s
    · exact .of_pif rfl
  · exact .of_pif rfl

/-! ## Notices -/

theorem carries_offer_path {p : Path} {s : State} (producer : Producer) (frame : OutFrame) (up : s.linkUp p = true) :
    Carries ((s.offer p producer frame).pif.get p) frame := by
  rw [State.offer, State.onPif_get_same]
  exact carries_offer producer _ (State.linkUp_eq_true.1 up)

theorem sendNotice_advances (p : Path) (s : State) : Advances s (sendNotice p s) :=
  offer_advances _ _ _ s

theorem sendNotices_advances (s : State) : Advances s (sendNotices s) :=
  (sendNotice_advances .a s).trans (sendNotice_advances .b _)

theorem linkUp_of_link {s t : State} {p : Path} (h : (t.pif.get p).link = (s.pif.get p).link := by simp) :
    t.linkUp p = s.linkUp p := by
  rw [State.linkUp, State.linkUp, h]

/-- The notice on each UP path (R58). -/
theorem sendNotices_carries {p : Path} {s : State} (up : s.linkUp p = true) :
    Carries ((sendNotices s).pif.get p) (.ownershipNotice s.owc.epoch s.owc.owner (s.role p) s.owc.commitCount) := by
  cases p with
  | a => exact ((sendNotice_advances .b _).pif .a).carries _ (carries_offer_path _ _ up)
  | b =>
    have still : (sendNotice .a s).linkUp .b = true := (linkUp_of_link (by simp)).trans up
    exact carries_offer_path .owc (.ownershipNotice s.owc.epoch s.owc.owner (s.role .b) s.owc.commitCount) still

/-- Outside DRAINING, with an owner named in OWNED and GRACE alone, R42's list reads the record's owner. -/
theorem roleFor_settled {o : Owc} {p : Path} (state : o.state ≠ .draining)
    (named : o.owner = some p → o.state = .owned ∨ o.state = .grace) :
    roleFor o p = if o.roles.get p = .fenced then .fenced else if o.owner = some p then .owner
      else if shareReads o.policy then .sharer else .standby := by
  unfold roleFor nonOwnerRole
  split_ifs <;> simp_all

theorem sendNotices_notified {s u : State} {owner : Option Path} {epoch : Word} {count : CommitCount} {r : PolicyRecord}
    (links : ∀ p, u.linkUp p = s.linkUp p) (ho : u.owc.owner = owner) (he : u.owc.epoch = epoch)
    (hc : u.owc.commitCount = count)
    (roles : ∀ p, u.role p = if s.role p = .fenced then .fenced else if owner = some p then .owner
      else if shareReads r then .sharer else .standby) :
    Notified owner epoch count r s (sendNotices u) := by
  intro p up
  have sent := sendNotices_carries (s := u) (p := p) (by rw [links, up])
  rwa [ho, he, hc, roles] at sent

theorem Notified.mono {owner : Option Path} {epoch : Word} {count : CommitCount} {r : PolicyRecord} {s t u : State}
    (h : Notified owner epoch count r s t) (k : KeepsFrames t u) : Notified owner epoch count r s u :=
  fun p up => k p _ rfl (h p up)

/-! ## Waiting replies -/

theorem produceReply_advances (status : Status) (r : OwedReply) (s : State) : Advances s (produceReply status r s) :=
  offer_advances _ _ _ s

theorem produceReply_carries {status : Status} {r : OwedReply} {s : State} (up : s.linkUp r.path = true) :
    Carries ((produceReply status r s).pif.get r.path) (.reply r.tag status 0#16 s.owc.epoch) :=
  carries_offer_path _ _ up

theorem settleReplies_advances (o : Owc) (l : List OwedReply) (s : State) : Advances s (settleReplies o l s) := by
  induction l generalizing s with
  | nil => exact .refl s
  | cons r rest ih => exact (produceReply_advances _ r s).trans (ih _)

theorem settleReplies_carries {o : Owc} {l : List OwedReply} {s : State} {r : OwedReply} (h : r ∈ l)
    (up : s.linkUp r.path = true) :
    Carries ((settleReplies o l s).pif.get r.path) (.reply r.tag (frozenStatus o r) 0#16 s.owc.epoch) := by
  induction l generalizing s with
  | nil => cases h
  | cons x rest ih =>
    rcases List.mem_cons.1 h with rfl | h
    · exact ((settleReplies_advances o rest _).pif r.path).carries _ (produceReply_carries up)
    · have later := ih (s := produceReply (frozenStatus o x) x s) h ((linkUp_of_link (by simp)).trans up)
      rwa [(by simp : (produceReply (frozenStatus o x) x s).owc.epoch = s.owc.epoch)] at later

/-! ## Flags -/

theorem raiseBoth_flagInBoth (flag : Flag) (s : State) : FlagInBoth flag (raiseBoth flag s) := by
  intro p
  cases p with
  | a => exact raiseIn_hasFlag_of .b .a flag flag _ (raiseIn_hasFlag .a flag s)
  | b => exact raiseIn_hasFlag .b flag _

theorem FlagInBoth.mono {flag : Flag} {s t : State} (h : FlagInBoth flag s) (k : Advances s t) : FlagInBoth flag t :=
  fun p => k.flags p flag (h p)

end Sys2Proof.Machine
end

section
/-! The reserved slot's completion (R54 to R56, R60, R63, R167): failed attempts and the success of a commit. -/

namespace Sys2Proof.Machine

set_option Elab.async false

/-! ## The record taken -/

/-- A well-formed record for the ownership block operation in the reserved slot is taken as that operation's (R167). -/
theorem exec_reservedOperation {s : State} {status : DriveStatus} {done : Word} {block : List Byte} {op : BlockOp}
    {attempt : Nat} (ready : s.dpt.state = .ready) (slots : 2 ≤ s.dpt.slotCount)
    (held : s.holderOf (s.dpt.slotCount - 1) = some (.blockOp op attempt)) (known : status ≠ .other)
    (fits : done.toNat ≤ 1) :
    exec (.reservedSlotCompletion status done block) s =
      .next (acceptOperation (s.dpt.slotCount - 1) op status done.toNat block s) := by
  have laid : s.dpt.slotCount ≠ 0 := by omega
  have within : s.dpt.slotCount - 1 < s.dpt.slotCount ∧ status ≠ .other ∧ done.toNat ≤ (Holder.blockOp op attempt).length :=
    ⟨by omega, known, fits⟩
  refine congrArg Host.Outcome.next ?_
  rw [takeReservedRecord, if_neg laid, takeRecord, ready]
  dsimp only
  rw [takeReadyRecord, held]
  dsimp only
  rw [if_pos within]
  rfl

/-- The state in which OWC learns of the operation's end: the slot freed, MEDIA_ERROR raised where it is due (R167). -/
def State.operationTaken (s : State) (status : DriveStatus) : State :=
  raiseMedia status (s.freeSlot (s.dpt.slotCount - 1))

theorem operationTaken_owc (s : State) (status : DriveStatus) : (s.operationTaken status).owc = s.owc := by
  simp [State.operationTaken]

theorem operationTaken_linkUp (s : State) (status : DriveStatus) (p : Path) :
    (s.operationTaken status).linkUp p = s.linkUp p :=
  linkUp_of_link (by simp [State.operationTaken])

theorem operationTaken_media (s : State) : FlagInBoth .mediaError (s.operationTaken .media) :=
  raiseBoth_flagInBoth .mediaError _

theorem operationTaken_keepsRecord (s : State) (status : DriveStatus) : KeepsRecord s (s.operationTaken status) :=
  .of_bare (congrArg Owc.bare (operationTaken_owc s status))

/-- The reserved slot is free again (R161). -/
theorem operationTaken_reservedFree {s : State} (status : DriveStatus) (ready : s.dpt.state = .ready) :
    (s.operationTaken status).ReservedFree := by
  have dpt : (s.operationTaken status).dpt = (s.freeSlot (s.dpt.slotCount - 1)).dpt := by simp [State.operationTaken]
  refine ⟨by rw [dpt]; exact ready, fun b hb => ?_⟩
  rw [dpt] at hb ⊢
  have other : ¬b.slot = s.dpt.slotCount - 1 := by simpa using (List.mem_filter.1 hb).2
  exact other

/-! ## FROZEN (R63) -/

theorem freeze_role (cause : FrozenCause) (p : Path) (s : State) :
    (refreshRoles { s with owc := s.owc.freeze cause }).role p =
      if s.role p = .fenced then .fenced else if (none : Option Path) = some p then .owner
      else if shareReads s.owc.policy then .sharer else .standby := by
  rw [role_refreshRoles, roleFor_settled (by simp [Owc.freeze]) (by simp [Owc.freeze])]
  rfl

theorem enterFrozen_eq {cause : FrozenCause} {s : State} (state : s.owc.state ≠ .frozen) :
    enterFrozen cause s = settleReplies s.owc s.owc.owedReplies
      (sendNotices (raiseBoth .frozen (refreshRoles { s with owc := s.owc.freeze cause }))) :=
  if_neg state

theorem enterFrozen_owc {cause : FrozenCause} {s : State} (state : s.owc.state ≠ .frozen) :
    (enterFrozen cause s).owc = (refreshRoles { s with owc := s.owc.freeze cause }).owc := by
  rw [enterFrozen_eq state]
  simp

theorem enterFrozen_advances (cause : FrozenCause) (s : State) : Advances s (enterFrozen cause s) := by
  unfold enterFrozen
  split
  · exact .of_frame rfl rfl
  · exact Advances.trans (t := refreshRoles { s with owc := s.owc.freeze cause }) (.of_frame rfl rfl) <|
      (raiseBoth_advances .frozen _).trans <| (sendNotices_advances _).trans (settleReplies_advances _ _ _)

theorem enterFrozen_flag {cause : FrozenCause} {s : State} (state : s.owc.state ≠ .frozen) :
    FlagInBoth .frozen (enterFrozen cause s) := by
  rw [enterFrozen_eq state]
  exact (raiseBoth_flagInBoth .frozen _).mono ((sendNotices_advances _).trans (settleReplies_advances _ _ _))

/-- The notices of an entry into FROZEN, and every waiting reply (R58, R63). -/
theorem enterFrozen_answered {cause : FrozenCause} {s : State} (state : s.owc.state ≠ .frozen) :
    FrozenAnswered s (enterFrozen cause s) := by
  refine ⟨?_, by rw [enterFrozen_owc state]; rfl, fun r owed up => ?_⟩ <;> rw [enterFrozen_eq state]
  · refine Notified.mono ?_ (settleReplies_advances _ _ _).keepsFrames
    refine sendNotices_notified (fun p => linkUp_of_link) ?_ ?_ ?_ fun p => ?_
    case refine_4 =>
      rw [← freeze_role cause p s]
      simp [State.role]
    all_goals simp [refreshRoles_owc, Owc.freeze]
  · have settled := settleReplies_carries (o := s.owc) (l := s.owc.owedReplies) (s := sendNotices (raiseBoth .frozen
      (refreshRoles { s with owc := s.owc.freeze cause }))) owed ((linkUp_of_link (by simp)).trans up)
    simpa [refreshRoles_owc, frozenStatus] using settled

/-! ## The load's failure (R60, R62) -/

/-- Where OWC does not answer a change of health, its report only sets PARTNER_LOST (R36). -/
theorem reportHealth_of_idle (p : Path) (old new : Health) {s : State} (owned : s.owc.state ≠ .owned)
    (grace : s.owc.state ≠ .grace) :
    reportHealth p old new s = if new = .lost ∧ old ≠ .lost then raiseIn p.other .partnerLost s else s := by
  have lost : ownerLost p s = s := if_neg fun h => owned h.1
  have healthy : ownerHealthy p s = s := if_neg fun h => grace h.1
  unfold reportHealth
  cases new with
  | lost => rw [lost]
  | healthy => simp [healthy]
  | doubtful => rfl

theorem reportChange_advances_of_idle (p : Path) (old : Health) {s : State} (owned : s.owc.state ≠ .owned)
    (grace : s.owc.state ≠ .grace) : Advances s (reportChange p old s) := by
  unfold reportChange
  split
  · exact .refl s
  · rw [reportHealth_of_idle p old _ owned grace]
    split
    · exact raiseIn_advances _ _ s
    · exact .refl s

theorem testThresholds_advances (p : Path) (s : State) : Advances s (testThresholds p s) := by
  unfold testThresholds
  split
  · exact testGo_advances p s
  · exact testHold_advances p s

/-- A policy's take-effect then loses no frame and clears no flag (R65). -/
theorem takeEffect_advances_of_idle (r : PolicyRecord) {s : State} (owned : s.owc.state ≠ .owned)
    (grace : s.owc.state ≠ .grace) : Advances s (takeEffect r s) := by
  let judged := judgeHealth .b (judgeHealth .a (refreshRoles { s with owc := { s.owc with policy := r } }))
  have state : judged.owc.state = s.owc.state := by simp [judged, refreshRoles_owc]
  have begun : Advances s judged := .of_frame (by simp [judged]) (by simp [judged])
  have first (old : Health) := reportChange_advances_of_idle .a old (s := judged) (by rwa [state]) (by rwa [state])
  have same (old : Health) : (reportChange .a old judged).owc.state = s.owc.state := by
    rw [reportChange_owc_of_idle .a old (by rwa [state]) (by rwa [state]), state]
  have second (old other : Health) := reportChange_advances_of_idle .b old (s := reportChange .a other judged)
    (by rwa [same]) (by rwa [same])
  exact begun.trans <| (first _).trans <| (second _ _).trans <| (testThresholds_advances .a _).trans <|
    (testThresholds_advances .b _).trans (follow_advances _ _)

/-- The record after the third failed attempt of a load (R62, R63). -/
theorem loadBad_owc (s : State) :
    (loadBad s).owc.state = .frozen ∧ (loadBad s).owc.owner = none ∧ (loadBad s).owc.attempt = 0 ∧
      (loadBad s).owc.frozenCause = some .blockBad := by
  simp [loadBad, refreshRoles_owc, addHistory, Owc.freeze]

theorem loadBad_advances {s : State} (loading : s.owc.state = .loading) : Advances s (loadBad s) := by
  have effect := takeEffect_advances_of_idle s.owc.policy (s := s) (by simp [loading]) (by simp [loading])
  have recorded (u : State) (o : Owc) (h : HistoryRecord) : Advances u (addHistory h (refreshRoles { u with owc := o })) :=
    .of_frame rfl rfl
  unfold loadBad
  exact effect.trans <| (recorded _ _ _).trans <| (raiseBoth_advances _ _).trans <| (raiseBoth_advances _ _).trans
    (sendNotices_advances _)

theorem loadBad_flags (s : State) : FlagInBoth .frozen (loadBad s) ∧ FlagInBoth .blockBad (loadBad s) :=
  ⟨(raiseBoth_flagInBoth .frozen _).mono (sendNotices_advances _),
    ((raiseBoth_flagInBoth .blockBad _).mono (raiseBoth_advances .frozen _)).mono (sendNotices_advances _)⟩

theorem loadBad_notified {s : State} (loading : s.owc.state = .loading) :
    Notified none s.owc.epoch s.owc.commitCount s.owc.policy s (loadBad s) := by
  have owc := takeEffect_owc_of_idle s.owc.policy (s := s) (by simp [loading]) (by simp [loading])
  have fenced (p : Path) : (takeEffect s.owc.policy s).role p = .fenced ↔ s.role p = .fenced := by
    unfold State.role
    rw [owc]
    exact refreshRoles_fenced_iff p s
  unfold loadBad
  refine sendNotices_notified (fun p => linkUp_of_link ?_) ?_ ?_ ?_ fun p => ?_
  case refine_5 =>
    have role := freeze_role .blockBad p (takeEffect s.owc.policy s)
    rw [takeEffect_policy] at role
    simp only [fenced] at role
    rw [← role]
    simp [State.role, addHistory]
  all_goals simp [refreshRoles_owc, addHistory, Owc.freeze]

/-! ## Failed attempts (R55, R56, R60) -/

theorem attemptFailed_again {op : BlockOp} {s : State} (few : s.owc.attempt < 3) (free : s.ReservedFree) :
    let t := attemptFailed op s
    t.owc = { s.owc with attempt := s.owc.attempt + 1 } ∧ t.hmon = s.hmon ∧ t.ift = s.ift ∧ t.mem = s.mem ∧
      ∃ timer, { slot := s.dpt.slotCount - 1, holder := .blockOp op (s.owc.attempt + 1), timer := timer } ∈ t.dpt.busy := by
  have still : State.ReservedFree { s with owc := { s.owc with attempt := s.owc.attempt + 1 } } := free
  intro t
  have asked : t = _ := (if_pos few).trans (requestBlockOp_free still)
  rw [asked]
  exact ⟨rfl, rfl, rfl, rfl, s.owc.policy.driveTimeoutMs.toNat, by simp [Dpt.withReserved]⟩

theorem attemptFailed_load {s : State} (many : 3 ≤ s.owc.attempt) : attemptFailed .load s = loadBad s :=
  if_neg (Nat.not_lt.2 many)

theorem attemptFailed_commit {s : State} (many : 3 ≤ s.owc.attempt) :
    attemptFailed .commit s = enterFrozen .commitFailed s :=
  if_neg (Nat.not_lt.2 many)

/-- The failed attempt is that of the load or of the commit under way. -/
theorem operationFailed_eq {op : BlockOp} {s : State} (load : op = .load → s.owc.state = .loading ∧ 0 < s.owc.attempt)
    (commit : op = .commit → s.owc.contents.isSome = true) : operationFailed op s = attemptFailed op s := by
  cases op with
  | load => exact if_pos (load rfl)
  | commit => exact if_pos (commit rfl)

theorem attemptFailed_advances {op : BlockOp} {s : State} (load : op = .load → s.owc.state = .loading) :
    Advances s (attemptFailed op s) := by
  unfold attemptFailed
  split
  · exact .of_frame
  · cases op with
    | load => exact loadBad_advances (load rfl)
    | commit => exact enterFrozen_advances _ s

/-- The failed attempt of the operation in the reserved slot reaches OWC (R167). -/
theorem exec_operationFailed {s : State} {status : DriveStatus} {done : Word} {block : List Byte} {op : BlockOp}
    {attempt : Nat} (inv : DriveInv s) (ready : s.dpt.state = .ready)
    (held : s.holderOf (s.dpt.slotCount - 1) = some (.blockOp op attempt))
    (failed : (status = .media ∧ done.toNat ≤ 1) ∨ ((status = .good ∨ status = .partialDone) ∧ done = 0#16)) :
    exec (.reservedSlotCompletion status done block) s = .next (operationFailed op (s.operationTaken status)) := by
  obtain ⟨laid, _⟩ := inv
  obtain ⟨slots, _⟩ := laid ready
  have known : status ≠ .other := by rcases failed with ⟨rfl, _⟩ | ⟨rfl | rfl, _⟩ <;> decide
  have fits : done.toNat ≤ 1 := by
    rcases failed with ⟨_, few⟩ | ⟨_, rfl⟩
    · exact few
    · decide
  have bad : operationOk status done.toNat = false := by
    rcases failed with ⟨rfl, _⟩ | ⟨rfl | rfl, rfl⟩ <;> rfl
  rw [exec_reservedOperation ready slots held known fits]
  exact congrArg Host.Outcome.next (if_neg (by simp [bad]))

/-- What the third failed attempt leaves, of a commit and of a load (R56, R60, R63). -/
theorem attemptFailed_third {op : BlockOp} {s : State} (many : 3 ≤ s.owc.attempt)
    (load : op = .load → s.owc.state = .loading) (commit : op = .commit → s.owc.state ≠ .frozen) :
    let t := attemptFailed op s
    t.owc.state = .frozen ∧ t.owc.owner = none ∧ t.owc.attempt = 0 ∧ FlagInBoth .frozen t ∧
      Notified none s.owc.epoch s.owc.commitCount s.owc.policy s t ∧
      (op = .commit → t.owc.frozenCause = some .commitFailed ∧ t.owc.history = s.owc.history ∧ FrozenAnswered s t) ∧
      (op = .load → t.owc.frozenCause = some .blockBad ∧ FlagInBoth .blockBad t) := by
  cases op with
  | load =>
    obtain ⟨state, owner, attempt, cause⟩ := loadBad_owc s
    obtain ⟨frozen, bad⟩ := loadBad_flags s
    rw [attemptFailed_load many]
    exact ⟨state, owner, attempt, frozen, loadBad_notified (load rfl), nofun, fun _ => ⟨cause, bad⟩⟩
  | commit =>
    have state := commit rfl
    have answered := enterFrozen_answered (cause := .commitFailed) state
    rw [attemptFailed_commit many]
    dsimp only
    rw [enterFrozen_owc state]
    exact ⟨rfl, rfl, rfl, enterFrozen_flag state, answered.1, fun _ => ⟨rfl, rfl, answered⟩, nofun⟩

theorem Notified.of_same {owner : Option Path} {epoch : Word} {count : CommitCount} {r : PolicyRecord} {s u t : State}
    (h : Notified owner epoch count r u t) (roles : ∀ p, u.role p = s.role p) (links : ∀ p, u.linkUp p = s.linkUp p) :
    Notified owner epoch count r s t := by
  intro p up
  have sent := h p (by rw [links, up])
  rwa [roles] at sent

theorem FrozenAnswered.of_same {s u t : State} (h : FrozenAnswered u t) (owc : u.owc = s.owc)
    (links : ∀ p, u.linkUp p = s.linkUp p) : FrozenAnswered s t := by
  have ⟨notified, owed, replies⟩ := h
  rw [owc] at notified replies
  refine ⟨notified.of_same (fun p => by rw [State.role, owc, State.role]) links, owed, fun r held up => ?_⟩
  exact replies r held (by rw [links, up])

/-- Settles O56: OWC asks again after the first and second failed attempt, and enters FROZEN after the third. -/
theorem failedAttemptsAskAgain : Obligations.FailedAttemptsAskAgain := by
  intro s status done block op attempt inv ready held failed load commit
  have taken := operationTaken_owc s status
  have links := operationTaken_linkUp s status
  have roles (p : Path) : (s.operationTaken status).role p = s.role p := by rw [State.role, taken, State.role]
  have told : operationFailed op (s.operationTaken status) = attemptFailed op (s.operationTaken status) :=
    operationFailed_eq (by rwa [taken]) fun h => by rw [taken]; exact (commit h).1
  refine ⟨operationFailed op (s.operationTaken status), exec_operationFailed inv ready held failed,
    ((operationTaken_keepsRecord s status).trans (operationFailed_keepsRecord op _)).block, ?_, fun few => ?_,
    fun many => ?_⟩ <;> rw [told]
  · rintro rfl
    exact (operationTaken_media s).mono (attemptFailed_advances fun h => by rw [taken]; exact (load h).1)
  · have again := attemptFailed_again (op := op) (by rwa [taken]) (operationTaken_reservedFree status ready)
    simpa [State.operationTaken, State.freeSlot_dpt] using again
  · obtain ⟨state, owner, zero, frozen, notified, committed, loaded⟩ := attemptFailed_third (op := op)
      (s := s.operationTaken status) (by rwa [taken]) (fun h => by rw [taken]; exact (load h).1)
      (fun h => by rw [taken]; exact (commit h).2)
    rw [taken] at notified committed
    refine ⟨state, owner, zero, frozen, notified.of_same roles links, fun h => ?_, loaded⟩
    obtain ⟨cause, history, answered⟩ := committed h
    exact ⟨cause, history, answered.of_same taken links⟩

end Sys2Proof.Machine
end

section
/-! The success of a commit (R54): the record that becomes current, the notices and the reply. -/

namespace Sys2Proof.Machine

set_option Elab.async false

/-! ## The steps of R54 -/

/-- Steps 1 to 3 of R54: what was written becomes current. -/
def commitRecorded (purpose : Purpose) (c : Contents) (s : State) : State :=
  refreshRoles { s with owc := s.owc.succeed purpose c }

/-- Steps 4 and 5 of R54: the policy put into force, or the history record. -/
def commitStepped (purpose : Purpose) (c : Contents) (s : State) : State :=
  historyStep s.owc purpose c (policyStep purpose (commitRecorded purpose c s))

/-- Steps 6 to 8 of R54: the notices, the reply, the waiting transition. -/
def commitAnnounced (purpose : Purpose) (c : Contents) (s : State) : State :=
  beginWaiting (replyFor purpose c (sendNotices (commitStepped purpose c s)))

theorem commitSuccess_eq (purpose : Purpose) (c : Contents) (s : State) :
    commitSuccess purpose c s =
      if purpose = .policy then commitAnnounced purpose c s else reportIfOwnerLost (commitAnnounced purpose c s) := rfl

theorem succeed_epoch (purpose : Purpose) (c : Contents) (o : Owc) :
    (o.succeed purpose c).epoch = c.epoch ∧ (o.succeed purpose c).commitCount = c.count := by
  unfold Owc.succeed
  split <;> exact ⟨rfl, rfl⟩

theorem succeed_of_ne {purpose : Purpose} (other : purpose ≠ .policy) (c : Contents) (o : Owc) :
    (o.succeed purpose c).state = (if c.owner.isSome then .owned else .unowned) ∧
      (o.succeed purpose c).owner = c.owner ∧ (o.succeed purpose c).drainedPath = none ∧
      (o.succeed purpose c).orphansAdded = none ∧ (o.succeed purpose c).successor = none := by
  unfold Owc.succeed
  rw [if_neg other]
  exact ⟨rfl, rfl, rfl, rfl, rfl⟩

theorem policyStep_of_ne {purpose : Purpose} (other : purpose ≠ .policy) (s : State) : policyStep purpose s = s :=
  if_neg other

theorem policyStep_policy {s : State} {r : PolicyRecord} (pending : s.owc.pendingPolicy = some r) :
    policyStep .policy s = takeEffect r { s with owc := { s.owc with pendingPolicy := none } } := by
  rw [policyStep, if_pos rfl, pending]

theorem historyStep_history (before : Owc) (purpose : Purpose) (c : Contents) (s : State) :
    (historyStep before purpose c s).owc.history =
      match historyCause purpose with
      | some cause => (commitRecord before cause c :: s.owc.history).take 8
      | none => s.owc.history := by
  unfold historyStep
  cases historyCause purpose <;> rfl

/-! ## The reply (step 7) -/

theorem replyFor_owedReplies (purpose : Purpose) (c : Contents) (s : State) :
    (replyFor purpose c s).owc.owedReplies = s.owc.owedReplies.filter (fun r => !(r.purpose == purpose)) := by
  unfold replyFor
  split
  · next none =>
    refine (List.filter_eq_self.2 fun r hr => ?_).symm
    simpa using List.find?_eq_none.1 none r hr
  · simp

theorem replyFor_advances (purpose : Purpose) (c : Contents) (s : State) : Advances s (replyFor purpose c s) := by
  have settled (o : Owc) : Advances s { s with owc := o } := .of_frame rfl rfl
  unfold replyFor
  split
  · exact .refl s
  · exact (settled _).trans (produceReply_advances _ _ _)

/-- A forced claimant that is not the owner is told so; every other reply is OK (R54). -/
theorem successStatus_eq {purpose : Purpose} {r : OwedReply} (own : r.purpose = purpose) (c : Contents) :
    successStatus c r = if purpose = .forced ∧ c.owner ≠ some r.path then .notHealthy else .ok := by
  subst own
  unfold successStatus
  split
  · next forced => simp [forced, ite_not]
  · next other => exact (if_neg fun h => other h.1).symm

theorem replyFor_carries {purpose : Purpose} {c : Contents} {s : State} {r : OwedReply}
    (owed : s.owc.owedReplies.find? (fun r => r.purpose == purpose) = some r) (up : s.linkUp r.path = true) :
    Carries ((replyFor purpose c s).pif.get r.path)
      (.reply r.tag (if purpose = .forced ∧ c.owner ≠ some r.path then .notHealthy else .ok) 0#16 s.owc.epoch) := by
  have own : r.purpose = purpose := by simpa using List.find?_some owed
  rw [← successStatus_eq own, replyFor, owed]
  exact produceReply_carries up

/-! ## What stands after the commit -/

theorem commitStepped_record (purpose : Purpose) (c : Contents) (s : State) :
    (commitStepped purpose c s).owc.epoch = c.epoch ∧ (commitStepped purpose c s).owc.commitCount = c.count ∧
      (commitStepped purpose c s).owc.owedReplies = s.owc.owedReplies := by
  simp [commitStepped, commitRecorded, refreshRoles_owc, succeed_epoch]

theorem commitStepped_linkUp (purpose : Purpose) (c : Contents) (s : State) (p : Path) :
    (commitStepped purpose c s).linkUp p = s.linkUp p :=
  linkUp_of_link (by simp [commitStepped, commitRecorded])

theorem commitAnnounced_owedReplies (purpose : Purpose) (c : Contents) (s : State) (r : OwedReply) :
    r ∈ (commitAnnounced purpose c s).owc.owedReplies ↔ r ∈ s.owc.owedReplies ∧ r.purpose ≠ purpose := by
  obtain ⟨_, _, owed⟩ := commitStepped_record purpose c s
  have held : (commitAnnounced purpose c s).owc.owedReplies =
      s.owc.owedReplies.filter (fun r => !(r.purpose == purpose)) := by
    simp [commitAnnounced, replyFor_owedReplies, owed]
  simp [held]

/-- The waiting reply of the commit's own request (R54). -/
theorem commitAnnounced_replied {purpose : Purpose} {c : Contents} {s : State} {r : OwedReply}
    (owed : s.owc.owedReplies.find? (fun r => r.purpose == purpose) = some r) (up : s.linkUp r.path = true) :
    Carries ((commitAnnounced purpose c s).pif.get r.path)
      (.reply r.tag (if purpose = .forced ∧ c.owner ≠ some r.path then .notHealthy else .ok) 0#16 c.epoch) := by
  obtain ⟨epoch, _, replies⟩ := commitStepped_record purpose c s
  have sent := replyFor_carries (purpose := purpose) (c := c) (s := sendNotices (commitStepped purpose c s)) (r := r)
    (by simpa [replies] using owed) ((linkUp_of_link (by simp)).trans ((commitStepped_linkUp purpose c s _).trans up))
  simpa [commitAnnounced, epoch] using sent

/-- After the notices nothing of R54 loses a frame. -/
theorem commitAnnounced_keepsFrames (purpose : Purpose) (c : Contents) (s : State) :
    KeepsFrames (sendNotices (commitStepped purpose c s)) (commitAnnounced purpose c s) := by
  have waited (u : State) : KeepsFrames u (beginWaiting u) := .of_pif
  exact (replyFor_advances purpose c _).keepsFrames.trans (waited _)

theorem commitStepped_of_ne {purpose : Purpose} (other : purpose ≠ .policy) (c : Contents) (s : State) :
    commitStepped purpose c s = historyStep s.owc purpose c (commitRecorded purpose c s) := by
  rw [commitStepped, policyStep_of_ne other]

theorem commitStepped_role {purpose : Purpose} (other : purpose ≠ .policy) (c : Contents) (s : State) (p : Path) :
    (commitStepped purpose c s).role p = if s.role p = .fenced then .fenced else if c.owner = some p then .owner
      else if shareReads s.owc.policy then .sharer else .standby := by
  obtain ⟨state, owner, _⟩ := succeed_of_ne other c s.owc
  have recorded : (commitStepped purpose c s).role p = roleFor (s.owc.succeed purpose c) p := by
    refine Eq.trans ?_ (role_refreshRoles p { s with owc := s.owc.succeed purpose c })
    simp [commitStepped_of_ne other, State.role, commitRecorded]
  rw [recorded, roleFor_settled]
  · simp only [owner, Owc.succeed_frame]
    rfl
  · rw [state]
    split <;> decide
  · intro named
    rw [state, owner.symm.trans named]
    exact .inl rfl

/-- The notices of a commit that names an owner or none (R58). -/
theorem commitAnnounced_notified {purpose : Purpose} (other : purpose ≠ .policy) (c : Contents) (s : State) :
    Notified c.owner c.epoch c.count s.owc.policy s (commitAnnounced purpose c s) := by
  obtain ⟨epoch, count, _⟩ := commitStepped_record purpose c s
  obtain ⟨_, owner, _⟩ := succeed_of_ne other c s.owc
  refine Notified.mono ?_ (commitAnnounced_keepsFrames purpose c s)
  refine sendNotices_notified (commitStepped_linkUp purpose c s) ?_ epoch count (commitStepped_role other c s)
  simpa [commitStepped_of_ne other, commitRecorded, refreshRoles_owc] using owner

theorem reportIfOwnerLost_of_live {s : State} (live : ∀ p, s.owc.owner = some p → (s.hmon.get p).health ≠ .lost) :
    reportIfOwnerLost s = s := by
  unfold reportIfOwnerLost
  split
  · next p owner => exact if_neg (live p owner)
  · rfl

/-- The commit's success, reached from the drive's record (R167). -/
theorem exec_commitSuccess {s : State} {status : DriveStatus} {block : List Byte} {attempt : Nat} {purpose : Purpose}
    {c : Contents} (ready : s.dpt.state = .ready) (slots : 2 ≤ s.dpt.slotCount)
    (held : s.holderOf (s.dpt.slotCount - 1) = some (.blockOp .commit attempt))
    (good : status = .good ∨ status = .partialDone) (begun : s.owc.purpose = some purpose)
    (contents : s.owc.contents = some c) :
    exec (.reservedSlotCompletion status 1#16 block) s = .next (commitSuccess purpose c (s.operationTaken status)) := by
  have known : status ≠ .other := by rcases good with rfl | rfl <;> decide
  have ok : operationOk status (1#16).toNat = true := by rcases good with rfl | rfl <;> rfl
  have told : operationSucceeded .commit (s.operationTaken status) = commitSuccess purpose c (s.operationTaken status) := by
    simp [operationSucceeded, operationTaken_owc, begun, contents]
  rw [exec_reservedOperation ready slots held known (by decide), ← told]
  exact congrArg Host.Outcome.next (if_pos ok)

/-- A commit of another purpose than POLICY (R54, R58, R66). -/
theorem commitSuccess_of_ne {purpose : Purpose} (other : purpose ≠ .policy) (c : Contents) (s : State) :
    let t := commitSuccess purpose c s
    t.owc.policy = s.owc.policy ∧ Notified c.owner c.epoch c.count s.owc.policy s t ∧
      (∀ cause, historyCause purpose = some cause →
        t.owc.history = (commitRecord s.owc cause c :: s.owc.history).take 8) ∧
      ((∀ p, c.owner = some p → (s.hmon.get p).health ≠ .lost) →
        t.owc.state = (if c.owner.isSome then .owned else .unowned) ∧ t.owc.owner = c.owner ∧
          t.owc.drainedPath = none ∧ t.owc.orphansAdded = none ∧ t.owc.successor = none ∧ t.hmon = s.hmon) := by
  obtain ⟨state, owner, drained, added, successor⟩ := succeed_of_ne other c s.owc
  have unfolded : commitSuccess purpose c s = reportIfOwnerLost (commitAnnounced purpose c s) := if_neg other
  have stepped := commitStepped_of_ne other c s
  rw [unfolded]
  refine ⟨?_, (commitAnnounced_notified other c s).mono (reportIfOwnerLost_keepsFrames _), fun cause named => ?_,
    fun live => ?_⟩
  · simp [commitAnnounced, stepped, commitRecorded, refreshRoles_owc]
  · simp [commitAnnounced, stepped, commitRecorded, refreshRoles_owc, historyStep_history, named]
  · have announcedOwner : (commitAnnounced purpose c s).owc.owner = c.owner := by
      simp [commitAnnounced, stepped, commitRecorded, refreshRoles_owc, owner]
    have hmon : (commitAnnounced purpose c s).hmon = s.hmon := by
      simp [commitAnnounced, stepped, commitRecorded]
    rw [reportIfOwnerLost_of_live (by rw [announcedOwner, hmon]; exact live)]
    refine ⟨?_, announcedOwner, ?_, ?_, ?_, hmon⟩ <;>
      simp [commitAnnounced, stepped, commitRecorded, refreshRoles_owc, state, drained, added, successor]

/-- A POLICY commit (R54, R65). -/
theorem commitSuccess_policy {c : Contents} {s : State} {r : PolicyRecord} (pending : s.owc.pendingPolicy = some r) :
    let t := commitSuccess .policy c s
    t.owc.policy = r ∧ t.owc.pendingPolicy = none ∧ t.owc.history = s.owc.history ∧
      ∀ p, s.linkUp p = true →
        Carries (t.pif.get p) (.ownershipNotice c.epoch t.owc.owner (t.role p) c.count) := by
  have unfolded : commitSuccess .policy c s = commitAnnounced .policy c s := by
    rw [commitSuccess_eq, if_pos rfl]
  have effect : commitStepped .policy c s = takeEffect r
      { commitRecorded .policy c s with owc := { (commitRecorded .policy c s).owc with pendingPolicy := none } } := by
    refine (policyStep_policy ?_ :)
    simpa [commitRecorded, refreshRoles_owc] using pending
  obtain ⟨epoch, count, _⟩ := commitStepped_record .policy c s
  rw [unfolded]
  refine ⟨?_, ?_, ?_, fun p up => ?_⟩
  · simp [commitAnnounced, effect, takeEffect_policy]
  · simp [commitAnnounced, effect]
  · simp [commitAnnounced, effect, commitRecorded, refreshRoles_owc]
  · have sent := sendNotices_carries (s := commitStepped .policy c s) (p := p) (by rwa [commitStepped_linkUp])
    rw [epoch, count] at sent
    have kept := commitAnnounced_keepsFrames .policy c s p _ rfl sent
    have owner : (commitAnnounced .policy c s).owc.owner = (commitStepped .policy c s).owc.owner := by
      simp [commitAnnounced]
    have role : (commitAnnounced .policy c s).role p = (commitStepped .policy c s).role p := by
      simp [commitAnnounced, State.role]
    rwa [owner, role]

/-- Settles O54: the steps of R54 make the written record current, announce it and answer the request. -/
theorem commitSucceeds : Obligations.CommitSucceeds := by
  intro s status block attempt purpose c ready slots held good begun contents
  let u := s.operationTaken status
  have owc : u.owc = s.owc := operationTaken_owc s status
  have links (p : Path) : u.linkUp p = s.linkUp p := operationTaken_linkUp s status p
  have hmon : u.hmon = s.hmon := by simp [u, State.operationTaken]
  have adm : u.adm = s.adm := by simp [u, State.operationTaken]
  have record := commitStepped_record purpose c u
  have frames : KeepsFrames (commitAnnounced purpose c u) (commitSuccess purpose c u) := by
    rw [commitSuccess_eq]
    split
    · exact .of_pif rfl
    · exact reportIfOwnerLost_keepsFrames _
  have kept : (commitSuccess purpose c u).owc.epoch = c.epoch ∧ (commitSuccess purpose c u).owc.commitCount = c.count ∧
      (commitSuccess purpose c u).owc.owedReplies = (commitAnnounced purpose c u).owc.owedReplies := by
    obtain ⟨epoch, count, _⟩ := record
    rw [commitSuccess_eq]
    split <;> simp [commitAnnounced, epoch, count]
  obtain ⟨epoch, count, owed⟩ := kept
  refine ⟨commitSuccess purpose c u, exec_commitSuccess ready slots held good begun contents, epoch, count, ?_,
    fun r found up => ?_, fun r => ?_, fun other => ?_, ?_⟩
  · simp [adm]
  · exact frames _ _ rfl (commitAnnounced_replied (by rwa [owc]) (by rwa [links]))
  · rw [owed, commitAnnounced_owedReplies, owc]
  · obtain ⟨policy, notified, history, live⟩ := commitSuccess_of_ne other c u
    rw [owc] at policy notified history
    rw [hmon] at live
    exact ⟨policy, notified.of_same (fun p => by rw [State.role, owc, State.role]) links, history, live⟩
  · rintro rfl r pending
    obtain ⟨policy, cleared, history, notices⟩ := commitSuccess_policy (c := c) (s := u) (by rwa [owc])
    rw [owc] at history
    exact ⟨policy, cleared, history, fun p up => notices p (by rwa [links])⟩

end Sys2Proof.Machine
end

section
/-! One entry through the fencing step and the reports (R75 to R78, R128): what each operation leaves of the others. -/

namespace Sys2Proof.Machine

set_option Elab.async false

/-! ## An entry among the removals of others -/

/-- From `e` to `x` an entry has at most been freed by others' removals (R129). -/
def Entry.Freed (e x : Entry) : Prop :=
  ∃ blockers phase, x = { e with blockedBy := blockers, phase := phase } ∧ (phase = .ending ↔ e.phase = .ending)

theorem Entry.Freed.refl (e : Entry) : e.Freed e :=
  ⟨e.blockedBy, e.phase, rfl, Iff.rfl⟩

theorem Entry.Freed.trans {e x y : Entry} (h : e.Freed x) (k : x.Freed y) : e.Freed y := by
  obtain ⟨_, _, rfl, ending⟩ := h
  obtain ⟨blockers, phase, rfl, same⟩ := k
  exact ⟨blockers, phase, rfl, same.trans ending⟩

theorem Entry.Freed.unblock (k : Nat) (e : Entry) : e.Freed (e.unblock k) := by
  refine ⟨_, _, rfl, ?_⟩
  split
  · next blocked => simp [blocked.1]
  · rfl

/-- An operation on the slots of the table does nothing to another slot's entry but to free it (R129). -/
def SparesOthers (op : Nat → State → State) : Prop :=
  ∀ j k s, k ≠ j → (op j s).entry? k = s.entry? k ∨ (op j s).entry? k = (s.entry? k).map (Entry.unblock j)

theorem SparesOthers.entry?_none {op : Nat → State → State} (h : SparesOthers op) {j k : Nat} {s : State} (other : k ≠ j)
    (none : s.entry? k = none) : (op j s).entry? k = .none := by
  rcases h j k s other with same | same <;> rw [same, none]
  rfl

theorem SparesOthers.entry?_some {op : Nat → State → State} (h : SparesOthers op) {j k : Nat} {s : State} {e : Entry}
    (other : k ≠ j) (found : s.entry? k = some e) : ∃ x, (op j s).entry? k = some x ∧ e.Freed x := by
  rcases h j k s other with same | same <;> rw [same, found]
  · exact ⟨e, rfl, .refl e⟩
  · exact ⟨_, rfl, .unblock j e⟩

theorem SparesOthers.entry?_ending {op : Nat → State → State} (h : SparesOthers op) {j k : Nat} {s : State} {e : Entry}
    (other : k ≠ j) (found : s.entry? k = some e) (ending : e.phase = .ending) (free : e.blockedBy = []) :
    (op j s).entry? k = some e := by
  rcases h j k s other with same | same <;> rw [same, found]
  rw [Option.map_some, e.unblock_of_ending j ending free]

theorem sparesOthers_reportSlot : SparesOthers reportSlot :=
  fun j _ s other => (reportSlot_table j s).entry?_ne other

/-! ## An operation on a list of slots -/

theorem forSlots_append (op : Nat → State → State) (l m : List Nat) (s : State) :
    forSlots op (l ++ m) s = forSlots op m (forSlots op l s) := by
  induction l generalizing s with
  | nil => rfl
  | cons k rest ih => exact ih (op k s)

theorem forSlots_keeps {op : Nat → State → State} {P : State → Prop} (h : ∀ k s, P s → P (op k s)) (l : List Nat)
    {s : State} (held : P s) : P (forSlots op l s) := by
  induction l generalizing s with
  | nil => exact held
  | cons k rest ih => exact ih (h k s held)

/-- Slots other than `k` alone. -/
theorem forSlots_keeps_ne {op : Nat → State → State} {P : State → Prop} {k : Nat} (h : ∀ j s, k ≠ j → P s → P (op j s))
    {l : List Nat} (other : k ∉ l) {s : State} (held : P s) : P (forSlots op l s) := by
  induction l generalizing s with
  | nil => exact held
  | cons j rest ih =>
    obtain ⟨ne, rest⟩ := not_or.1 (List.mem_cons.not.1 other)
    exact ih rest (h j s ne held)

theorem SparesOthers.forSlots_none {op : Nat → State → State} (h : SparesOthers op) {k : Nat} {l : List Nat}
    (other : k ∉ l) {s : State} (none : s.entry? k = none) : (forSlots op l s).entry? k = .none :=
  forSlots_keeps_ne (P := fun u => u.entry? k = .none) (fun _ _ ne => h.entry?_none ne) other none

theorem SparesOthers.forSlots_some {op : Nat → State → State} (h : SparesOthers op) {k : Nat} {l : List Nat}
    (other : k ∉ l) {s : State} {e : Entry} (found : s.entry? k = some e) :
    ∃ x, (forSlots op l s).entry? k = some x ∧ e.Freed x := by
  refine forSlots_keeps_ne (P := fun u => ∃ x, u.entry? k = some x ∧ e.Freed x) (fun j u ne held => ?_) other
    ⟨e, found, .refl e⟩
  obtain ⟨x, there, freed⟩ := held
  obtain ⟨y, still, later⟩ := h.entry?_some ne there
  exact ⟨y, still, freed.trans later⟩

theorem SparesOthers.forSlots_ending {op : Nat → State → State} (h : SparesOthers op) {k : Nat} {l : List Nat}
    (other : k ∉ l) {s : State} {e : Entry} (found : s.entry? k = some e) (ending : e.phase = .ending)
    (free : e.blockedBy = []) : (forSlots op l s).entry? k = some e :=
  forSlots_keeps_ne (P := fun u => u.entry? k = some e) (fun _ _ ne there => h.entry?_ending ne there ending free) other
    found

theorem slotsWhere_nodup {s : State} (distinct : SlotsDistinct s) (test : Entry → Bool) :
    (s.slotsWhere test).Nodup :=
  List.pairwise_map.2 (distinct.filter _)

/-- A list of slots read at one slot that it holds: what stands before it and behind it holds others. -/
theorem split_of_mem {k : Nat} {l : List Nat} (listed : k ∈ l) (nodup : l.Nodup) :
    ∃ first rest, l = first ++ k :: rest ∧ k ∉ first ∧ k ∉ rest := by
  obtain ⟨first, rest, rfl⟩ := List.append_of_mem listed
  obtain ⟨_, tail, apart⟩ := List.nodup_append.1 nodup
  exact ⟨first, rest, rfl, fun h => apart k h k (by simp) rfl, (List.nodup_cons.1 tail).1⟩

/-! ## The fencing of an entry -/

/-- An entry that ends by fencing (R76 to R78, R126). -/
def Entry.fenceEnded (e : Entry) : Entry :=
  { e with
    phase := .ending, endStatus := some .fenced, blockedBy := [], returned := [], readGrant := none
    staged := if e.op = .write then e.issued else e.staged
    fencedOutcome := some e.fencingOutcome }

theorem Entry.Freed.fenceEnded {e x : Entry} (h : e.Freed x) : x.fenceEnded = e.fenceEnded := by
  obtain ⟨_, _, rfl, _⟩ := h
  rfl

theorem endEntry_entry? (k : Nat) (st : EndStatus) (j : Nat) (s : State) :
    (endEntry k st s).entry? j = (s.entry? j).map (fun e =>
      if e.slot = k then
        { e with
          phase := .ending, endStatus := some st, blockedBy := [], returned := [], readGrant := none
          staged := if e.op = .write then e.issued else e.staged }
      else e) :=
  entry?_onEntry (f := fun e =>
    { e with
      phase := .ending, endStatus := some st, blockedBy := [], returned := [], readGrant := none
      staged := if e.op = .write then e.issued else e.staged }) (fun _ => rfl) k j _

theorem fenceEntry_reported {k : Nat} {s : State} {e : Entry} (found : s.entry? k = some e) (reported : e.reported = true) :
    fenceEntry k s = dropEntry k (s.onPif e.origin (Pif.keepReply k)) := by
  simp [fenceEntry, found, reported]

theorem fenceEntry_acked {k : Nat} {s : State} {e : Entry} (found : s.entry? k = some e) (reported : e.reported = false)
    (acked : e.op = .write ∧ e.acked = true) : fenceEntry k s = s := by
  simp [fenceEntry, found, reported, acked]

theorem fenceEntry_open {k : Nat} {s : State} {e : Entry} (found : s.entry? k = some e) (reported : e.reported = false)
    (acked : ¬(e.op = .write ∧ e.acked = true)) :
    fenceEntry k s =
      let ended := (endEntry k .fenced s).onEntry k (fun x => { x with fencedOutcome := some e.fencingOutcome })
      if e.op = .read then discardFetched k ended else ended := by
  simp only [fenceEntry, found, reported, Bool.false_eq_true, if_false, if_neg acked]

theorem fenceEntry_entry?_open {k : Nat} {s : State} {e : Entry} (found : s.entry? k = some e) (reported : e.reported = false)
    (acked : ¬(e.op = .write ∧ e.acked = true)) (j : Nat) :
    (fenceEntry k s).entry? j = (s.entry? j).map (fun x =>
      if x.slot = k then { x.fenceEnded with fencedOutcome := some e.fencingOutcome } else x) := by
  have ended : ((endEntry k .fenced s).onEntry k (fun x => { x with fencedOutcome := some e.fencingOutcome })).entry? j =
      (s.entry? j).map (fun x =>
        if x.slot = k then { x.fenceEnded with fencedOutcome := some e.fencingOutcome } else x) := by
    rw [entry?_onEntry (f := fun x => { x with fencedOutcome := some e.fencingOutcome }) fun _ => rfl, endEntry_entry?,
      Option.map_map]
    congr 1
    funext x
    by_cases own : x.slot = k
    · simp [own, Entry.fenceEnded]
    · simp [own]
  rw [fenceEntry_open found reported acked]
  dsimp only
  split
  · exact ended
  · exact ended

theorem fenceEntry_entry?_same {k : Nat} {s : State} {e : Entry} (found : s.entry? k = some e) (reported : e.reported = false)
    (acked : ¬(e.op = .write ∧ e.acked = true)) : (fenceEntry k s).entry? k = some e.fenceEnded := by
  rw [fenceEntry_entry?_open found reported acked, found, Option.map_some, if_pos (mem_of_entry? found).2]
  rfl

/-- The three treatments of an entry at fencing (R76 to R78). -/
theorem fenceEntry_cases (j : Nat) (s : State) :
    fenceEntry j s = s ∨
      (∃ e, s.entry? j = some e ∧ e.reported = true ∧
        fenceEntry j s = dropEntry j (s.onPif e.origin (Pif.keepReply j))) ∨
      ∃ e, s.entry? j = some e ∧ e.reported = false ∧ ¬(e.op = .write ∧ e.acked = true) := by
  cases found : s.entry? j with
  | none => exact .inl (by simp [fenceEntry, found])
  | some e =>
    cases reported : e.reported with
    | true => exact .inr (.inl ⟨e, rfl, reported, fenceEntry_reported found reported⟩)
    | false =>
      by_cases acked : e.op = .write ∧ e.acked = true
      · exact .inl (fenceEntry_acked found reported acked)
      · exact .inr (.inr ⟨e, rfl, reported, acked⟩)

theorem sparesOthers_fenceEntry : SparesOthers fenceEntry := by
  intro j k s other
  rcases fenceEntry_cases j s with same | ⟨e, _, _, dropped⟩ | ⟨e, found, reported, acked⟩
  · exact .inl (by rw [same])
  · right
    rw [dropped, entry?_dropEntry_ne other]
    rfl
  · left
    rw [fenceEntry_entry?_open found reported acked]
    cases there : s.entry? k with
    | none => rfl
    | some x => simp [(mem_of_entry? there).2, other]

end Sys2Proof.Machine
end

section
/-! The table and the pages through fencing, reports and what follows an event (R76 to R78, R121, R129, R146, R148): nothing is
added in the slot of an entry that has ended. -/

namespace Sys2Proof.Machine

set_option Elab.async false

/-! ## Operations that only thin the table and the pages -/

/-- From `x` to `y` an entry keeps its slot and its path, and in ENDING its phase. -/
def Entry.Traces (x y : Entry) : Prop :=
  y.slot = x.slot ∧ y.origin = x.origin ∧ (x.phase = .ending → y.phase = .ending)

/-- From `s` to `t` no entry, no page and no request is added. -/
structure Thins (s t : State) : Prop where
  slots : (t.ift.map Entry.slot).Sublist (s.ift.map Entry.slot)
  entries : ∀ y ∈ t.ift, ∃ x ∈ s.ift, x.Traces y
  pages : ∀ r ∈ t.stb.pages, r ∈ s.stb.pages
  grants : ∀ g ∈ t.stb.grants, g ∈ s.stb.grants

theorem Thins.trans {s t u : State} (h : Thins s t) (k : Thins t u) : Thins s u where
  slots := k.slots.trans h.slots
  entries z hz := by
    obtain ⟨y, hy, slotY, originY, endingY⟩ := k.entries z hz
    obtain ⟨x, hx, slotX, originX, endingX⟩ := h.entries y hy
    exact ⟨x, hx, slotY.trans slotX, originY.trans originX, fun ending => endingY (endingX ending)⟩
  pages r hr := h.pages r (k.pages r hr)
  grants g hg := h.grants g (k.grants g hg)

theorem Thins.of_frame {s t : State} (ift : t.ift = s.ift := by simp) (stb : t.stb = s.stb := by simp) : Thins s t where
  slots := by rw [ift]
  entries y hy := ⟨y, ift ▸ hy, rfl, rfl, id⟩
  pages r hr := stb ▸ hr
  grants g hg := stb ▸ hg

theorem Thins.refl (s : State) : Thins s s :=
  .of_frame rfl rfl

theorem Thins.slotsDistinct {s t : State} (h : Thins s t) (distinct : SlotsDistinct s) : SlotsDistinct t := by
  have nodup : (s.ift.map Entry.slot).Nodup := List.pairwise_map.2 distinct
  exact List.pairwise_map.1 (nodup.sublist h.slots)

theorem Thins.length {s t : State} (h : Thins s t) : t.ift.length ≤ s.ift.length := by
  simpa using h.slots.length_le

theorem Thins.onEntry {k : Nat} {f : Entry → Entry} (s : State) (hf : ∀ x : Entry, x.Traces (f x)) :
    Thins s (s.onEntry k f) where
  slots := by
    have same : (s.onEntry k f).ift.map Entry.slot = s.ift.map Entry.slot := by
      rw [State.onEntry_ift, List.map_map]
      refine List.map_congr_left fun x _ => ?_
      rw [Function.comp_apply]
      split
      · exact (hf x).1
      · rfl
    rw [same]
  entries y hy := by
    obtain ⟨x, hx, rfl⟩ := List.mem_map.1 hy
    refine ⟨x, hx, ?_⟩
    split
    · exact hf x
    · exact ⟨rfl, rfl, id⟩
  pages _ := id
  grants _ := id

theorem Thins.freeWhere (test : PageRecord → Bool) (s : State) : Thins s (s.freeWhere test) where
  slots := List.Sublist.refl _
  entries y hy := ⟨y, hy, rfl, rfl, id⟩
  pages _ hr := (List.mem_filter.1 hr).1
  grants _ := id

theorem Thins.withdrawRequest (k : Nat) (s : State) : Thins s (withdrawRequest k s) where
  slots := List.Sublist.refl _
  entries y hy := ⟨y, hy, rfl, rfl, id⟩
  pages _ := id
  grants _ hg := (List.mem_filter.1 hg).1

theorem Entry.traces_unblock (k : Nat) (e : Entry) : e.Traces (e.unblock k) := by
  obtain ⟨_, _, same, ending⟩ := Entry.Freed.unblock k e
  rw [same]
  exact ⟨rfl, rfl, ending.2⟩

theorem Thins.dropEntry (k : Nat) (s : State) : Thins s (dropEntry k s) where
  slots := by
    have same : (Machine.dropEntry k s).ift.map Entry.slot = (s.ift.filter (fun e => !(e.slot == k))).map Entry.slot := by
      simp [Machine.dropEntry, Machine.withdrawRequest, State.freeWhere, Entry.unblock, Function.comp_def]
    rw [same]
    exact List.filter_sublist.map _
  entries y hy := by
    obtain ⟨x, hx, rfl⟩ := List.mem_map.1 hy
    exact ⟨x, (List.mem_filter.1 hx).1, x.traces_unblock k⟩
  pages _ hr := (List.mem_filter.1 hr).1
  grants _ hg := (List.mem_filter.1 hg).1

theorem Thins.endEntry (k : Nat) (st : EndStatus) (s : State) : Thins s (endEntry k st s) := by
  unfold Machine.endEntry
  refine .trans (.freeWhere _ s) (.trans (.onEntry _ ?_) (.withdrawRequest k _))
  exact fun _ => ⟨rfl, rfl, fun _ => rfl⟩

theorem Thins.discardFetched (k : Nat) (s : State) : Thins s (discardFetched k s) :=
  .freeWhere _ s

theorem fenceEntry_thins (k : Nat) (s : State) : Thins s (fenceEntry k s) := by
  rcases fenceEntry_cases k s with same | ⟨e, _, _, dropped⟩ | ⟨e, found, reported, acked⟩
  · rw [same]
    exact .refl s
  · rw [dropped]
    exact Thins.trans (t := s.onPif e.origin (Pif.keepReply k)) (.of_frame rfl rfl) (.dropEntry k _)
  · have ended := (Thins.endEntry k .fenced s).trans
      (Thins.onEntry (k := k) (f := fun x => { x with fencedOutcome := some e.fencingOutcome }) _
        fun _ => ⟨rfl, rfl, id⟩)
    rw [fenceEntry_open found reported acked]
    dsimp only
    split
    · exact ended.trans (.discardFetched k _)
    · exact ended

theorem reportOrphan_thins (e : Entry) (outcome : Outcome) (s : State) : Thins s (reportOrphan e outcome s) :=
  .of_frame

theorem finalReply_thins (e : Entry) (status : Status) (s : State) : Thins s (finalReply e status s) := by
  have offered (frame : OutFrame) : Thins s (s.offer e.origin (.iftFinal e.slot) frame) := .of_frame
  unfold finalReply
  dsimp only
  split
  · exact (offered _).trans (.onEntry _ fun _ => ⟨rfl, rfl, id⟩)
  · exact (offered _).trans (.dropEntry _ _)

theorem makeReport_thins (e : Entry) (s : State) : Thins s (makeReport e s) := by
  have removed (outcome : Outcome) : Thins s (dropEntry e.slot (reportOrphan e outcome s)) :=
    (reportOrphan_thins e outcome s).trans (.dropEntry _ _)
  unfold makeReport
  split
  · next given _ =>
    have marked (u : State) : Thins u
        (u.onEntry e.slot (fun x => { x with fencedOutcome := some (e.finalOutcome given) })) :=
      .onEntry u fun _ => ⟨rfl, rfl, id⟩
    exact (reportOrphan_thins e _ s).trans ((marked _).trans (finalReply_thins _ _ _))
  · split
    · split
      · exact removed _
      · split
        · exact .dropEntry _ s
        · exact removed _
    · split
      · exact removed _
      · split
        · exact finalReply_thins _ _ s
        · exact .refl s

theorem reportSlot_thins (k : Nat) (s : State) : Thins s (reportSlot k s) := by
  unfold reportSlot
  split
  · exact .refl s
  · split
    · exact (Thins.discardFetched k s).trans (makeReport_thins _ _)
    · exact .refl s

theorem forSlots_thins {op : Nat → State → State} (h : ∀ k s, Thins s (op k s)) (l : List Nat) (s : State) :
    Thins s (forSlots op l s) :=
  forSlots_keeps (P := fun u => Thins s u) (fun k u held => held.trans (h k u)) l (.refl s)

theorem reportAll_thins (s : State) : Thins s (reportAll s) :=
  forSlots_thins reportSlot_thins _ s

/-! ## A slot whose entry has ended -/

/-- The entry in a slot has ended or left the table: no page of it waits, none is asked for it (R126, R148). -/
structure Closed (k : Nat) (op : Op) (s : State) : Prop where
  entry : ∀ x ∈ s.ift, x.slot = k → x.phase = .ending
  grants : ∀ g ∈ s.stb.grants, g.slot ≠ k
  pages : ∀ r ∈ s.stb.pages, r.slot = some k →
    r.state ≠ .staged ∧ r.state ≠ .granted ∧ (op = .read → r.state ≠ .fetched)

theorem Closed.thins {k : Nat} {op : Op} {s t : State} (h : Closed k op s) (thin : Thins s t) : Closed k op t where
  entry y hy own := by
    obtain ⟨x, hx, slot, _, ending⟩ := thin.entries y hy
    exact ending (h.entry x hx (slot.symm.trans own))
  grants g hg := h.grants g (thin.grants g hg)
  pages r hr := h.pages r (thin.pages r hr)

theorem Closed.congr {k : Nat} {op : Op} {s t : State} (h : Closed k op s) (ift : t.ift = s.ift := by simp)
    (stb : t.stb = s.stb := by simp) : Closed k op t :=
  h.thins (.of_frame ift stb)

/-- The fencing step closes the slot of an entry that it ends (R76 to R78). -/
theorem fenceEntry_closed {k : Nat} {s : State} {e : Entry} (found : s.entry? k = some e) (reported : e.reported = false)
    (acked : ¬(e.op = .write ∧ e.acked = true)) : Closed k e.op (fenceEntry k s) := by
  let ended := (endEntry k .fenced s).onEntry k (fun x => { x with fencedOutcome := some e.fencingOutcome })
  have entry : ∀ x ∈ ended.ift, x.slot = k → x.phase = .ending := by
    intro x hx own
    obtain ⟨y, hy, rfl⟩ := List.mem_map.1 hx
    obtain ⟨z, _, rfl⟩ := List.mem_map.1 hy
    by_cases same : z.slot = k
    · simp [same]
    · simp [same] at own
  have grants : ∀ g ∈ ended.stb.grants, g.slot ≠ k := by
    intro g hg
    simpa using (List.mem_filter.1 hg).2
  have pages : ∀ r ∈ ended.stb.pages, r.slot = some k → r.state ≠ .staged ∧ r.state ≠ .granted := by
    intro r hr own
    simpa [own] using (List.mem_filter.1 hr).2
  rw [fenceEntry_open found reported acked]
  dsimp only
  split
  · refine ⟨entry, grants, fun r hr own => ?_⟩
    obtain ⟨kept, left⟩ := List.mem_filter.1 hr
    obtain ⟨staged, granted⟩ := pages r kept own
    exact ⟨staged, granted, fun _ => by simpa [own] using left⟩
  · next other =>
    refine ⟨entry, grants, fun r hr own => ?_⟩
    obtain ⟨staged, granted⟩ := pages r hr own
    exact ⟨staged, granted, fun read => absurd read other⟩

/-! ## What follows an event leaves a closed slot alone -/

theorem Closed.onEntry {j k : Nat} {op : Op} {f : Entry → Entry} {s : State} (h : Closed k op s) (other : k ≠ j)
    (hf : ∀ x, (f x).slot = x.slot) : Closed k op (s.onEntry j f) where
  entry y hy own := by
    obtain ⟨x, hx, rfl⟩ := List.mem_map.1 hy
    split at own
    · next same => exact absurd (own.symm.trans ((hf x).trans same)) other
    · next ne =>
      rw [if_neg ne]
      exact h.entry x hx own
  grants := h.grants
  pages := h.pages

/-- The slot stays closed and its entry is not touched. -/
def LeavesClosed (k : Nat) (op : Op) (s t : State) : Prop :=
  Closed k op t ∧ t.entry? k = s.entry? k

theorem LeavesClosed.trans {k : Nat} {op : Op} {s t u : State} (h : LeavesClosed k op s t)
    (next : Closed k op t → LeavesClosed k op t u) : LeavesClosed k op s u := by
  obtain ⟨closed, same⟩ := h
  obtain ⟨later, still⟩ := next closed
  exact ⟨later, still.trans same⟩

theorem Closed.leaves_of_eq {k : Nat} {op : Op} {s t : State} (h : Closed k op s) (ift : t.ift = s.ift := by simp)
    (stb : t.stb = s.stb := by simp) : LeavesClosed k op s t :=
  ⟨h.congr ift stb, entry?_congr ift k⟩

theorem mem_insertRequest {g x : GrantRequest} {l : List GrantRequest} (h : x ∈ insertRequest g l) :
    x = g ∨ x ∈ l := by
  induction l with
  | nil => simpa [insertRequest] using h
  | cons y rest ih =>
    unfold insertRequest at h
    split at h
    · simpa using h
    · rcases List.mem_cons.1 h with rfl | h
      · simp
      · exact (ih h).imp id (List.mem_cons_of_mem y)

theorem placeRequest_closed {k : Nat} {op : Op} {e : Entry} {s : State} (h : Closed k op s)
    (ended : e.slot = k → e.phase = .ending) : Closed k op (placeRequest e s) := by
  unfold placeRequest
  split
  · next asks =>
    have running : e.phase = .running := by
      simp only [Bool.and_eq_true, Entry.asksGrant, beq_iff_eq] at asks
      exact asks.1.1.1.1.2
    refine ⟨h.entry, fun g hg => ?_, h.pages⟩
    rcases mem_insertRequest hg with rfl | hg
    · exact fun own => by simp [ended own] at running
    · exact h.grants g hg
  · exact h

theorem placeRequests_leaves {k : Nat} {op : Op} {s : State} (h : Closed k op s) :
    LeavesClosed k op s (placeRequests s) := by
  refine ⟨?_, entry?_congr (placeRequests_ift s) k⟩
  have placed (l : List Entry) (ended : ∀ x ∈ l, x.slot = k → x.phase = .ending) (t : State) (closed : Closed k op t) :
      Closed k op (l.foldl (fun u e => placeRequest e u) t) := by
    induction l generalizing t with
    | nil => exact closed
    | cons e rest ih =>
      exact ih (fun x hx => ended x (List.mem_cons_of_mem e hx)) _
        (placeRequest_closed closed (ended e (List.mem_cons_self ..)))
  exact placed s.ift h.entry s h

theorem makeGrant_leaves {k : Nat} {op : Op} {g : GrantRequest} {s : State} (h : Closed k op s) (other : g.slot ≠ k) :
    LeavesClosed k op s (makeGrant g s) := by
  unfold makeGrant
  split
  · exact ⟨h.thins (.withdrawRequest _ s), rfl⟩
  · next e _ =>
    let allocated := allocateRun g.slot g.path e.frontier (s.freePages.take g.length) s
    have ift : allocated.ift = s.ift := by simp [allocated]
    have closed : Closed k op allocated := by
      refine ⟨by rw [ift]; exact h.entry, fun x hx => h.grants x (by simpa [allocated] using hx), fun r hr own => ?_⟩
      rcases mem_allocateRun hr with new | old
      · exact absurd (Option.some.inj (new.symm.trans own)) other
      · exact h.pages r old own
    have tested (u : State) (now : Closed k op u) : LeavesClosed k op u (testHold g.path u) := now.leaves_of_eq
    have granted := closed.onEntry (f := fun x => { x with readGrant := some g.length }) (Ne.symm other) fun _ => rfl
    have same : (allocated.onEntry g.slot (fun x => { x with readGrant := some g.length })).entry? k = s.entry? k :=
      (entry?_onEntry_ne (f := fun x => { x with readGrant := some g.length }) _ (fun _ => rfl) (Ne.symm other)).trans
        (entry?_congr ift k)
    exact LeavesClosed.trans ⟨granted.thins (.withdrawRequest g.slot _), same⟩ (tested _)

theorem walkFrom_leaves {k : Nat} {op : Op} (l : List GrantRequest) (full : Both Bool) {s : State} (h : Closed k op s)
    (others : ∀ g ∈ l, g.slot ≠ k) : LeavesClosed k op s (walkFrom l full s) := by
  induction l generalizing full s with
  | nil => exact ⟨h, rfl⟩
  | cons g rest ih =>
    have later : ∀ x ∈ rest, x.slot ≠ k := fun x hx => others x (List.mem_cons_of_mem g hx)
    unfold walkFrom
    split
    · exact ih full h later
    · split
      · exact ih _ h later
      · split
        · exact ⟨h, rfl⟩
        · exact (makeGrant_leaves h (others g (List.mem_cons_self ..))).trans fun now => ih full now later

theorem walkGrants_leaves {k : Nat} {op : Op} {s : State} (h : Closed k op s) : LeavesClosed k op s (walkGrants s) :=
  (placeRequests_leaves h).trans fun now => walkFrom_leaves _ _ now now.grants

theorem issueSegment_leaves {k driveSlot : Nat} {op : Op} {e : Entry} {run : Run} {s : State} (h : Closed k op s)
    (other : k ≠ e.slot) : LeavesClosed k op s (issueSegment driveSlot e run s) := by
  have marked : Closed k op ((s.takeSlot driveSlot (.segment e.slot run.offset run.length e.op)
      (segmentDescriptor driveSlot e run s)).markPages e.slot run.offset run.length .atDrive) := by
    refine ⟨h.entry, h.grants, fun r hr own => ?_⟩
    obtain ⟨r', hr', rfl⟩ := List.mem_map.1 hr
    by_cases within : r'.within e.slot run.offset run.length
    · simp [within]
    · rw [if_neg within] at own ⊢
      exact h.pages r' hr' own
  exact ⟨marked.onEntry other fun x => by simp, (entry?_onEntry_ne _ (fun x => by simp) other).trans rfl⟩

theorem arbiterGift_leaves {k : Nat} {op : Op} {s t : State} (h : Closed k op s) (gift : arbiterGift s = some t) :
    LeavesClosed k op s t := by
  unfold arbiterGift at gift
  split at gift
  · split at gift
    · next e _ oldest =>
      split at gift
      · next run issuable =>
        cases gift
        have running := Entry.running_of_issuable (e := e) (by rw [issuable]; rfl)
        have other : k ≠ e.slot := fun own => by
          simp [h.entry e (List.mem_of_find?_eq_some oldest) own.symm] at running
        exact (issueSegment_leaves h other).trans walkGrants_leaves
      · cases gift
    · cases gift
  · cases gift

theorem arbiterRuns_leaves {k : Nat} {op : Op} (n : Nat) {s : State} (h : Closed k op s) :
    LeavesClosed k op s (arbiterRuns n s) := by
  induction n generalizing s with
  | zero => exact ⟨h, rfl⟩
  | succ n ih =>
    unfold arbiterRuns
    split
    · next gift => exact (arbiterGift_leaves h gift).trans ih
    · exact ⟨h, rfl⟩

theorem follow_leaves {k : Nat} {op : Op} (before : State) {s : State} (h : Closed k op s) :
    LeavesClosed k op s (follow before s) := by
  have tested (p : Path) (u : State) (now : Closed k op u) : LeavesClosed k op u (testGoAfter before p u) :=
    now.leaves_of_eq
  have offered (p : Path) (u : State) (now : Closed k op u) : LeavesClosed k op u (offerReadData p u) :=
    now.leaves_of_eq
  exact ((((((tested .a s h).trans (tested .b _)).trans walkGrants_leaves).trans (arbiterRuns_leaves _)).trans
    (offered .a _)).trans (offered .b _))

end Sys2Proof.Machine
end

section
/-! The report of a fenced entry (R89, R90, R128): its record stands in the orphan list to the end of the event, because a
report is made once for each of at most 32 entries. -/

namespace Sys2Proof.Machine

set_option Elab.async false

/-! ## The reports still to be made -/

/-- The number of entries whose report has not been made. -/
def State.unreported (s : State) : Nat :=
  s.ift.countP (fun e => !e.reported)

/-- The number of such entries in slots other than `k`. -/
def State.othersUnreported (s : State) (k : Nat) : Nat :=
  s.ift.countP (fun e => !e.reported && !(e.slot == k))

theorem unreported_dropEntry (k : Nat) (s : State) : (dropEntry k s).unreported = s.othersUnreported k := by
  have same : (dropEntry k s).ift = (s.ift.filter (fun e => !(e.slot == k))).map (Entry.unblock k) := rfl
  rw [State.unreported, same, List.countP_map, List.countP_filter]
  rfl

theorem unreported_marked (k : Nat) (s : State) :
    (s.onEntry k (fun x => { x with reported := true })).unreported = s.othersUnreported k := by
  rw [State.unreported, State.onEntry_ift, List.countP_map]
  refine List.countP_congr fun e _ => ?_
  rw [Function.comp_apply]
  by_cases own : e.slot = k <;> simp [own]

theorem othersUnreported_onEntry {k : Nat} {f : Entry → Entry} (s : State) (slot : ∀ x, (f x).slot = x.slot) :
    (s.onEntry k f).othersUnreported k = s.othersUnreported k := by
  rw [State.othersUnreported, State.onEntry_ift, List.countP_map]
  refine List.countP_congr fun e _ => ?_
  rw [Function.comp_apply]
  by_cases own : e.slot = k <;> simp [own, slot]

theorem othersUnreported_reportOrphan (k : Nat) (e : Entry) (outcome : Outcome) (s : State) :
    (reportOrphan e outcome s).othersUnreported k = s.othersUnreported k := by
  simp [State.othersUnreported]

/-- An entry whose report is still to be made counts itself. -/
theorem othersUnreported_lt {k : Nat} {s : State} {e : Entry} (found : s.entry? k = some e) (reported : e.reported = false) :
    s.othersUnreported k < s.unreported := by
  obtain ⟨member, slot⟩ := mem_of_entry? found
  have split : s.unreported = s.ift.countP (fun e => !e.reported && !(e.slot == k)) +
      s.ift.countP (fun e => !e.reported && (e.slot == k)) := by
    rw [State.unreported, List.countP_eq_countP_filter_add s.ift _ (fun e => !(e.slot == k)), List.countP_filter,
      List.countP_filter]
    simp
  have counted : 0 < s.ift.countP (fun e => !e.reported && (e.slot == k)) :=
    List.countP_pos_iff.2 ⟨e, member, by simp [reported, slot]⟩
  rw [split, State.othersUnreported]
  omega

theorem unreported_finalReply (e : Entry) (status : Status) (s : State) :
    (finalReply e status s).unreported = s.othersUnreported e.slot := by
  have offered (frame : OutFrame) :
      (s.offer e.origin (.iftFinal e.slot) frame).othersUnreported e.slot = s.othersUnreported e.slot := rfl
  unfold finalReply
  dsimp only
  split
  · rw [unreported_marked, offered]
  · rw [unreported_dropEntry, offered]

/-! ## A record of the orphan list -/

/-- The orphan list holds a record, and the reports still to be made cannot push it out (R90). -/
def HoldsOrphan (r : OrphanRecord) (s : State) : Prop :=
  ∃ older newer, s.owc.orphans = older ++ r :: newer ∧ newer.length + s.unreported < 32

theorem HoldsOrphan.mem {r : OrphanRecord} {s : State} (h : HoldsOrphan r s) : r ∈ s.owc.orphans := by
  obtain ⟨older, newer, list, _⟩ := h
  simp [list]

theorem HoldsOrphan.kept {r : OrphanRecord} {s t : State} (h : HoldsOrphan r s) (orphans : t.owc.orphans = s.owc.orphans)
    (fewer : t.unreported ≤ s.unreported) : HoldsOrphan r t := by
  obtain ⟨older, newer, list, room⟩ := h
  exact ⟨older, newer, orphans.trans list, by omega⟩

/-- A record added by a report that then counts no more (R90). -/
theorem HoldsOrphan.added {r other : OrphanRecord} {s t : State} (h : HoldsOrphan r s)
    (orphans : t.owc.orphans = (s.owc.withOrphan other).orphans) (fewer : t.unreported < s.unreported) :
    HoldsOrphan r t := by
  obtain ⟨older, newer, list, room⟩ := h
  have space : (newer ++ [other]).length + t.unreported < 32 := by
    rw [List.length_append, List.length_singleton]
    omega
  unfold Owc.withOrphan at orphans
  dsimp only at orphans
  rw [list] at orphans
  split at orphans
  · next full =>
    cases older with
    | nil =>
      have long : Config.orphanDepth = 32 := rfl
      simp only [List.nil_append, List.length_cons] at full
      omega
    | cons oldest older => exact ⟨older, newer ++ [other], by simpa using orphans, space⟩
  · exact ⟨older, newer ++ [other], by simpa using orphans, space⟩

theorem reportOrphan_orphans (e : Entry) (outcome : Outcome) (s : State) :
    (reportOrphan e outcome s).owc.orphans = (s.owc.withOrphan (e.orphan outcome)).orphans := by
  unfold reportOrphan addOrphan
  split <;> simp [Owc.withOrphan]

/-- A report adds one record at most, and with it its entry counts no more (R128, R129). -/
theorem makeReport_orphans {e : Entry} {s : State} (found : s.entry? e.slot = some e) (reported : e.reported = false) :
    ((makeReport e s).owc.orphans = s.owc.orphans ∧ (makeReport e s).unreported ≤ s.unreported) ∨
      ∃ other, (makeReport e s).owc.orphans = (s.owc.withOrphan other).orphans ∧
        (makeReport e s).unreported < s.unreported := by
  have fewer := othersUnreported_lt found reported
  have removed (outcome : Outcome) :
      (dropEntry e.slot (reportOrphan e outcome s)).owc.orphans = (s.owc.withOrphan (e.orphan outcome)).orphans ∧
        (dropEntry e.slot (reportOrphan e outcome s)).unreported < s.unreported := by
    refine ⟨reportOrphan_orphans e outcome s, ?_⟩
    rwa [unreported_dropEntry, othersUnreported_reportOrphan]
  unfold makeReport
  split
  · next given _ =>
    refine .inr ⟨e.orphan (e.finalOutcome given), ?_, ?_⟩
    · rw [← reportOrphan_orphans e (e.finalOutcome given) s]
      simp
    · rw [unreported_finalReply, othersUnreported_onEntry _ (by exact fun _ => rfl)]
      rwa [othersUnreported_reportOrphan]
  · split
    · split
      · exact .inr ⟨_, removed _⟩
      · split
        · exact .inl ⟨rfl, by rw [unreported_dropEntry]; exact fewer.le⟩
        · exact .inr ⟨_, removed _⟩
    · split
      · exact .inr ⟨_, removed _⟩
      · split
        · exact .inl ⟨by simp, by rw [unreported_finalReply]; exact fewer.le⟩
        · exact .inl ⟨rfl, le_rfl⟩

theorem reportSlot_holdsOrphan {r : OrphanRecord} (k : Nat) {s : State} (h : HoldsOrphan r s) :
    HoldsOrphan r (reportSlot k s) := by
  unfold reportSlot
  split
  · exact h
  · next e found =>
    split
    · next due =>
      have unmade : e.reported = false := by
        simp only [State.reportDue, Bool.and_eq_true, Bool.not_eq_true'] at due
        exact due.1.1.2
      have slot := (mem_of_entry? found).2
      have discarded : HoldsOrphan r (discardFetched k s) := h.kept rfl le_rfl
      have there : (discardFetched k s).entry? e.slot = some e := by rw [slot]; exact found
      rcases makeReport_orphans there unmade with ⟨same, fewer⟩ | ⟨other, added, fewer⟩
      · exact discarded.kept same fewer
      · exact discarded.added added fewer
    · exact h

theorem reportAll_holdsOrphan {r : OrphanRecord} {s : State} (h : HoldsOrphan r s) : HoldsOrphan r (reportAll s) :=
  forSlots_keeps (P := HoldsOrphan r) (fun k _ => reportSlot_holdsOrphan k) _ h

/-! ## The report of a fenced entry -/

/-- An entry that fencing has ended, with nothing outstanding, is due (R126, R128). -/
theorem reportDue_fenceEnded {e : Entry} (s : State) (reported : e.reported = false) (idle : e.outstanding = []) :
    s.reportDue e.fenceEnded = true := by
  simp [State.reportDue, State.deliverable, Entry.delivering, Entry.fenceEnded, reported, idle]

/-- The orphan record of an entry that ends by fencing (R89). -/
def Entry.fencedRecord (e : Entry) : OrphanRecord :=
  e.fenceEnded.orphan (e.fenceEnded.finalOutcome e.fencingOutcome)

theorem reportSlot_fenceEnded {k : Nat} {s : State} {e : Entry} (found : s.entry? k = some e.fenceEnded)
    (reported : e.reported = false) (idle : e.outstanding = []) (small : s.ift.length ≤ 32) :
    HoldsOrphan e.fencedRecord (reportSlot k s) ∧
      (s.linkUp e.origin = true →
        Carries ((reportSlot k s).pif.get e.origin)
          (.reply e.tag .orphaned (BitVec.ofNat 16 e.doneBlocks) s.owc.epoch)) := by
  have slot : e.slot = k := (mem_of_entry? found).2
  have made : reportSlot k s = makeReport e.fenceEnded (discardFetched k s) := by
    rw [reportSlot, found]
    exact if_pos (reportDue_fenceEnded s reported idle)
  let recorded := (reportOrphan e.fenceEnded (e.fenceEnded.finalOutcome e.fencingOutcome) (discardFetched k s)).onEntry
    e.fenceEnded.slot (fun x => { x with fencedOutcome := some (e.fenceEnded.finalOutcome e.fencingOutcome) })
  have replied : reportSlot k s = finalReply e.fenceEnded .orphaned recorded := made
  rw [replied]
  refine ⟨?_, fun up => ?_⟩
  · have list : (finalReply e.fenceEnded .orphaned recorded).owc.orphans =
        ((discardFetched k s).owc.withOrphan e.fencedRecord).orphans := by
      rw [Entry.fencedRecord, ← reportOrphan_orphans]
      simp [recorded]
    have others : (finalReply e.fenceEnded .orphaned recorded).unreported = s.othersUnreported k := by
      rw [unreported_finalReply, ← slot]
      exact othersUnreported_onEntry _ (by exact fun _ => rfl) |>.trans
        (othersUnreported_reportOrphan _ _ _ _)
    have fewer := othersUnreported_lt found (reported : e.fenceEnded.reported = false)
    have most : s.unreported ≤ s.ift.length := List.countP_le_length
    refine ⟨_, [], list, ?_⟩
    rw [others, List.length_nil]
    omega
  · have sent := finalReply_carries (e := e.fenceEnded) (status := .orphaned) (s := recorded)
      (State.linkUp_eq_true.1 ((linkUp_of_link (by simp [recorded])).trans up))
    rwa [(by simp [recorded] : recorded.owc.epoch = s.owc.epoch)] at sent

/-- Over the reports of an event (R128). -/
theorem reportAll_fenceEnded {k : Nat} {s : State} {e : Entry} (distinct : SlotsDistinct s)
    (found : s.entry? k = some e.fenceEnded) (reported : e.reported = false) (idle : e.outstanding = [])
    (small : s.ift.length ≤ 32) :
    HoldsOrphan e.fencedRecord (reportAll s) ∧
      (s.linkUp e.origin = true →
        Carries ((reportAll s).pif.get e.origin)
          (.reply e.tag .orphaned (BitVec.ofNat 16 e.doneBlocks) s.owc.epoch)) := by
  obtain ⟨member, slot⟩ := mem_of_entry? found
  have listed : k ∈ s.slotsWhere (fun _ => true) := slot ▸ List.mem_map_of_mem (List.mem_filter.2 ⟨member, rfl⟩)
  obtain ⟨first, rest, list, before, _⟩ := split_of_mem listed (slotsWhere_nodup distinct _)
  let reached := forSlots reportSlot first s
  have unfolded : reportAll s = forSlots reportSlot rest (reportSlot k reached) := by
    rw [reportAll, list, forSlots_append]
    rfl
  have there : reached.entry? k = some e.fenceEnded :=
    sparesOthers_reportSlot.forSlots_ending before found rfl rfl
  have few : reached.ift.length ≤ 32 := (forSlots_thins reportSlot_thins first s).length.trans small
  obtain ⟨held, sent⟩ := reportSlot_fenceEnded there reported idle few
  rw [unfolded]
  refine ⟨forSlots_keeps (P := HoldsOrphan e.fencedRecord) (fun j _ => reportSlot_holdsOrphan j) rest held, fun up => ?_⟩
  have reply := sent ((linkUp_of_link (by simp [reached])).trans up)
  rw [(by simp [reached] : reached.owc.epoch = s.owc.epoch)] at reply
  exact ((forSlots_advances reportSlot_advances rest _).pif e.origin).carries _ reply

end Sys2Proof.Machine
end

section
/-! The fencing step over the table (R75 to R78): what becomes of each entry of the fenced path. -/

namespace Sys2Proof.Machine

set_option Elab.async false

/-! ## The fencing step before it reaches the entries -/

/-- The queued frames answered, the path's READ_DATA withdrawn and the position that this frees taken (R75, R77). -/
def answeredAtFence (p : Path) (s : State) : State :=
  (s.pif.get p).rxq.foldl (answerFenced p) ((setRole p .fenced s).onPif p Pif.emptyReceive)

def fencing (p : Path) (s : State) : State :=
  enterWaiting p (withdrawPathReadData p (answeredAtFence p s))

theorem fence_eq (p : Path) (s : State) :
    fence p s =
      reportAll (forSlots fenceEntry ((fencing p s).slotsWhere (fun e => e.origin == p)) (fencing p s)) := rfl

/-- No frame waits whose entry into the queue would remove the entry in a slot (R128). -/
def NoFinalWaits (k : Nat) (f : Pif) : Prop :=
  ∀ w ∈ f.waiting, w.producer ≠ .iftFinal k

theorem noFinalWaits_offer {k : Nat} {f : Pif} {producer : Producer} (x : TxItem) (h : NoFinalWaits k f)
    (other : producer ≠ .iftFinal k) : NoFinalWaits k (f.offer producer x) := by
  unfold Pif.offer
  split
  · exact h
  · split
    · have same : (f.enqueue x).waiting = f.waiting := by simp
      unfold NoFinalWaits
      rwa [same]
    · intro w hw
      rcases List.mem_append.1 hw with old | new
      · exact h w old
      · rw [List.mem_singleton.1 new]
        exact other

theorem answerFenced_waits {k : Nat} {p : Path} {s : State} (frame : QueuedFrame) (h : NoFinalWaits k (s.pif.get p)) :
    NoFinalWaits k ((answerFenced p s frame).pif.get p) := by
  unfold answerFenced
  split
  · rw [State.offer, State.onPif_get_same]
    exact noFinalWaits_offer _ h (by simp)
  · exact h

theorem answersFenced_waits {k : Nat} {p : Path} (l : List QueuedFrame) {s : State} (h : NoFinalWaits k (s.pif.get p)) :
    NoFinalWaits k ((l.foldl (answerFenced p) s).pif.get p) := by
  induction l generalizing s with
  | nil => exact h
  | cons frame rest ih => exact ih (answerFenced_waits frame h)

theorem answersFenced_frame (p : Path) (l : List QueuedFrame) (s : State) :
    (l.foldl (answerFenced p) s).ift = s.ift ∧ (l.foldl (answerFenced p) s).owc = s.owc := by
  induction l generalizing s with
  | nil => exact ⟨rfl, rfl⟩
  | cons frame rest ih =>
    obtain ⟨ift, owc⟩ := ih (answerFenced p s frame)
    exact ⟨ift.trans (by simp), owc.trans (by simp)⟩

theorem withdrawPathReadData_waits {k : Nat} {p : Path} {s : State} (h : NoFinalWaits k (s.pif.get p)) :
    NoFinalWaits k ((withdrawPathReadData p s).pif.get p) := by
  have filtered (u : State) (same : u.pif = s.pif) : NoFinalWaits k ((u.onPif p Pif.withdrawReadData).pif.get p) := by
    rw [State.onPif_get_same, same]
    exact fun w hw => h w (List.mem_filter.1 hw).1
  unfold withdrawPathReadData
  dsimp only
  split
  · exact filtered _ rfl
  · exact filtered s rfl

theorem entering_producer {f : Pif} {producer : Producer} (h : f.entering = some producer) :
    ∃ w ∈ f.waiting, w.producer = producer := by
  unfold Pif.entering at h
  split at h
  · cases h
  · next w rest waiting =>
    obtain ⟨_, same⟩ := Option.ite_none_right_eq_some.1 h
    exact ⟨w, by simp [waiting], Option.some.inj same⟩

theorem enterWaiting_thins (p : Path) (s : State) : Thins s (enterWaiting p s) := by
  have entered : Thins s (s.onPif p Pif.enterWaiting) := .of_frame rfl rfl
  unfold enterWaiting
  dsimp only
  split
  · exact entered.trans (.dropEntry _ _)
  · exact entered

theorem enterWaiting_entry? {k : Nat} {p : Path} {s : State} {e : Entry} (found : s.entry? k = some e)
    (waits : NoFinalWaits k (s.pif.get p)) : ∃ x, (enterWaiting p s).entry? k = some x ∧ e.Freed x := by
  unfold enterWaiting
  dsimp only
  split
  · next slot enters =>
    have other : k ≠ slot := by
      rintro rfl
      obtain ⟨w, hw, producer⟩ := entering_producer enters
      exact waits w hw producer
    refine ⟨e.unblock slot, ?_, .unblock slot e⟩
    have there : (s.onPif p Pif.enterWaiting).entry? k = some e := found
    rw [entry?_dropEntry_ne other, there, Option.map_some]
  · exact ⟨e, found, .refl e⟩

theorem withdrawn_ift (p : Path) (s : State) : (withdrawPathReadData p (answeredAtFence p s)).ift = s.ift := by
  have answered : (answeredAtFence p s).ift = s.ift := (answersFenced_frame p _ _).1
  rw [← answered]
  simp

theorem fencing_slotsDistinct {p : Path} {s : State} (distinct : SlotsDistinct s) : SlotsDistinct (fencing p s) :=
  (enterWaiting_thins p _).slotsDistinct (distinct.congr (withdrawn_ift p s))

theorem fencing_length (p : Path) (s : State) : (fencing p s).ift.length ≤ s.ift.length := by
  have thin := (enterWaiting_thins p (withdrawPathReadData p (answeredAtFence p s))).length
  rwa [withdrawn_ift] at thin

theorem fencing_owc (p : Path) (s : State) : (fencing p s).owc = (setRole p .fenced s).owc := by
  have answered : (answeredAtFence p s).owc = (setRole p .fenced s).owc := (answersFenced_frame p _ _).2
  rw [← answered]
  simp [fencing]

theorem fencing_entry? {k : Nat} {p : Path} {s : State} {e : Entry} (found : s.entry? k = some e)
    (waits : NoFinalWaits k (s.pif.get p)) : ∃ x, (fencing p s).entry? k = some x ∧ e.Freed x := by
  refine enterWaiting_entry? ((entry?_congr (withdrawn_ift p s) k).trans found)
    (withdrawPathReadData_waits (answersFenced_waits _ ?_))
  rw [State.onPif_get_same]
  exact waits

/-! ## The entries of the fenced path -/

/-- Each entry of a chosen set is treated once, by its class (R76 to R78). -/
theorem fenceEntries_entry? {k : Nat} {s : State} {x : Entry} {test : Entry → Bool} (distinct : SlotsDistinct s)
    (found : s.entry? k = some x) (chosen : test x = true) :
    let t := forSlots fenceEntry (s.slotsWhere test) s
    (x.reported = true → t.entry? k = none) ∧
      (x.reported = false → x.op = .write ∧ x.acked = true → ∃ y, t.entry? k = some y ∧ x.Freed y) ∧
      (x.reported = false → ¬(x.op = .write ∧ x.acked = true) → t.entry? k = some x.fenceEnded ∧ Closed k x.op t) := by
  obtain ⟨member, slot⟩ := mem_of_entry? found
  have listed : k ∈ s.slotsWhere test := slot ▸ List.mem_map_of_mem (List.mem_filter.2 ⟨member, chosen⟩)
  obtain ⟨first, rest, list, before, after⟩ := split_of_mem listed (slotsWhere_nodup distinct test)
  obtain ⟨y, there, freed⟩ := sparesOthers_fenceEntry.forSlots_some before found
  have same : y.reported = x.reported ∧ y.op = x.op ∧ y.acked = x.acked := by
    obtain ⟨_, _, rfl, _⟩ := freed
    exact ⟨rfl, rfl, rfl⟩
  obtain ⟨reported, op, acked⟩ := same
  have unfolded : forSlots fenceEntry (s.slotsWhere test) s =
      forSlots fenceEntry rest (fenceEntry k (forSlots fenceEntry first s)) := by
    rw [list, forSlots_append]
    rfl
  rw [unfolded]
  refine ⟨fun h => ?_, fun h acknowledged => ?_, fun h acknowledged => ?_⟩
  · rw [fenceEntry_reported there (reported.trans h)]
    exact sparesOthers_fenceEntry.forSlots_none after (entry?_dropEntry_same k _)
  · rw [fenceEntry_acked there (reported.trans h) (by rwa [op, acked])]
    obtain ⟨z, still, later⟩ := sparesOthers_fenceEntry.forSlots_some after there
    exact ⟨z, still, freed.trans later⟩
  · have unacked : ¬(y.op = .write ∧ y.acked = true) := by rwa [op, acked]
    have ended := fenceEntry_entry?_same there (reported.trans h) unacked
    have closed := fenceEntry_closed there (reported.trans h) unacked
    rw [freed.fenceEnded] at ended
    rw [op] at closed
    exact ⟨sparesOthers_fenceEntry.forSlots_ending after ended rfl rfl, closed.thins (forSlots_thins fenceEntry_thins rest _)⟩

end Sys2Proof.Machine
end

section
/-! The fencing drain (R72, R75 to R78, R80): what stands at the end of the event that fences a path. -/

namespace Sys2Proof.Machine

set_option Elab.async false

/-! ## Entries that have not ended -/

theorem reportSlot_entry?_living {j k : Nat} {s : State} {e : Entry} (found : s.entry? k = some e)
    (living : e.phase ≠ .ending) : ∃ x, (reportSlot j s).entry? k = some x ∧ e.Freed x := by
  by_cases own : k = j
  · subst own
    have still : reportSlot k s = s := reportSlot_of_not_due fun x hx => by
      rw [found] at hx
      cases hx
      exact reportDue_of_not_ending living
    exact ⟨e, by rwa [still], .refl e⟩
  · exact sparesOthers_reportSlot.entry?_some own found

theorem reportAll_entry?_living {k : Nat} {s : State} {e : Entry} (found : s.entry? k = some e)
    (living : e.phase ≠ .ending) : ∃ x, (reportAll s).entry? k = some x ∧ e.Freed x := by
  refine forSlots_keeps (P := fun u => ∃ x, u.entry? k = some x ∧ e.Freed x) (fun j u held => ?_) _ ⟨e, found, .refl e⟩
  obtain ⟨x, there, freed⟩ := held
  have still : x.phase ≠ .ending := by
    obtain ⟨_, _, rfl, ending⟩ := freed
    exact fun h => living (ending.1 h)
  obtain ⟨y, later, again⟩ := reportSlot_entry?_living (j := j) there still
  exact ⟨y, later, freed.trans again⟩

/-- What follows an event leaves an entry of the table what grants and gifts do not change. -/
theorem entry?_standing {k : Nat} {s t : State} {e : Entry} (h : t.standing = s.standing) (found : s.entry? k = some e) :
    ∃ x, t.entry? k = some x ∧ x.standing = e.standing := by
  have read (u : State) : (u.entry? k).map Entry.standing = u.standing.find? (fun e => e.slot == k) := by
    rw [State.entry?, State.standing, List.find?_map]
    rfl
  have same : (t.entry? k).map Entry.standing = some e.standing := by
    rw [read, h, ← read, found, Option.map_some]
  obtain ⟨x, there, standing⟩ := Option.map_eq_some_iff.1 same
  exact ⟨x, there, standing⟩

/-! ## The entries of the path left in the table -/

/-- Of the entries of a path only acknowledged writes and entries with a fenced outcome are left (R76 to R78). -/
def TableFenced (p : Path) (s : State) : Prop :=
  ∀ e ∈ s.ift, e.origin = p → (e.op = .write ∧ e.acked = true) ∨ e.fencedOutcome.isSome = true

theorem TableFenced.congr {p : Path} {s t : State} (h : TableFenced p s) (ift : t.ift = s.ift := by simp) :
    TableFenced p t := by
  unfold TableFenced
  rwa [ift]

theorem TableFenced.dropEntry {p : Path} {s : State} (k : Nat) (h : TableFenced p s) : TableFenced p (dropEntry k s) := by
  intro y hy origin
  obtain ⟨x, hx, rfl⟩ := List.mem_map.1 hy
  exact h x (List.mem_filter.1 hx).1 origin

theorem TableFenced.onEntry {p : Path} {s : State} {k : Nat} {f : Entry → Entry} (h : TableFenced p s)
    (hf : ∀ x : Entry, (f x).origin = x.origin ∧ (f x).op = x.op ∧ (f x).acked = x.acked ∧
      (x.fencedOutcome.isSome = true → (f x).fencedOutcome.isSome = true)) : TableFenced p (s.onEntry k f) := by
  intro y hy path
  obtain ⟨x, hx, rfl⟩ := List.mem_map.1 hy
  split at path
  · next own =>
    obtain ⟨origin, op, acked, outcome⟩ := hf x
    rw [if_pos own, op, acked]
    exact (h x hx (origin.symm.trans path)).imp id outcome
  · next other =>
    rw [if_neg other]
    exact h x hx path

theorem TableFenced.finalReply {p : Path} {s : State} (e : Entry) (status : Status) (h : TableFenced p s) :
    TableFenced p (finalReply e status s) := by
  have offered (frame : OutFrame) : TableFenced p (s.offer e.origin (.iftFinal e.slot) frame) := h
  unfold Machine.finalReply
  dsimp only
  split
  · exact (offered _).onEntry fun _ => ⟨rfl, rfl, rfl, id⟩
  · exact (offered _).dropEntry _

theorem TableFenced.makeReport {p : Path} {s : State} (e : Entry) (h : TableFenced p s) : TableFenced p (makeReport e s) := by
  have recorded (outcome : Outcome) : TableFenced p (reportOrphan e outcome s) := h.congr
  have marked (given : Outcome) (u : State) (held : TableFenced p u) :
      TableFenced p (u.onEntry e.slot (fun x => { x with fencedOutcome := some (e.finalOutcome given) })) :=
    held.onEntry fun _ => ⟨rfl, rfl, rfl, fun _ => rfl⟩
  unfold Machine.makeReport
  split
  · exact (marked _ _ (recorded _)).finalReply e _
  · split
    · split
      · exact (recorded _).dropEntry _
      · split
        · exact h.dropEntry _
        · exact (recorded _).dropEntry _
    · split
      · exact (recorded _).dropEntry _
      · split
        · exact h.finalReply e _
        · exact h

theorem TableFenced.reportSlot {p : Path} {s : State} (k : Nat) (h : TableFenced p s) : TableFenced p (reportSlot k s) := by
  unfold Machine.reportSlot
  split
  · exact h
  · split
    · exact TableFenced.makeReport _ h
    · exact h

theorem TableFenced.reportAll {p : Path} {s : State} (h : TableFenced p s) : TableFenced p (reportAll s) :=
  forSlots_keeps (P := TableFenced p) (fun k _ => TableFenced.reportSlot k) _ h

theorem TableFenced.standing {p : Path} {s t : State} (h : TableFenced p s) (same : t.standing = s.standing) :
    TableFenced p t := by
  intro y hy origin
  have listed : y.standing ∈ s.standing := same ▸ List.mem_map_of_mem hy
  obtain ⟨x, hx, standing⟩ := List.mem_map.1 listed
  have op : y.op = x.op := (congrArg (fun e => e.op) standing).symm
  have acked : y.acked = x.acked := (congrArg (fun e => e.acked) standing).symm
  have outcome : y.fencedOutcome = x.fencedOutcome := (congrArg (fun e => e.fencedOutcome) standing).symm
  rw [op, acked, outcome]
  exact h x hx ((congrArg (fun e => e.origin) standing).trans origin)

theorem TableFenced.conclude {p : Path} {s : State} (before : State) (h : TableFenced p s) :
    TableFenced p (conclude before s) := by
  have checked : TableFenced p (checkDrainEnd (Machine.reportAll s)) := h.reportAll.congr
  exact checked.standing (follow_standing before _)

/-- The treatment of a path's entries leaves none of another kind (R76 to R78). -/
theorem fenceEntries_tableFenced (p : Path) {s : State} (distinct : SlotsDistinct s) :
    TableFenced p (forSlots fenceEntry (s.slotsWhere (fun e => e.origin == p)) s) := by
  intro y hy origin
  have thin := forSlots_thins fenceEntry_thins (s.slotsWhere (fun e => e.origin == p)) s
  obtain ⟨x, hx, slot, same, _⟩ := thin.entries y hy
  have there := entry?_of_mem (thin.slotsDistinct distinct) hy
  obtain ⟨reported, acked, other⟩ := fenceEntries_entry? distinct (entry?_of_mem distinct hx)
    (test := fun e => e.origin == p) (by simp [← same, origin])
  rw [slot] at there
  cases made : x.reported with
  | true =>
    rw [reported made] at there
    cases there
  | false =>
    by_cases acknowledged : x.op = .write ∧ x.acked = true
    · obtain ⟨z, found, freed⟩ := acked made acknowledged
      rw [there] at found
      cases found
      obtain ⟨_, _, rfl, _⟩ := freed
      exact .inl acknowledged
    · obtain ⟨found, _⟩ := other made acknowledged
      rw [there] at found
      cases found
      exact .inr rfl

/-! ## One entry to the end of the event -/

theorem Closed.conclude {k : Nat} {op : Op} {s : State} (before : State) (h : Closed k op s) :
    Closed k op (conclude before s) ∧ (conclude before s).entry? k = (reportAll s).entry? k := by
  have checked : Closed k op (checkDrainEnd (reportAll s)) := (h.thins (reportAll_thins s)).congr
  obtain ⟨closed, same⟩ := follow_leaves before checked
  exact ⟨closed, same.trans (entry?_congr (by simp) k)⟩

theorem conclude_orphans (before s : State) : (conclude before s).owc.orphans = (reportAll s).owc.orphans := by
  simp [conclude]

/-- The outcome that fencing gives, as R76 to R78 state it. -/
theorem Entry.fencingOutcome_eq (e : Entry) :
    e.fencingOutcome =
      match e.op with
      | .flush => .notStarted
      | .write => if e.outstanding = [] ∧ e.issued = 0 then .notStarted else .torn
      | .read => if e.outstanding = [] ∧ e.issued = 0 then .notStarted else .readCut := by
  unfold Entry.fencingOutcome
  cases e.op <;> simp

end Sys2Proof.Machine
end

section
/-! One entry of a fenced path from the fencing step to the end of the event (R75 to R78, R128). -/

namespace Sys2Proof.Machine

set_option Elab.async false

/-- The state after the fencing step, with the drain's record and the roles in place. -/
def fencedWith (p : Path) (r : State) (o : Owc) : State :=
  { fence p r with owc := o }

theorem Entry.doneBlocks_eq (e : Entry) :
    e.doneBlocks = match e.op with | .write => e.committed | .read => e.delivered | .flush => 0 := by
  unfold Entry.doneBlocks
  cases e.op <;> rfl

/-- The orphan record of an entry that ends by fencing, as R76 to R78 and R89 state it. -/
theorem Entry.fencedRecord_eq (e : Entry) :
    e.fencedRecord =
      { origin := e.origin, tag := e.tag, op := e.op, start := e.start, count := e.count
        done := if e.op = .flush ∧ e.flushDone = true then 1
          else match e.op with | .write => e.committed | .read => e.delivered | .flush => 0
        epoch := e.epoch
        outcome :=
          if (match e.op with | .write => e.committed == e.count | .read => false | .flush => e.flushDone) = true then
            .completeUnreported
          else
            match e.op with
            | .flush => .notStarted
            | .write => if e.outstanding = [] ∧ e.issued = 0 then .notStarted else .torn
            | .read => if e.outstanding = [] ∧ e.issued = 0 then .notStarted else .readCut } := by
  unfold Entry.fencedRecord Entry.orphan Entry.orphanDone Entry.finalOutcome Entry.complete Entry.fencingOutcome
  cases op : e.op <;> simp [Entry.fenceEnded, Entry.doneBlocks, op]

theorem answeredAtFence_link (p q : Path) (s : State) :
    ((answeredAtFence p s).pif.get q).link = (s.pif.get q).link := by
  simp [answeredAtFence, answeredFenced_frame]

section
variable {p : Path} {r : State} {o : Owc} {e : Entry} (before : State) (distinct : SlotsDistinct r)
  (member : e ∈ r.ift) (origin : e.origin = p) (reported : e.reported = false)
  (waits : NoFinalWaits e.slot (r.pif.get p))

include distinct member origin reported waits

/-- The entry when the fencing step has reached every entry of the path. -/
theorem fenced_entry? :
    let t := forSlots fenceEntry ((fencing p r).slotsWhere (fun e => e.origin == p)) (fencing p r)
    (e.op = .write ∧ e.acked = true → ∃ x, t.entry? e.slot = some x ∧ e.Freed x) ∧
      (¬(e.op = .write ∧ e.acked = true) → t.entry? e.slot = some e.fenceEnded ∧ Closed e.slot e.op t) := by
  obtain ⟨x, there, freed⟩ := fencing_entry? (p := p) (entry?_of_mem distinct member) waits
  have same : x.origin = e.origin ∧ x.reported = e.reported ∧ x.op = e.op ∧ x.acked = e.acked := by
    obtain ⟨_, _, rfl, _⟩ := freed
    exact ⟨rfl, rfl, rfl, rfl⟩
  obtain ⟨path, made, op, acked⟩ := same
  obtain ⟨_, acknowledged, other⟩ := fenceEntries_entry? (fencing_slotsDistinct distinct) there
    (test := fun e => e.origin == p) (by simp [path, origin])
  rw [op, acked, freed.fenceEnded] at other
  rw [op, acked] at acknowledged
  refine ⟨fun class_ => ?_, other (made.trans reported)⟩
  obtain ⟨y, still, later⟩ := acknowledged (made.trans reported) class_
  exact ⟨y, still, freed.trans later⟩

/-- An acknowledged write goes on (R76). -/
theorem fenced_acked (class_ : e.op = .write ∧ e.acked = true) (living : e.phase ≠ .ending) :
    ∃ x, (conclude before (fencedWith p r o)).entry? e.slot = some x ∧ x.acked = true ∧ x.staged = e.staged ∧
      x.committed = e.committed ∧ x.fencedOutcome = e.fencedOutcome := by
  obtain ⟨acknowledged, _⟩ := fenced_entry? distinct member origin reported waits
  obtain ⟨x, there, freed⟩ := acknowledged class_
  have alive {y : Entry} (h : e.Freed y) : y.phase ≠ .ending := by
    obtain ⟨_, _, rfl, ending⟩ := h
    exact fun hy => living (ending.1 hy)
  obtain ⟨y, fenced, first⟩ := reportAll_entry?_living there (alive freed)
  have recorded : (fencedWith p r o).entry? e.slot = some y := fenced
  obtain ⟨z, concluded, second⟩ := reportAll_entry?_living recorded (alive (freed.trans first))
  have checked : (checkDrainEnd (reportAll (fencedWith p r o))).entry? e.slot = some z :=
    (entry?_congr (by simp) _).trans concluded
  obtain ⟨t, found, standing⟩ := entry?_standing (follow_standing before _) checked
  obtain ⟨_, _, rfl, _⟩ := (freed.trans first).trans second
  refine ⟨t, found, ?_, congrArg (fun e => e.staged) standing, congrArg (fun e => e.committed) standing,
    congrArg (fun e => e.fencedOutcome) standing⟩
  exact (congrArg (fun e => e.acked) standing).trans class_.2

/-- Any other entry ends by fencing, and its slot is closed (R76 to R78). -/
theorem fenced_closed (class_ : ¬(e.op = .write ∧ e.acked = true)) : Closed e.slot e.op (fencedWith p r o) := by
  obtain ⟨_, other⟩ := fenced_entry? distinct member origin reported waits
  obtain ⟨_, closed⟩ := other class_
  exact (closed.thins (reportAll_thins _)).congr rfl rfl

/-- With segments outstanding it stays (R76 to R78). -/
theorem fenced_busy (class_ : ¬(e.op = .write ∧ e.acked = true)) (busy : e.outstanding ≠ []) :
    (conclude before (fencedWith p r o)).entry? e.slot = some e.fenceEnded := by
  obtain ⟨_, other⟩ := fenced_entry? distinct member origin reported waits
  obtain ⟨there, _⟩ := other class_
  have fenced : (fencedWith p r o).entry? e.slot = some e.fenceEnded := reportAll_entry?_outstanding there rfl rfl busy
  obtain ⟨_, same⟩ := (fenced_closed (o := o) distinct member origin reported waits class_).conclude before
  rw [same]
  exact reportAll_entry?_outstanding fenced rfl rfl busy

/-- With none it is recorded and answered at once (R76 to R78, R128). -/
theorem fenced_idle (class_ : ¬(e.op = .write ∧ e.acked = true)) (idle : e.outstanding = [])
    (small : r.ift.length ≤ 32) (orphans : o.orphans = (fence p r).owc.orphans) :
    e.fencedRecord ∈ (conclude before (fencedWith p r o)).owc.orphans ∧
      (r.linkUp p = true →
        Carries ((conclude before (fencedWith p r o)).pif.get p)
          (.reply e.tag .orphaned (BitVec.ofNat 16 e.doneBlocks) r.owc.epoch)) := by
  obtain ⟨_, other⟩ := fenced_entry? distinct member origin reported waits
  obtain ⟨there, _⟩ := other class_
  have thin := forSlots_thins fenceEntry_thins ((fencing p r).slotsWhere (fun e => e.origin == p)) (fencing p r)
  obtain ⟨held, sent⟩ := reportAll_fenceEnded (thin.slotsDistinct (fencing_slotsDistinct distinct)) there reported idle
    (thin.length.trans ((fencing_length p r).trans small))
  rw [← fence_eq, origin] at sent
  rw [← fence_eq] at held
  refine ⟨?_, fun up => ?_⟩
  · rw [conclude_orphans]
    have recorded : HoldsOrphan e.fencedRecord (fencedWith p r o) := held.kept orphans le_rfl
    exact (reportAll_holdsOrphan recorded).mem
  · have links : (fencing p r).linkUp p = r.linkUp p := linkUp_of_link (by simp [fencing, answeredAtFence_link])
    have fenced := sent ((linkUp_of_link (by simp)).trans (links.trans up))
    have epoch (l : List Nat) : (forSlots fenceEntry l (fencing p r)).owc.epoch = r.owc.epoch := by
      simp [fencing_owc, setRole]
    rw [epoch] at fenced
    exact ((conclude_advances before (fencedWith p r o)).pif p).carries _ fenced

/-- What fencing makes of the entry, to the end of the event (R76 to R78). -/
theorem fenced_entryFenced {s : State} (small : r.ift.length ≤ 32) (orphans : o.orphans = (fence p r).owc.orphans)
    (links : r.linkUp p = s.linkUp p) (epoch : r.owc.epoch = s.owc.epoch) :
    EntryFenced e s (conclude before (fencedWith p r o)) := by
  refine ⟨fun write acked living => fenced_acked before distinct member origin reported waits ⟨write, acked⟩ living,
    fun unacked => ⟨fun busy => ?_, fun idle => ?_, fun r' hr own => ?_⟩⟩
  · refine ⟨e.fenceEnded, fenced_busy before distinct member origin reported waits unacked busy, rfl, ?_, rfl, rfl, rfl, rfl,
      rfl, fun write => if_pos write⟩
    exact congrArg some e.fencingOutcome_eq
  · obtain ⟨recorded, replied⟩ := fenced_idle (o := o) before distinct member origin reported waits unacked idle small orphans
    rw [e.fencedRecord_eq] at recorded
    refine ⟨recorded, fun up => ?_⟩
    rw [origin, ← links] at up
    have sent := replied up
    rw [e.doneBlocks_eq, epoch] at sent
    rw [origin]
    exact sent
  · exact ((fenced_closed distinct member origin reported waits unacked).conclude before).1.pages r' hr own

end

end Sys2Proof.Machine
end

section
/-! The fencing drains settled: a forced claim (R47, R72), the loss of the owner (R69, R71, R73) and the end of the cooperative
stage (R82). -/

namespace Sys2Proof.Machine

set_option Elab.async false

/-! ## The receive queue at the fencing step (R75) -/

theorem emptied_rxq (p q : Path) (s : State) :
    ((s.onPif p Pif.emptyReceive).pif.get q).rxq = if q = p then [] else (s.pif.get q).rxq := by
  rw [State.onPif_pif, Both.get_set]
  split
  · rfl
  · rfl

theorem answersFenced_rxq (p q : Path) (l : List QueuedFrame) (s : State) :
    ((l.foldl (answerFenced p) s).pif.get q).rxq = (s.pif.get q).rxq := by
  induction l generalizing s with
  | nil => rfl
  | cons frame rest ih => exact (ih _).trans (by simp)

/-- The fencing step empties the path's receive queue and no other. -/
theorem fence_rxq (p q : Path) (s : State) :
    ((fence p s).pif.get q).rxq = if q = p then [] else (s.pif.get q).rxq := by
  have kept : ((fence p s).pif.get q).rxq = (((setRole p .fenced s).onPif p Pif.emptyReceive).pif.get q).rxq := by
    simp [fence, answersFenced_rxq]
  rw [kept, emptied_rxq]
  rfl

/-- A COMMAND among the frames emptied from the queue is answered FENCED. -/
theorem answersFenced_carries {p : Path} {l : List QueuedFrame} {s : State} {tag epoch : Word} {op flags : Byte}
    {start : Lba} {count : Word} (h : .command tag epoch op flags start count ∈ l) (up : s.linkUp p = true) :
    Carries ((l.foldl (answerFenced p) s).pif.get p) (.reply tag .fenced 0#16 s.owc.epoch) := by
  induction l generalizing s with
  | nil => cases h
  | cons frame rest ih =>
    rcases List.mem_cons.1 h with rfl | later
    · exact ((answersFenced_advances p rest _).pif p).carries _ (carries_offer_path .owc _ up)
    · have carried := ih (s := answerFenced p s frame) later ((linkUp_of_link (by simp)).trans up)
      rwa [(by simp : (answerFenced p s frame).owc.epoch = s.owc.epoch)] at carried

/-- Each COMMAND of the path's receive queue is answered FENCED (R75). -/
theorem fence_carries {p : Path} {s : State} {tag epoch : Word} {op flags : Byte} {start : Lba} {count : Word}
    (h : .command tag epoch op flags start count ∈ (s.pif.get p).rxq) (up : s.linkUp p = true) :
    Carries ((fence p s).pif.get p) (.reply tag .fenced 0#16 s.owc.epoch) := by
  have link : ((setRole p .fenced s).onPif p Pif.emptyReceive).linkUp p = true := by
    rw [State.linkUp, State.onPif_get_same]
    exact up
  have answered : Carries ((answeredAtFence p s).pif.get p) (.reply tag .fenced 0#16 s.owc.epoch) :=
    answersFenced_carries h link
  have kept : KeepsFrames (answeredAtFence p s) (fence p s) :=
    (withdrawPathReadData_keepsFrames p _).trans <| (enterWaiting_advances p _).keepsFrames.trans <|
      (forSlots_keepsFrames fenceEntry_keepsFrames _ _).trans (reportAll_advances _).keepsFrames
  exact kept p _ rfl answered

/-! ## The fencing drain -/

/-- The fencing step on the drained path, the drain's stage 2 with its timer, and what follows (R71, R72, R82). -/
def fencedStage (before : State) (drained : Path) (r : State) : State :=
  conclude before (refreshRoles (enterStage .fenced (fence drained r)))

theorem enterStage_of_stage {stage : DrainStage} {s : State} (h : s.owc.drainStage = some stage) :
    enterStage stage s = startDrainTimer s := by
  rw [enterStage, ← h]

/-- A drain that begins in stage 2 (R71, R72). -/
theorem beginFencedDrain_eq (cause : DrainCause) (owner : Path) (s : State) :
    beginFencedDrain cause owner s =
      fencedStage s owner { s with owc := s.owc.beginDrain .fenced cause owner (some owner.other) } := by
  rw [fencedStage, enterStage_of_stage (by simp [Owc.beginDrain])]
  rfl

/-- The state that the fencing step of an event takes is, for the drained path, the state before the event, and its record is
that of a drain. -/
structure FencingBegins (drained : Path) (cause : DrainCause) (s r : State) : Prop where
  ift : r.ift = s.ift
  pif : r.pif.get drained = s.pif.get drained
  hmon : r.hmon = s.hmon
  block : SameBlock s r
  history : r.owc.history = s.owc.history
  owner : r.owc.owner = none
  state : r.owc.state = .draining
  cause : r.owc.drainCause = some cause
  path : r.owc.drainedPath = some drained
  grace : r.owc.graceTimer = none

/-- The table has at most 32 entries (R93). -/
theorem TableInv.length_le {s : State} (inv : TableInv s) : s.ift.length ≤ 32 := by
  obtain ⟨_, distinct, bounded, _⟩ := inv
  have nodup : (s.ift.map Entry.slot).Nodup := List.pairwise_map.2 distinct
  have within : s.ift.map Entry.slot ⊆ List.range 32 := by
    intro k hk
    obtain ⟨e, he, rfl⟩ := List.mem_map.1 hk
    obtain ⟨small, _⟩ := bounded e he
    exact List.mem_range.2 small
  simpa using (nodup.subperm within).length_le

theorem fencedStage_role (before : State) (drained : Path) (r : State) :
    (fencedStage before drained r).role drained = .fenced :=
  role_conclude_fenced before (role_refreshRoles_fenced (role_fence drained r))

/-- The drained path's receive queue is emptied, and no other. -/
theorem fencedStage_rxq (before : State) (drained q : Path) (r : State) :
    ((fencedStage before drained r).pif.get q).rxq = if q = drained then [] else (r.pif.get q).rxq := by
  have kept : ((fencedStage before drained r).pif.get q).rxq = ((fence drained r).pif.get q).rxq := by
    simp [fencedStage, enterStage]
  rw [kept, fence_rxq]

/-- While the drain goes on, its record is the one it began with, and the drained path holds an entry (R80). -/
theorem fencedStage_draining {drained : Path} {cause : DrainCause} {r : State} (before : State)
    (state : r.owc.state = .draining) (held : r.owc.drainCause = some cause) (path : r.owc.drainedPath = some drained) :
    ((fencedStage before drained r).owc.state = .draining ∧
        (fencedStage before drained r).owc.drainTimer = some r.owc.policy.drainMs.toNat ∧
        (fencedStage before drained r).owc.successor = r.owc.successor ∧
        0 < (fencedStage before drained r).entryCount drained) ∨
      (fencedStage before drained r).owc.state = .committing := by
  have concluded := conclude_draining before (s := refreshRoles (enterStage .fenced (fence drained r))) (cause := cause)
    (drained := drained) (by simpa [refreshRoles_owc, enterStage, startDrainTimer_owc])
    (by simpa [refreshRoles_owc, enterStage, startDrainTimer_owc])
    (by simpa [refreshRoles_owc, enterStage, startDrainTimer_owc])
  refine concluded.imp (fun going => ?_) id
  obtain ⟨draining, owc, remains⟩ := going
  refine ⟨draining, ?_, ?_, remains⟩
  · rw [fencedStage, owc]
    simp [refreshRoles_owc, enterStage, startDrainTimer_owc]
  · rw [fencedStage, owc]
    simp [refreshRoles_owc, enterStage, startDrainTimer_owc]

theorem fencedStage_tableFenced {drained : Path} {r : State} (before : State) (distinct : SlotsDistinct r) :
    TableFenced drained (fencedStage before drained r) := by
  have treated := fenceEntries_tableFenced drained (fencing_slotsDistinct (p := drained) distinct)
  have fenced : TableFenced drained (fence drained r) := by
    rw [fence_eq]
    exact treated.reportAll
  exact TableFenced.conclude before (fenced.congr rfl)

theorem fencedStage_carries {drained : Path} {r : State} (before : State) {frame : OutFrame}
    (h : Carries ((fence drained r).pif.get drained) frame) :
    Carries ((fencedStage before drained r).pif.get drained) frame :=
  ((conclude_advances before _).pif drained).carries _ h

/-- The event leaves what a fencing drain is to leave (R72, R75 to R78, R80). -/
theorem FencingBegins.fencedDrain {drained : Path} {cause : DrainCause} {s r : State} (before : State)
    (begins : FencingBegins drained cause s r) : FencedDrain drained cause s (fencedStage before drained r) := by
  obtain ⟨ift, pif, hmon, ⟨epoch, count, policy⟩, history, owner, state, held, path, grace⟩ := begins
  have links : r.linkUp drained = s.linkUp drained := by rw [State.linkUp, State.linkUp, pif]
  have distinct (inv : TableInv s) : SlotsDistinct r := by
    obtain ⟨_, distinct, _⟩ := inv
    exact SlotsDistinct.congr distinct ift
  have stages := fencedStage_draining before state held path
  refine ⟨fencedStage_role before drained r, ?_, ?_, ?_, ?_, ?_, ?_, ?_, fun draining => ?_, fun inv => ?_,
    fun up tag e op flags start n queued => ?_, fun inv e member origin reported waits => ?_, ⟨?_, ?_, ?_⟩, ?_, ?_⟩
  case refine_1 => rw [fencedStage_rxq, if_pos rfl]
  case refine_3 => exact stages.imp (fun going => going.1) id
  case refine_8 =>
    rcases stages with ⟨_, timer, _, remains⟩ | committing
    · exact ⟨by rw [timer, policy], remains⟩
    · simp [committing] at draining
  case refine_9 => exact fencedStage_tableFenced before (distinct inv)
  case refine_10 =>
    rw [← epoch]
    exact fencedStage_carries before (fence_carries (pif ▸ queued) (links.trans up))
  case refine_11 =>
    exact fenced_entryFenced (o := (refreshRoles (enterStage .fenced (fence drained r))).owc) before (distinct inv)
      (ift ▸ member) origin reported (pif ▸ waits) (ift ▸ inv.length_le) rfl links epoch
  all_goals simp [fencedStage, refreshRoles_owc, enterStage, startDrainTimer_owc, *]

/-! ## A forced claim -/

theorem judgeClaim_of_force {s : State} {p : Path} {c : ClaimFields} (epoch : c.epoch = s.owc.epoch)
    (unfenced : s.role p ≠ .fenced) (healthy : (s.hmon.get p).health = .healthy)
    (state : s.owc.state = .owned ∨ s.owc.state = .grace) (owner : s.owc.owner = some p.other)
    (force : flagBit0 c.flags = true) (allowed : allowForce s.owc.policy = true) :
    judgeClaim s p c = .forced p.other := by
  rcases state with state | state <;>
    simp [judgeClaim, judgeClaimState, judgeClaimOwned, epoch, unfenced, healthy, state, owner, force, allowed,
      Path.other_ne]

/-- The state in which a forced claim fences the owner: the claim taken, its reply owed, the drain recorded (R47, R72). -/
def forcedBegun (p : Path) (tag : Word) (s : State) : State :=
  let owed := oweReply p tag .forced (removeHead p s)
  { owed with owc := owed.owc.beginDrain .fenced .forced p.other (some p.other.other) }

theorem forcedBegun_begins (p : Path) (tag : Word) (s : State) : FencingBegins p.other .forced s (forcedBegun p tag s) where
  ift := rfl
  pif := State.onPif_get_other p (fun f => { f with rxq := f.rxq.drop 1 }) s
  hmon := rfl
  block := ⟨rfl, rfl, rfl⟩
  history := rfl
  owner := rfl
  state := rfl
  cause := rfl
  path := rfl
  grace := rfl

/-- Settles O33: the claim is taken, and the owner is fenced for a drain in stage 2 that the claimant is to succeed. -/
theorem forcedClaimFencesOwner : Obligations.ForcedClaimFencesOwner := by
  intro p s tag f flags i head row force unfenced healthy state owner allowed
  have judged : judgeClaim (removeHead p s) p
      { tag := tag, epoch := s.owc.epoch, flags := flags, overrideEpoch := f } = .forced p.other :=
    judgeClaim_of_force rfl unfenced healthy state owner force allowed
  let before := oweReply p tag .forced (removeHead p s)
  have taken : exec i s = .next (fencedStage before p.other (forcedBegun p tag s)) := by
    rw [row.exec_eq head, decideClaim, judged]
    exact congrArg Host.Outcome.next (beginFencedDrain_eq .forced p.other before)
  have begins := forcedBegun_begins p tag s
  refine ⟨_, taken, begins.fencedDrain before, ?_, fun draining => ?_, ?_⟩
  · simp [fencedStage, refreshRoles_owc, enterStage, startDrainTimer_owc, forcedBegun, Owc.beginDrain, oweReply]
  · rcases fencedStage_draining before begins.state begins.cause begins.path with ⟨_, _, successor, _⟩ | committing
    · rw [successor]
      simp [forcedBegun, Owc.beginDrain]
    · simp [committing] at draining
  · rw [fencedStage_rxq, if_neg (Path.other_ne p).symm]
    simp [forcedBegun, oweReply, removeHead]

/-! ## The loss of the owner and the expiries that fence -/

theorem beginFencedDrain_begins (cause : DrainCause) (owner : Path) (s : State) :
    FencingBegins owner cause s { s with owc := s.owc.beginDrain .fenced cause owner (some owner.other) } where
  ift := rfl
  pif := rfl
  hmon := rfl
  block := ⟨rfl, rfl, rfl⟩
  history := rfl
  owner := rfl
  state := rfl
  cause := rfl
  path := rfl
  grace := rfl

theorem beginFencedDrain_fencedDrain (cause : DrainCause) (owner : Path) (s : State) :
    FencedDrain owner cause s (beginFencedDrain cause owner s) := by
  rw [beginFencedDrain_eq]
  exact (beginFencedDrain_begins cause owner s).fencedDrain s

theorem beginFencedDrain_successor {cause : DrainCause} {owner : Path} {s : State}
    (draining : (beginFencedDrain cause owner s).owc.state = .draining) :
    (beginFencedDrain cause owner s).owc.successor = some (some owner.other) := by
  have begins := beginFencedDrain_begins cause owner s
  rw [beginFencedDrain_eq] at draining ⊢
  rcases fencedStage_draining s begins.state begins.cause begins.path with ⟨_, _, successor, _⟩ | committing
  · exact successor
  · simp [committing] at draining

/-- The entry into GRACE leaves every role: R42's list reads OWNED and GRACE alike. -/
theorem refreshRoles_of_grace {s : State} (timer : Option Nat) (state : s.owc.state = .owned) (inv : OwnershipInv s) :
    refreshRoles { s with owc := { s.owc with state := .grace, graceTimer := timer } } =
      { s with owc := { s.owc with state := .grace, graceTimer := timer } } := by
  have role (p : Path) : roleFor { s.owc with state := .grace, graceTimer := timer } p = s.role p := by
    rw [inv.role_eq p]
    simp [roleFor, state]
  rw [refreshRoles, role .a, role .b]
  rfl

theorem ownerLost_held {p : Path} {s : State} (state : s.owc.state = .owned) (owner : s.owc.owner = some p)
    (auto : autoTakeover s.owc.policy = true) :
    ownerLost p s =
      if s.owc.policy.graceMs = 0#16 then beginFencedDrain .loss p s
      else refreshRoles { s with owc := { s.owc with state := .grace, graceTimer := some s.owc.policy.graceMs.toNat } } :=
  if_pos ⟨state, owner, auto⟩

theorem graceExpires_running {s : State} {owner : Path} (state : s.owc.state = .grace)
    (timer : s.owc.graceTimer.isSome = true) (held : s.owc.owner = some owner) :
    graceExpires s = beginFencedDrain .loss owner s := by
  obtain ⟨n, running⟩ := Option.isSome_iff_exists.1 timer
  simp [graceExpires, running, held, state]

theorem graceExpires_stopped {s : State} (h : s.owc.state ≠ .grace ∨ s.owc.graceTimer = none) : graceExpires s = s := by
  unfold graceExpires
  split
  · next running _ =>
    rcases h with other | none
    · exact if_neg other
    · simp [running] at none
  · rfl

theorem stage1Expires_running {s : State} {releaser : Path} (state : s.owc.state = .draining)
    (stage : s.owc.drainStage = some .cooperative) (timer : s.owc.drainTimer.isSome = true)
    (path : s.owc.drainedPath = some releaser) : stage1Expires s = fencedStage s releaser s := by
  have due : s.drainDue .cooperative = some releaser := (if_pos ⟨state, stage, timer⟩).trans path
  rw [stage1Expires, due]
  rfl

theorem stage1Expires_stopped {s : State}
    (h : s.owc.state ≠ .draining ∨ s.owc.drainStage ≠ some .cooperative ∨ s.owc.drainTimer = none) :
    stage1Expires s = s := by
  have idle : s.drainDue .cooperative = none := by
    refine if_neg fun ⟨state, stage, timer⟩ => ?_
    rcases h with other | other | none
    · exact other state
    · exact other stage
    · simp [none] at timer
  rw [stage1Expires, idle]

/-- Settles O43: the owner's loss enters GRACE or fences it at once, and the two expiries fence where their timers run. -/
theorem ownerLossAndFencing : Obligations.OwnerLossAndFencing := by
  refine ⟨fun p s state owner => ⟨fun auto lasts inv => ?_, fun auto none => ?_, fun off => ?_⟩,
    fun s => ⟨?_, ?_, ?_, ?_⟩⟩
  · rw [ownerLost_held state owner auto, if_neg lasts, refreshRoles_of_grace _ state inv]
  · rw [ownerLost_held state owner auto, if_pos none]
    exact beginFencedDrain_fencedDrain .loss p s
  · exact if_neg fun ⟨_, _, auto⟩ => by simp [off] at auto
  · intro owner state timer held
    exact ⟨_, congrArg Host.Outcome.next (graceExpires_running state timer held),
      beginFencedDrain_fencedDrain .loss owner s, beginFencedDrain_successor⟩
  · exact fun h => congrArg Host.Outcome.next (graceExpires_stopped h)
  · intro releaser cause state stage timer path held owner grace
    have begins : FencingBegins releaser cause s s :=
      { ift := rfl, pif := rfl, hmon := rfl, block := ⟨rfl, rfl, rfl⟩, history := rfl, owner := owner, state := state
        cause := held, path := path, grace := grace }
    exact ⟨_, congrArg Host.Outcome.next (stage1Expires_running state stage timer path), begins.fencedDrain s⟩
  · exact fun h => congrArg Host.Outcome.next (stage1Expires_stopped h)

end Sys2Proof.Machine
end

section
/-! The credit of a pulse and its ECHO (R8, R9, R29, R71). -/

namespace Sys2Proof.Machine

set_option Elab.async false

/-! ## A lower score (R25, R26, R36) -/

/-- A lower score makes a path HEALTHY, or leaves its health as it was (R26). -/
theorem HealthSound.evaluate_lower {r : PolicyRecord} {link : Link} {h : Hmon} {score : Nat}
    (ordered : thresholdsOrdered r = true) (sound : HealthSound r link h) (lower : score ≤ h.score) :
    evaluate r h.health score = h.health ∨ evaluate r h.health score = .healthy := by
  obtain ⟨_, healthy, doubtful, _, _⟩ := sound
  obtain ⟨_, highLost⟩ := (thresholdsOrdered_iff r).1 ordered
  cases before : h.health with
  | healthy =>
    have below := healthy before
    exact .inl ((if_neg (by omega)).trans (if_neg (by omega)))
  | doubtful =>
    obtain ⟨_, below⟩ := doubtful before
    rw [evaluate, if_neg (by omega)]
    exact (ite_eq_or_eq _ _ _).symm
  | lost => exact (ite_eq_or_eq _ _ _).symm

theorem Hmon.scored_self (r : PolicyRecord) (h : Hmon) : h.scored r h.score = h := by
  simp [Hmon.scored]

/-- A new score is set with the health it gives, and a change of that health is reported (R25, R36). -/
theorem applyScore_eq (p : Path) (score : Nat) (s : State) :
    applyScore p score s =
      reportChange p (s.hmon.get p).health (s.onHmon p (Hmon.scored s.owc.policy score)) := by
  unfold applyScore
  split
  · next same =>
    rw [State.onHmon_eq_self (by rw [same, Hmon.scored_self]), reportChange, if_pos rfl]
  · next changed =>
    have judged : judgeHealth p (s.onHmon p (fun x => { x with score := score })) =
        s.onHmon p (Hmon.scored s.owc.policy score) := by
      refine (State.onHmon_onHmon p _ _ s).trans ?_
      unfold State.onHmon Hmon.scored
      rw [if_neg changed]
    rw [reevaluate, judged, State.onHmon_get_same]

/-- A lower score changes HMON alone, but where it makes the path HEALTHY, which OWC is told (R36). -/
theorem applyScore_lower {p : Path} {score : Nat} {s : State} {link : Link}
    (ordered : thresholdsOrdered s.owc.policy = true) (sound : HealthSound s.owc.policy link (s.hmon.get p))
    (lower : score ≤ (s.hmon.get p).score) :
    let t := s.onHmon p (Hmon.scored s.owc.policy score)
    ((t.hmon.get p).health = (s.hmon.get p).health ∧ applyScore p score s = t) ∨
      ((t.hmon.get p).health ≠ (s.hmon.get p).health ∧ applyScore p score s = ownerHealthy p t) := by
  intro t
  have either : (t.hmon.get p).health = (s.hmon.get p).health ∨ (t.hmon.get p).health = .healthy := by
    rw [State.onHmon_get_same]
    unfold Hmon.scored
    dsimp only
    split
    · exact .inl rfl
    · exact sound.evaluate_lower ordered lower
  have reported : applyScore p score s = reportChange p (s.hmon.get p).health t := applyScore_eq p score s
  by_cases same : (t.hmon.get p).health = (s.hmon.get p).health
  · exact .inl ⟨same, reported.trans (if_pos same)⟩
  · refine .inr ⟨same, ?_⟩
    rw [reported, reportChange, if_neg same, either.resolve_left same]
    simp [reportHealth]

/-! ## The pulse (R29) -/

/-- HMON's fields after a pulse has been counted in the window (R29). -/
def Hmon.pulsed (r : PolicyRecord) (h : Hmon) : Hmon :=
  { h.scored r (if h.pulseCounted then h.score else h.score - r.pulseCredit.toNat) with pulseCounted := true }

theorem Hmon.pulsed_counted {r : PolicyRecord} {h : Hmon} (counted : h.pulseCounted = true) : h.pulsed r = h := by
  rw [Hmon.pulsed, if_pos counted, Hmon.scored_self, ← counted]

theorem Hmon.pulsed_uncounted {r : PolicyRecord} {h : Hmon} (uncounted : ¬h.pulseCounted = true) :
    h.pulsed r = Hmon.scored r (h.score - r.pulseCredit.toNat) { h with pulseCounted := true } := by
  rw [Hmon.pulsed, if_neg uncounted]
  rfl

/-- A pulse changes HMON alone, but where it makes the path HEALTHY, which OWC is told (R29, R36). -/
theorem takePulse_cases {s : State} (inv : HealthInv s) (p : Path) :
    let t := s.onHmon p (Hmon.pulsed s.owc.policy)
    ((t.hmon.get p).health = (s.hmon.get p).health ∧ takePulse p s = t) ∨
      ((t.hmon.get p).health ≠ (s.hmon.get p).health ∧ takePulse p s = ownerHealthy p t) := by
  intro t
  by_cases already : (s.hmon.get p).pulseCounted = true
  · have kept : t = s := State.onHmon_eq_self (Hmon.pulsed_counted already)
    exact .inl ⟨by rw [kept], (if_pos already).trans kept.symm⟩
  · let counted := s.onHmon p (fun x => { x with pulseCounted := true })
    let score := (s.hmon.get p).score - s.owc.policy.pulseCredit.toNat
    have taken : takePulse p s = applyScore p score counted := if_neg already
    have scored : counted.onHmon p (Hmon.scored s.owc.policy score) = t := by
      refine (State.onHmon_onHmon p _ _ s).trans ?_
      unfold t State.onHmon
      rw [Hmon.pulsed_uncounted already]
    obtain ⟨⟨ordered, _⟩, sound⟩ := inv
    have before : counted.hmon.get p = { s.hmon.get p with pulseCounted := true } := State.onHmon_get_same p _ s
    have lower := applyScore_lower (p := p) (score := score) (s := counted) ordered
      (by rw [before]; exact sound p) (by rw [before]; exact Nat.sub_le _ _)
    rw [taken, ← scored]
    rwa [before] at lower

/-! ## The end of GRACE (R71) -/

theorem ownerHealthy_of_not {p : Path} {s : State} (h : ¬(s.owc.state = .grace ∧ s.owc.owner = some p)) :
    ownerHealthy p s = s :=
  if_neg h

theorem ownerHealthy_grace {p : Path} {s : State} (state : s.owc.state = .grace) (owner : s.owc.owner = some p) :
    ownerHealthy p s = refreshRoles { s with owc := { s.owc with state := .owned, graceTimer := none } } :=
  if_pos ⟨state, owner⟩

/-- R42's list reads GRACE and OWNED alike. -/
theorem roleFor_endGrace {o : Owc} (timer : Option Nat) (state : o.state = .grace) (p : Path) :
    roleFor { o with state := .owned, graceTimer := timer } p = roleFor o p := by
  simp [roleFor, state]

/-- The end of GRACE leaves every role. -/
theorem ownerHealthy_roles {p : Path} {s : State} (inv : OwnershipInv s) : (ownerHealthy p s).owc.roles = s.owc.roles := by
  obtain ⟨_, _, roles, _⟩ := inv
  unfold ownerHealthy
  split
  · next grace =>
    rw [refreshRoles_owc]
    dsimp only
    rw [roleFor_endGrace none grace.1, roleFor_endGrace none grace.1, ← roles .a, ← roles .b]
    rfl
  · rfl

/-- OWC's answer to a pulse: GRACE ends in OWNED where the pulse makes the owner HEALTHY, and nothing else changes (R71). -/
theorem takePulse_owc {s : State} (inv : HealthInv s) (p : Path) :
    let t := takePulse p s
    ((t.hmon.get p).health = (s.hmon.get p).health ∨ ¬(s.owc.state = .grace ∧ s.owc.owner = some p) →
        t.owc = s.owc) ∧
      ((t.hmon.get p).health ≠ (s.hmon.get p).health → s.owc.state = .grace → s.owc.owner = some p →
        t.owc = { s.owc with state := .owned, graceTimer := none, roles := t.owc.roles } ∧
          (OwnershipInv s → t.owc.roles = s.owc.roles)) := by
  let counted := s.onHmon p (Hmon.pulsed s.owc.policy)
  rcases takePulse_cases inv p with ⟨same, taken⟩ | ⟨changed, taken⟩ <;> rw [taken]
  · exact ⟨fun _ => rfl, fun changed => absurd same changed⟩
  · have health : (ownerHealthy p counted).hmon = counted.hmon := by simp
    refine ⟨fun h => ?_, fun _ grace owner => ⟨?_, fun sound => ?_⟩⟩
    · have other := h.resolve_left (by rw [health]; exact changed)
      exact (congrArg State.owc (ownerHealthy_of_not (s := counted) other) :)
    · rw [ownerHealthy_grace (s := counted) grace owner]
      rfl
    · exact ownerHealthy_roles ((onHmon_keepsRecord p _ s).inv sound)

theorem takePulse_hmon {s : State} (inv : HealthInv s) (p : Path) :
    (takePulse p s).hmon = s.hmon.set p ((s.hmon.get p).pulsed s.owc.policy) := by
  rcases takePulse_cases inv p with ⟨_, taken⟩ | ⟨_, taken⟩ <;>
    simp only [taken, ownerHealthy_frame, State.onHmon_hmon]

/-- A pulse reaches HMON and OWC alone. -/
theorem takePulse_rest {s : State} (inv : HealthInv s) (p : Path) :
    let t := takePulse p s
    t.pif = s.pif ∧ SameBlock s t ∧ t.adm = s.adm ∧ t.ift = s.ift ∧ t.stb = s.stb ∧ t.mem = s.mem ∧ t.dpt = s.dpt ∧
      t.fnu = s.fnu := by
  rcases takePulse_cases inv p with ⟨_, taken⟩ | ⟨_, taken⟩ <;> simp [taken, SameBlock]

/-- Settles O22: HMON counts the pulse, OWC's answer ends GRACE where the path has become HEALTHY, and the ECHO shows what
stands after it. -/
theorem pulseCreditedAndEchoed : Obligations.PulseCreditedAndEchoed := by
  intro p epoch sequence s inv up score
  let cleared := s.onPif p Pif.clearAssembler
  let taken := takePulse p cleared
  have sound : HealthInv cleared :=
    KeepsHealth.of_frame (s := s) rfl rfl (.inl rfl) 
      (fun q => State.onPif_get_link p q Pif.clearAssembler s fun _ => rfl) inv
  have ran : exec (.pulse p epoch sequence) s = .next (taken.onPif p (Pif.placeEcho (echoFor p sequence taken))) :=
    congrArg Host.Outcome.next (if_pos up)
  have hmon : taken.hmon = s.hmon.set p ((s.hmon.get p).pulsed s.owc.policy) := takePulse_hmon sound p
  obtain ⟨unchanged, ended⟩ := takePulse_owc sound p
  obtain ⟨pif, rest⟩ := takePulse_rest sound p
  refine ⟨_, ran, hmon, ?_, unchanged, ended, rest⟩
  have placed : (taken.onPif p (Pif.placeEcho (echoFor p sequence taken))).pif =
      (s.pif.set p (s.pif.get p).clearAssembler).set p
        (Pif.placeEcho (echoFor p sequence taken) (s.pif.get p).clearAssembler) := by
    rw [State.onPif_pif, pif, State.onPif_pif, Both.get_set_same]
  rw [placed, Both.set_set]
  rfl

end Sys2Proof.Machine
end

section
/-! The end of a drain (R80, R87, R88). -/

namespace Sys2Proof.Machine

set_option Elab.async false

theorem eligible_iff (s : State) (p : Path) :
    s.eligible p = true ↔ (s.hmon.get p).health = .healthy ∧ s.role p ≠ .fenced := by
  simp [State.eligible]

/-- The successor that R87 chooses, for each cause. -/
theorem chooseSuccessor_spec (cause : DrainCause) (drained : Path) (s : State) :
    let may (q : Path) : Prop := (s.hmon.get q).health = .healthy ∧ s.role q ≠ .fenced
    let chosen := chooseSuccessor cause drained s
    (cause = .release → chosen = none) ∧
      (cause = .loss → (may drained.other → chosen = some drained.other) ∧ (¬may drained.other → chosen = none)) ∧
      (cause = .handover ∨ cause = .forced → ∀ q, s.owc.successor = some (some q) →
        (may q → chosen = some q) ∧ (¬may q → chosen = none)) := by
  intro may chosen
  have only {q : Path} (h : chosen = if s.eligible q then some q else none) :
      (may q → chosen = some q) ∧ (¬may q → chosen = none) :=
    ⟨fun able => h.trans (if_pos ((eligible_iff s q).2 able)),
      fun unable => h.trans (if_neg ((eligible_iff s q).not.2 unable))⟩
  refine ⟨?_, ?_, fun asked q next => only ?_⟩
  · rintro rfl
    rfl
  · rintro rfl
    exact only rfl
  · rcases asked with rfl | rfl <;> simp [chosen, chooseSuccessor, next]

/-- With no entry of the drained path left, the drain ends (R80). -/
theorem checkDrainEnd_ends {s : State} {cause : DrainCause} {drained : Path} (state : s.owc.state = .draining)
    (held : s.owc.drainCause = some cause) (path : s.owc.drainedPath = some drained) (left : s.entryCount drained = 0) :
    checkDrainEnd s = endDrain cause drained s := by
  rw [checkDrainEnd, held, path]
  exact if_pos ⟨state, left⟩

theorem checkDrainEnd_goes_on {s : State} {drained : Path} (path : s.owc.drainedPath = some drained)
    (left : 0 < s.entryCount drained) : checkDrainEnd s = s := by
  unfold checkDrainEnd
  split
  · next cause other _ same =>
    obtain rfl : drained = other := Option.some.inj (path.symm.trans same)
    exact if_neg fun h => left.ne' h.2
  · rfl

/-- The record at drain end with no commit in flight: the closing commit has begun (R88). -/
theorem endDrain_owc_begins {cause : DrainCause} {drained : Path} {s : State} (none : s.owc.contents = none) :
    (endDrain cause drained s).owc =
      { (refreshRoles { s with owc := s.owc.close (chooseSuccessor cause drained s) }).owc with
        purpose := some (drainPurpose cause)
        contents := some { owner := chooseSuccessor cause drained s, epoch := nextEpoch s.owc.epoch,
                           count := s.owc.commitCount + 1#32, policy := s.owc.policy }
        attempt := 1, waitingTransition := .none } := by
  rw [endDrain_eq, beginTransition, if_neg (by simp [State.commitInFlight, refreshRoles_owc, Owc.close, none]),
    beginCommit_owc]
  rfl

/-- The record at drain end with a POLICY commit in flight: the closing commit waits for it (R53, R88). -/
theorem endDrain_owc_waits {cause : DrainCause} {drained : Path} {s : State} (flight : s.owc.contents.isSome = true) :
    (endDrain cause drained s).owc =
      { (refreshRoles { s with owc := s.owc.close (chooseSuccessor cause drained s) }).owc with
        waitingTransition := some (drainPurpose cause) } := by
  rw [endDrain_eq, beginTransition, if_pos (by exact flight)]

/-- Settles O45: the check for drain end, and the two ways in which the closing commit goes on. -/
theorem drainEndsInCommit : Obligations.DrainEndsInCommit := by
  intro s cause drained state held path may
  refine ⟨fun left => ?_, fun left => congrArg Host.Outcome.next (checkDrainEnd_goes_on path left)⟩
  obtain ⟨released, lost, handed⟩ := chooseSuccessor_spec cause drained s
  refine ⟨_, chooseSuccessor cause drained s,
    congrArg Host.Outcome.next (checkDrainEnd_ends state held path left), ?_, ?_, ?_, released, lost, handed,
    fun none => ?_, fun flight => ?_, ?_, ?_, ?_, ?_, ?_, ?_⟩
  case refine_4 => simp [endDrain_owc_begins none]
  case refine_5 => simp [endDrain_owc_waits flight, refreshRoles_owc, Owc.close]
  all_goals simp [endDrain_eq, refreshRoles_owc, Owc.close, SameBlock]

end Sys2Proof.Machine
end

section
/-! The completion of a load (R59 to R63, R66, R69, R73, R167): the record that the block in page 255 gives, and the notices. -/

namespace Sys2Proof.Machine

set_option Elab.async false

/-! ## The record taken -/

/-- The state in which OWC judges a load: the reserved slot free and the block in page 255 (R61, R167). -/
def State.loadTaken (s : State) (status : DriveStatus) (block : List Byte) : State :=
  let u := s.operationTaken status
  { u with mem := fillPage u.mem Config.ownershipPage block }

theorem exec_loadTaken {s : State} {status : DriveStatus} {block : List Byte} {attempt : Nat}
    (ready : s.dpt.state = .ready) (slots : 2 ≤ s.dpt.slotCount)
    (held : s.holderOf (s.dpt.slotCount - 1) = some (.blockOp .load attempt))
    (good : status = .good ∨ status = .partialDone) (loading : s.owc.state = .loading) :
    exec (.reservedSlotCompletion status 1#16 block) s = .next (completeLoad (s.loadTaken status block)) := by
  have known : status ≠ .other := by rcases good with rfl | rfl <;> decide
  have ok : operationOk status (1#16).toNat = true := by rcases good with rfl | rfl <;> rfl
  have told : operationSucceeded .load (s.loadTaken status block) = completeLoad (s.loadTaken status block) :=
    if_pos ((congrArg Owc.state (operationTaken_owc s status)).trans loading)
  rw [exec_reservedOperation ready slots held known (by decide), ← told]
  exact congrArg Host.Outcome.next (if_pos ok)

/-! ## A block that names an owner or none (R61, R62) -/

/-- The record that a valid or blank block gives, with its policy in force. -/
def loadRecorded (owner : Option Path) (epoch : Word) (count : CommitCount) (r : PolicyRecord) (s : State) : State :=
  refreshRoles { takeEffect r s with owc := (takeEffect r s).owc.loaded owner epoch count }

/-- The START record and the notices of a load. -/
def loadAnnounced (u : State) : State :=
  sendNotices (addHistory (startRecord u) u)

theorem loadAnnounced_owc (u : State) :
    (loadAnnounced u).owc = { u.owc with history := (startRecord u :: u.owc.history).take Config.historyDepth } := by
  simp [loadAnnounced, addHistory]

theorem loadGood_eq (owner : Option Path) (epoch : Word) (count : CommitCount) (r : PolicyRecord) (s : State) :
    loadGood owner epoch count r s = reportIfOwnerLost (loadAnnounced (loadRecorded owner epoch count r s)) := rfl

section

variable (owner : Option Path) (epoch : Word) (count : CommitCount) (r : PolicyRecord) {s : State}

theorem loadRecorded_owc (loading : s.owc.state = .loading) :
    let t := loadRecorded owner epoch count r s
    t.owc.state = (if owner.isSome then .owned else .unowned) ∧ t.owc.owner = owner ∧ t.owc.epoch = epoch ∧
      t.owc.commitCount = count ∧ t.owc.policy = r ∧ t.owc.attempt = 0 ∧ t.owc.history = s.owc.history := by
  have record := takeEffect_owc_of_idle r (s := s) (by simp [loading]) (by simp [loading])
  simp [loadRecorded, refreshRoles_owc, Owc.loaded, record]

/-- The roles that R42 gives under the record loaded. -/
theorem loadRecorded_role (loading : s.owc.state = .loading) (p : Path) :
    (loadRecorded owner epoch count r s).role p =
      if s.role p = .fenced then .fenced else if owner = some p then .owner
      else if shareReads r then .sharer else .standby := by
  have record := takeEffect_owc_of_idle r (s := s) (by simp [loading]) (by simp [loading])
  have fenced : (takeEffect r s).owc.roles.get p = .fenced ↔ s.role p = .fenced := by
    rw [record]
    exact refreshRoles_fenced_iff p { s with owc := { s.owc with policy := r } }
  have policy := takeEffect_policy r s
  unfold loadRecorded
  generalize takeEffect r s = u at *
  rw [role_refreshRoles, roleFor_settled (by cases owner <;> simp [Owc.loaded]) (by cases owner <;> simp [Owc.loaded]),
    ← policy]
  exact if_congr fenced rfl rfl

theorem loadAnnounced_notified (loading : s.owc.state = .loading) :
    Notified owner epoch count r s (loadAnnounced (loadRecorded owner epoch count r s)) := by
  obtain ⟨_, named, newEpoch, newCount, _⟩ := loadRecorded_owc owner epoch count r loading
  have role := loadRecorded_role owner epoch count r loading
  have links (p : Path) : (loadRecorded owner epoch count r s).linkUp p = s.linkUp p :=
    linkUp_of_link (by simp [loadRecorded])
  generalize loadRecorded owner epoch count r s = u at *
  exact sendNotices_notified (u := addHistory (startRecord u) u) links named newEpoch newCount role

/-- What a load that names an owner or none leaves, whatever the health of the owner (R58, R61, R62, R66). -/
theorem loadGood_record (loading : s.owc.state = .loading) :
    let t := loadGood owner epoch count r s
    t.owc.epoch = epoch ∧ t.owc.commitCount = count ∧ t.owc.policy = r ∧ Notified owner epoch count r s t ∧
      t.owc.history = ({ epoch := epoch, newOwner := owner, previousOwner := none, cause := .start,
                         orphans := 0 } :: s.owc.history).take Config.historyDepth := by
  obtain ⟨_, named, newEpoch, newCount, policy, _, history⟩ := loadRecorded_owc owner epoch count r loading
  have notified := loadAnnounced_notified owner epoch count r loading
  have kept := reportIfOwnerLost_keepsFrames (loadAnnounced (loadRecorded owner epoch count r s))
  rw [loadGood_eq]
  generalize loadRecorded owner epoch count r s = u at *
  have started : startRecord u =
      { epoch := epoch, newOwner := owner, previousOwner := none, cause := .start, orphans := 0 } := by
    rw [startRecord, newEpoch, named]
  simp only [reportIfOwnerLost_frame, loadAnnounced_owc, started, history]
  exact ⟨newEpoch, newCount, policy, notified.mono kept, trivial⟩

theorem loadGood_none (loading : s.owc.state = .loading) :
    let t := loadGood none epoch count r s
    t.owc.state = .unowned ∧ t.owc.owner = none ∧ t.owc.attempt = 0 := by
  obtain ⟨state, named, _, _, _, attempt, _⟩ := loadRecorded_owc none epoch count r loading
  rw [loadGood_eq]
  generalize loadRecorded none epoch count r s = u at *
  rw [reportIfOwnerLost_of_live (by simp [loadAnnounced_owc, named])]
  simp only [loadAnnounced_owc]
  exact ⟨state, named, attempt⟩

end

/-! ## The report on the owner (R69, R73) -/

theorem reportIfOwnerLost_of_lost {s : State} {p : Path} (owner : s.owc.owner = some p)
    (lost : (s.hmon.get p).health = .lost) : reportIfOwnerLost s = ownerLost p s := by
  rw [reportIfOwnerLost, owner]
  exact if_pos lost

theorem reportIfOwnerLost_of_kept {s : State} {p : Path} (owner : s.owc.owner = some p)
    (kept : (s.hmon.get p).health ≠ .lost ∨ autoTakeover s.owc.policy = false) : reportIfOwnerLost s = s := by
  by_cases lost : (s.hmon.get p).health = .lost
  · rw [reportIfOwnerLost_of_lost owner lost]
    exact if_neg fun held => by simp [kept.resolve_left (not_not.2 lost)] at held
  · refine reportIfOwnerLost_of_live fun q named => ?_
    obtain rfl : p = q := Option.some.inj (owner.symm.trans named)
    exact lost

/-- A drain that goes on has begun no commit. -/
theorem beginFencedDrain_attempt {cause : DrainCause} {owner : Path} {s : State}
    (draining : (beginFencedDrain cause owner s).owc.state = .draining) :
    (beginFencedDrain cause owner s).owc.attempt = s.owc.attempt := by
  have begins := beginFencedDrain_begins cause owner s
  rw [beginFencedDrain_eq] at draining ⊢
  set r : State := { s with owc := s.owc.beginDrain .fenced cause owner (some owner.other) }
  rcases conclude_draining s (s := refreshRoles (enterStage .fenced (fence owner r))) (cause := cause)
    (drained := owner) (by simpa [refreshRoles_owc, enterStage, startDrainTimer_owc] using begins.state)
    (by simpa [refreshRoles_owc, enterStage, startDrainTimer_owc] using begins.cause)
    (by simpa [refreshRoles_owc, enterStage, startDrainTimer_owc] using begins.path) with ⟨_, owc, _⟩ | committing
  · rw [fencedStage, owc]
    simp [refreshRoles_owc, enterStage, startDrainTimer_owc, r, Owc.beginDrain]
  · simp [fencedStage, committing] at draining

/-- A load that names an owner: OWC keeps it, waits for it in GRACE, or fences it (R61, R69, R73). -/
theorem loadGood_some (p : Path) (epoch : Word) (count : CommitCount) (r : PolicyRecord) {s : State}
    (loading : s.owc.state = .loading) :
    let t := loadGood (some p) epoch count r s
    ((t.hmon.get p).health ≠ .lost ∨ autoTakeover r = false →
        t.owc.state = .owned ∧ t.owc.owner = some p ∧ t.owc.attempt = 0) ∧
      ((t.hmon.get p).health = .lost → autoTakeover r = true →
        (r.graceMs ≠ 0#16 → t.owc.state = .grace ∧ t.owc.owner = some p ∧
          t.owc.graceTimer = some r.graceMs.toNat ∧ t.owc.attempt = 0) ∧
          (r.graceMs = 0#16 → t.role p = .fenced ∧ t.owc.owner = none ∧
            (t.owc.state = .draining ∧ t.owc.attempt = 0 ∨ t.owc.state = .committing) ∧
            t.owc.drainCause = some .loss ∧ t.owc.drainedPath = some p)) := by
  obtain ⟨state, owner, _, _, policy, attempt, _⟩ := loadRecorded_owc (some p) epoch count r loading
  rw [loadGood_eq]
  generalize loadRecorded (some p) epoch count r s = v at *
  obtain ⟨state, owner, policy, attempt⟩ : (loadAnnounced v).owc.state = .owned ∧ (loadAnnounced v).owc.owner = some p ∧
      (loadAnnounced v).owc.policy = r ∧ (loadAnnounced v).owc.attempt = 0 := by
    rw [loadAnnounced_owc]
    exact ⟨state, owner, policy, attempt⟩
  generalize loadAnnounced v = u at *
  intro t
  have hmon : t.hmon = u.hmon := (reportIfOwnerLost_frame u).1
  rw [hmon]
  refine ⟨fun kept => ?_, fun lost auto => ?_⟩
  · have same : t = u := reportIfOwnerLost_of_kept owner (by rwa [policy])
    rw [same]
    exact ⟨state, owner, attempt⟩
  · have told : t = if r.graceMs = 0#16 then beginFencedDrain .loss p u
        else refreshRoles { u with owc := { u.owc with state := .grace, graceTimer := some r.graceMs.toNat } } := by
      have held := ownerLost_held state owner (by rwa [policy])
      rw [policy] at held
      exact (reportIfOwnerLost_of_lost owner lost).trans held
    refine ⟨fun lasts => ?_, fun none => ?_⟩
    · rw [told, if_neg lasts]
      exact ⟨rfl, owner, rfl, attempt⟩
    · rw [told, if_pos none]
      obtain ⟨role, _, noOwner, stage, _, cause, path, _⟩ := beginFencedDrain_fencedDrain .loss p u
      exact ⟨role, noOwner, stage.imp (fun going => ⟨going, (beginFencedDrain_attempt going).trans attempt⟩) id, cause,
        path⟩

/-! ## The three judgements -/

theorem loadedOwner_eq_some {s : State} {ownerByte : Byte} {p : Path} :
    loadedOwner ownerByte s = some p ↔ ownerByte = BitVec.ofNat 8 (pathCode (some p)) ∧ s.role p ≠ .fenced := by
  have unfenced (q : Path) : (if s.role q = .fenced then none else some q) = some p ↔ q = p ∧ s.role p ≠ .fenced := by
    rw [Option.ite_none_left_eq_some, Option.some_inj]
    exact ⟨fun ⟨h, same⟩ => ⟨same, same ▸ h⟩, fun ⟨same, h⟩ => ⟨same ▸ h, same⟩⟩
  unfold loadedOwner
  by_cases a : ownerByte = 1#8
  · subst a
    refine (unfenced .a).trans (and_congr_left fun _ => ?_)
    cases p <;> decide
  · by_cases b : ownerByte = 2#8
    · subst b
      refine (unfenced .b).trans (and_congr_left fun _ => ?_)
      cases p <;> decide
    · have code : ownerByte ≠ BitVec.ofNat 8 (pathCode (some p)) := by cases p <;> assumption
      simp [a, b, code]

theorem loadedOwner_eq_none {s : State} {ownerByte : Byte} (a : ownerByte ≠ 1#8) (b : ownerByte ≠ 2#8) :
    loadedOwner ownerByte s = none := by
  simp [loadedOwner, a, b]

theorem loadedOwner_fenced {s : State} {p : Path} (fenced : s.role p = .fenced) :
    loadedOwner (BitVec.ofNat 8 (pathCode (some p))) s = none := by
  cases p <;> exact if_pos fenced

theorem loadedPolicy_eq (capacity : Nat) (record : PolicyRecord) :
    loadedPolicy capacity record = (acceptPolicy capacity record).getD defaultPolicy := by
  unfold loadedPolicy
  cases acceptPolicy capacity record <;> rfl

/-- The state in which the load is judged differs from that before it in the reserved slot and page 255 alone. -/
theorem loadTaken_frame {status : DriveStatus} (good : status = .good ∨ status = .partialDone) (s : State)
    (block : List Byte) :
    let u := s.loadTaken status block
    u.owc = s.owc ∧ u.pif = s.pif ∧ u.adm = s.adm ∧ u.mem = fillPage s.mem Config.ownershipPage block ∧
      u.reportedCapacity = s.reportedCapacity := by
  rcases good with rfl | rfl <;> exact ⟨rfl, rfl, rfl, rfl, rfl⟩

/-- Settles O55: the block in page 255 is judged, and the record that it gives is taken with its notices. -/
theorem loadJudgesBlock : Obligations.LoadJudgesBlock := by
  intro s status block attempt ready slots held good loading _ judged
  obtain ⟨owc, pif, adm, mem, capacity⟩ := loadTaken_frame good s block
  refine ⟨_, exec_loadTaken ready slots held good loading, ?_⟩
  have loading : (s.loadTaken status block).owc.state = .loading := by rw [owc, loading]
  have roles (p : Path) : (s.loadTaken status block).role p = s.role p := by rw [State.role, owc, State.role]
  have links (p : Path) : (s.loadTaken status block).linkUp p = s.linkUp p := by rw [State.linkUp, pif, State.linkUp]
  have verdict : judged = judgeBlock (s.loadTaken status block).mem := by rw [mem]
  generalize s.loadTaken status block = u at *
  refine ⟨by simp [adm], fun blank => ?_, fun ownerByte epoch count record valid => ?_, fun bad => ?_⟩
  · have completed : completeLoad u = loadGood none 0#16 0#32 defaultPolicy u := by
      rw [completeLoad, ← verdict, blank]
    obtain ⟨epoch, count, policy, notified, history⟩ := loadGood_record none 0#16 0#32 defaultPolicy loading
    obtain ⟨state, owner, zero⟩ := loadGood_none 0#16 0#32 defaultPolicy loading
    rw [owc] at history
    rw [completed]
    generalize loadGood none 0#16 0#32 defaultPolicy u = t at *
    exact ⟨state, owner, epoch, count, policy, zero, notified.of_same roles links, history⟩
  · intro force
    have completed : completeLoad u = loadGood (loadedOwner ownerByte u) epoch count force u := by
      rw [completeLoad, ← verdict, valid]
      dsimp only
      rw [loadedPolicy_eq, capacity]
    obtain ⟨newEpoch, newCount, policy, notified, _⟩ := loadGood_record (loadedOwner ownerByte u) epoch count force loading
    have unowned (none : loadedOwner ownerByte u = .none) :
        (completeLoad u).owc.state = .unowned ∧ (completeLoad u).owc.owner = .none ∧ (completeLoad u).owc.attempt = 0 := by
      rw [completed, none]
      exact loadGood_none epoch count force loading
    rw [← completed] at newEpoch newCount policy notified
    refine ⟨newEpoch, newCount, policy, fun owner names => ?_, fun p code unfenced => ?_, fun p code fenced => ?_,
      fun a b => unowned (loadedOwner_eq_none a b)⟩
    · have same : owner = loadedOwner ownerByte u := Option.ext fun p => by
        rw [names p, loadedOwner_eq_some, roles]
      rw [same]
      exact notified.of_same roles links
    · rw [completed, loadedOwner_eq_some.2 ⟨code, by rwa [roles]⟩]
      exact loadGood_some p epoch count force loading
    · exact unowned (code ▸ loadedOwner_fenced (by rwa [roles]))
  · have completed : completeLoad u = loadBad u := by
      rw [completeLoad, ← verdict, bad]
    obtain ⟨state, owner, zero, cause⟩ := loadBad_owc u
    obtain ⟨frozen, blockBad⟩ := loadBad_flags u
    have block := (loadBad_keepsRecord u).block
    have notified := (loadBad_notified loading).of_same roles links
    rw [SameBlock, owc] at block
    rw [owc] at notified
    rw [completed]
    exact ⟨state, cause, owner, block, zero, blockBad, frozen, notified⟩

end Sys2Proof.Machine
end

section
/-! Steps that issue nothing to the drive: outside READY no step of an event does (R162, R164), and what they leave of the
table. -/

namespace Sys2Proof.Machine

set_option Elab.async false

/-! ## The relation -/

/-- From `x` to `y` an entry stands, and holds no segment at the drive that it did not hold. -/
structure Entry.Rests (x y : Entry) : Prop where
  stands : x.Stands y
  outstanding : y.outstanding ⊆ x.outstanding

theorem Entry.Rests.of_eq {x y : Entry} (stands : x.Stands y) (same : y.outstanding = x.outstanding := by rfl) :
    x.Rests y :=
  ⟨stands, same ▸ List.Subset.refl _⟩

theorem Entry.Rests.refl (e : Entry) : e.Rests e :=
  .of_eq (.refl e)

theorem Entry.Rests.trans {x y z : Entry} (h : x.Rests y) (k : y.Rests z) : x.Rests z :=
  ⟨h.stands.trans k.stands, List.Subset.trans k.outstanding h.outstanding⟩

/-- From `s` to `t` nothing is issued to the drive, no segment becomes outstanding and no entry is added. -/
structure Quiet (s t : State) : Prop where
  slots : (t.ift.map Entry.slot).Sublist (s.ift.map Entry.slot)
  entries : ∀ y ∈ t.ift, ∃ x ∈ s.ift, x.Rests y
  state : t.dpt.state = s.dpt.state
  busy : t.dpt.busy = s.dpt.busy
  requests : t.dpt.requests = s.dpt.requests

theorem Quiet.of_table {s t : State} (ift : t.ift = s.ift := by simp) (state : t.dpt.state = s.dpt.state := by simp)
    (busy : t.dpt.busy = s.dpt.busy := by simp) (requests : t.dpt.requests = s.dpt.requests := by simp) : Quiet s t :=
  ⟨by rw [ift], fun y hy => ⟨y, ift ▸ hy, .refl y⟩, state, busy, requests⟩

theorem Quiet.refl (s : State) : Quiet s s :=
  .of_table rfl rfl rfl rfl

theorem Quiet.trans {s t u : State} (h : Quiet s t) (k : Quiet t u) : Quiet s u where
  slots := k.slots.trans h.slots
  entries z hz := by
    obtain ⟨y, hy, second⟩ := k.entries z hz
    obtain ⟨x, hx, first⟩ := h.entries y hy
    exact ⟨x, hx, first.trans second⟩
  state := k.state.trans h.state
  busy := k.busy.trans h.busy
  requests := k.requests.trans h.requests

theorem Quiet.not_ready {s t : State} (h : Quiet s t) (other : s.dpt.state ≠ .ready) : t.dpt.state ≠ .ready := by
  rwa [h.state]

theorem Quiet.slotsDistinct {s t : State} (h : Quiet s t) (distinct : SlotsDistinct s) : SlotsDistinct t := by
  have nodup : (s.ift.map Entry.slot).Nodup := List.pairwise_map.2 distinct
  exact List.pairwise_map.1 (nodup.sublist h.slots)

theorem Quiet.congr {s t u : State} (h : Quiet s t) (ift : u.ift = t.ift := by simp) (dpt : u.dpt = t.dpt := by simp) :
    Quiet s u :=
  h.trans (.of_table ift (by rw [dpt]) (by rw [dpt]) (by rw [dpt]))

theorem Quiet.onEntry {k : Nat} {f : Entry → Entry} (s : State) (hf : ∀ x : Entry, x.Rests (f x)) :
    Quiet s (s.onEntry k f) where
  slots := by
    have same : (s.onEntry k f).ift.map Entry.slot = s.ift.map Entry.slot := by
      rw [State.onEntry_ift, List.map_map]
      refine List.map_congr_left fun x _ => ?_
      rw [Function.comp_apply]
      split
      · exact (hf x).stands.slot
      · rfl
    rw [same]
  entries y hy := by
    obtain ⟨x, hx, rfl⟩ := List.mem_map.1 hy
    refine ⟨x, hx, ?_⟩
    split
    · exact hf x
    · exact .refl x
  state := rfl
  busy := rfl
  requests := rfl

theorem Quiet.dropEntry (k : Nat) (s : State) : Quiet s (dropEntry k s) where
  slots := (Thins.dropEntry k s).slots
  entries y hy := by
    obtain ⟨x, hx, rfl⟩ := List.mem_map.1 hy
    exact ⟨x, (List.mem_filter.1 hx).1, .of_eq .of_eq⟩
  state := rfl
  busy := rfl
  requests := rfl

theorem forSlots_quiet {op : Nat → State → State} (h : ∀ k s, Quiet s (op k s)) (l : List Nat) (s : State) :
    Quiet s (forSlots op l s) :=
  forSlots_keeps (P := Quiet s) (fun k u held => held.trans (h k u)) l (.refl s)

/-! ## Reports, grants and the check for drain end -/

theorem reportSlot_quiet (k : Nat) (s : State) : Quiet s (reportSlot k s) := by
  have dpt : (reportSlot k s).dpt = s.dpt := by simp
  have table : ∃ u, Quiet s u ∧ (reportSlot k s).ift = u.ift ∧ u.dpt = s.dpt := by
    cases reportSlot_table k s with
    | kept h => exact ⟨s, .refl s, h, rfl⟩
    | dropped h => exact ⟨_, .dropEntry k s, h, rfl⟩
    | marked outcome h =>
      exact ⟨_, .onEntry (f := fun x => { x with reported := true, fencedOutcome := outcome x }) s fun _ => .of_eq .of_eq,
        h, rfl⟩
  obtain ⟨u, quiet, ift, same⟩ := table
  exact quiet.congr ift (dpt.trans same.symm)

theorem reportAll_quiet (s : State) : Quiet s (reportAll s) :=
  forSlots_quiet reportSlot_quiet _ s

theorem makeGrant_quiet (g : GrantRequest) (s : State) : Quiet s (makeGrant g s) := by
  unfold makeGrant
  split
  · exact .of_table
  · next e _ =>
    have allocated : Quiet s (allocateRun g.slot g.path e.frontier (s.freePages.take g.length) s) := .of_table
    have granted := allocated.trans
      (.onEntry (k := g.slot) (f := fun x => { x with readGrant := some g.length }) _ fun _ => .of_eq .of_eq)
    exact granted.congr

theorem walkFrom_quiet (l : List GrantRequest) (full : Both Bool) (s : State) : Quiet s (walkFrom l full s) := by
  induction l generalizing full s with
  | nil => exact .refl s
  | cons g rest ih =>
    unfold walkFrom
    split
    · exact ih full s
    · split
      · exact ih _ s
      · split
        · exact .refl s
        · exact (makeGrant_quiet g s).trans (ih full _)

theorem walkGrants_quiet (s : State) : Quiet s (walkGrants s) := by
  have placed : Quiet s (placeRequests s) := .of_table (placeRequests_ift s)
  exact placed.trans (walkFrom_quiet _ _ _)

/-- Outside READY the slot arbiter gives nothing (R162). -/
theorem runArbiter_of_not_ready {s : State} (other : s.dpt.state ≠ .ready) : runArbiter s = s := by
  have none : arbiterGift s = .none := if_neg other
  unfold runArbiter
  cases s.dpt.slotCount with
  | zero => rfl
  | succ n => rw [arbiterRuns, none]

/-- Outside READY a request for the reserved slot waits, or is not kept (R164). -/
theorem requestBlockOp_quiet {op : BlockOp} {s : State} (other : s.dpt.state ≠ .ready) : Quiet s (requestBlockOp op s) := by
  unfold requestBlockOp
  split
  · exact .refl s
  · rw [issueReserved_of_not (s := { s with dpt := { s.dpt with request := some op } }) (.inr other)]
    exact .of_table rfl rfl rfl rfl

theorem beginCommit_quiet (purpose : Purpose) (c : Contents) {s : State} (other : s.dpt.state ≠ .ready) :
    Quiet s (beginCommit purpose c s) := by
  have filled (o : Owc) (m : Memory) : Quiet s { s with owc := o, mem := m } := .of_table rfl rfl rfl rfl
  unfold beginCommit
  exact (filled _ _).trans (requestBlockOp_quiet other)

theorem beginTransition_quiet (purpose : Purpose) {s : State} (other : s.dpt.state ≠ .ready) :
    Quiet s (beginTransition purpose s) := by
  unfold beginTransition
  split
  · exact .of_table rfl rfl rfl rfl
  · exact beginCommit_quiet purpose _ other

theorem checkDrainEnd_quiet {s : State} (other : s.dpt.state ≠ .ready) : Quiet s (checkDrainEnd s) := by
  have closed (o : Owc) : Quiet s (refreshRoles { s with owc := o }) := .of_table rfl rfl rfl rfl
  unfold checkDrainEnd
  split
  · split
    · rw [endDrain_eq]
      exact (closed _).trans (beginTransition_quiet _ other)
    · exact .refl s
  · exact .refl s

theorem follow_quiet (before : State) {s : State} (other : s.dpt.state ≠ .ready) : Quiet s (follow before s) := by
  have tested (p : Path) (u : State) : Quiet u (testGoAfter before p u) := .of_table
  have offered (p : Path) (u : State) : Quiet u (offerReadData p u) := .of_table
  have granted := (tested .a s).trans <| (tested .b _).trans (walkGrants_quiet _)
  unfold follow
  rw [runArbiter_of_not_ready (granted.not_ready other)]
  exact granted.trans <| (offered .a _).trans (offered .b _)

theorem conclude_quiet (before : State) {s : State} (other : s.dpt.state ≠ .ready) : Quiet s (conclude before s) := by
  have reported := reportAll_quiet s
  have checked := reported.trans (checkDrainEnd_quiet (reported.not_ready other))
  exact checked.trans (follow_quiet before (checked.not_ready other))

/-! ## A failed attempt (R55, R56, R60, R63) -/

theorem reportChange_quiet_of_idle (p : Path) (old : Health) {s : State} (owned : s.owc.state ≠ .owned)
    (grace : s.owc.state ≠ .grace) : Quiet s (reportChange p old s) := by
  unfold reportChange
  split
  · exact .refl s
  · rw [reportHealth_of_idle p old _ owned grace]
    split
    · exact .of_table
    · exact .refl s

theorem reevaluateBoth_quiet_of_idle {s : State} (owned : s.owc.state ≠ .owned) (grace : s.owc.state ≠ .grace) :
    Quiet s (reevaluateBoth s) := by
  let judged := judgeHealth .b (judgeHealth .a s)
  have begun : Quiet s judged := .of_table rfl rfl rfl rfl
  have first : Quiet judged (reportChange .a (s.hmon.get .a).health judged) :=
    reportChange_quiet_of_idle .a _ owned grace
  have same : (reportChange .a (s.hmon.get .a).health judged).owc.state = s.owc.state :=
    congrArg Owc.state (reportChange_owc_of_idle .a _ (s := judged) owned grace)
  exact begun.trans <| first.trans <| reportChange_quiet_of_idle .b _ (by rwa [same]) (by rwa [same])

theorem takeEffect_quiet_of_idle (r : PolicyRecord) {s : State} (owned : s.owc.state ≠ .owned)
    (grace : s.owc.state ≠ .grace) (other : s.dpt.state ≠ .ready) : Quiet s (takeEffect r s) := by
  let inForce := refreshRoles { s with owc := { s.owc with policy := r } }
  have begun : Quiet s inForce := .of_table rfl rfl rfl rfl
  have tested (p : Path) (u : State) : Quiet u (testThresholds p u) := .of_table
  have reported := begun.trans <| (reevaluateBoth_quiet_of_idle (s := inForce) owned grace).trans <|
    (tested .a _).trans (tested .b _)
  exact reported.trans (follow_quiet _ (reported.not_ready other))

theorem enterFrozen_quiet (cause : FrozenCause) (s : State) : Quiet s (enterFrozen cause s) :=
  .of_table

theorem loadBad_quiet {s : State} (loading : s.owc.state = .loading) (other : s.dpt.state ≠ .ready) :
    Quiet s (loadBad s) := by
  have effect := takeEffect_quiet_of_idle s.owc.policy (by simp [loading]) (by simp [loading]) other
  unfold loadBad
  generalize takeEffect s.owc.policy s = u at *
  exact effect.congr (by simp [addHistory]) (by simp [addHistory])

theorem operationFailed_quiet (op : BlockOp) {s : State} (other : s.dpt.state ≠ .ready) :
    Quiet s (operationFailed op s) := by
  have asked (op : BlockOp) : Quiet s (requestBlockOp op { s with owc := { s.owc with attempt := s.owc.attempt + 1 } }) :=
    Quiet.trans (t := { s with owc := { s.owc with attempt := s.owc.attempt + 1 } }) (.of_table rfl rfl rfl rfl)
      (requestBlockOp_quiet other)
  cases op with
  | load =>
    unfold operationFailed attemptFailed
    dsimp only
    split
    · next due =>
      split
      · exact asked .load
      · exact loadBad_quiet due.1 other
    · exact .refl s
  | commit =>
    unfold operationFailed attemptFailed
    dsimp only
    split
    · split
      · exact asked .commit
      · exact enterFrozen_quiet _ s
    · exact .refl s

end Sys2Proof.Machine
end

section
/-! The drive reset (R124, R170, R171): its slots are aborted, and nothing is issued until the drive is READY again. -/

namespace Sys2Proof.Machine

set_option Elab.async false

/-! ## The abort of an entry's segments (R124) -/

theorem endEntry_quiet (k : Nat) (st : EndStatus) (s : State) : Quiet s (endEntry k st s) := by
  have ended : Quiet s (s.onEntry k (Entry.ended st)) :=
    .onEntry s fun _ => .of_eq ⟨rfl, rfl, rfl, id, fun _ => rfl⟩
  exact ended.congr rfl rfl

theorem decideEnd_quiet (st : EndStatus) (k : Nat) (s : State) : Quiet s (decideEnd st k s) := by
  unfold decideEnd
  split
  · exact .refl s
  · split
    · exact .refl s
    · exact endEntry_quiet k st s

theorem countZeroProgress_quiet (k : Nat) (s : State) : Quiet s (countZeroProgress k s) := by
  unfold countZeroProgress
  split
  · exact .refl s
  · split
    · exact .onEntry s fun _ => .of_eq .of_eq
    · exact decideEnd_quiet _ k s

theorem returnUndone_quiet (e : Entry) (offset length : Nat) (s : State) : Quiet s (returnUndone e offset length s) := by
  have counted : Quiet s (s.onEntry e.slot (fun x => { x with issued := x.issued - length })) :=
    .onEntry s fun _ => .of_eq .of_eq
  have marked (st : PageState) (u : State) : Quiet u (u.markPages e.slot offset length st) := .of_table rfl rfl rfl rfl
  have returned (u : State) : Quiet u (u.onEntry e.slot
      (fun x => { x with returned := insertRun { offset := offset, length := length } x.returned })) :=
    .onEntry u fun _ => .of_eq .of_eq
  unfold returnUndone
  dsimp only
  split
  · exact .refl s
  · split
    · exact counted.trans <| (marked _ _).trans (returned _)
    · exact counted.congr rfl rfl

theorem dropOutstanding_quiet (k driveSlot : Nat) (s : State) : Quiet s (dropOutstanding k driveSlot s) :=
  .onEntry s fun _ => ⟨.of_eq, fun _ hg => (List.mem_filter.1 hg).1⟩

/-- No entry in the slot has a segment in the drive slot. -/
def FreeOf (k driveSlot : Nat) (s : State) : Prop :=
  ∀ y ∈ s.ift, y.slot = k → ∀ g ∈ y.outstanding, g.driveSlot ≠ driveSlot

theorem FreeOf.quiet {k driveSlot : Nat} {s t : State} (h : FreeOf k driveSlot s) (quiet : Quiet s t) :
    FreeOf k driveSlot t := by
  intro y hy own g hg
  obtain ⟨x, hx, rests⟩ := quiet.entries y hy
  exact h x hx (rests.stands.slot.symm.trans own) g (rests.outstanding hg)

theorem dropOutstanding_freeOf (k driveSlot : Nat) (s : State) : FreeOf k driveSlot (dropOutstanding k driveSlot s) := by
  intro y hy own g hg
  obtain ⟨x, _, rfl⟩ := List.mem_map.1 hy
  by_cases here : x.slot = k
  · simp only [here, if_true] at hg
    simpa using (List.mem_filter.1 hg).2
  · simp [here] at own

theorem abortSegments_quiet (k : Nat) (l : List Segment) (s : State) : Quiet s (abortSegments k l s) := by
  induction l generalizing s with
  | nil => exact .refl s
  | cons g rest ih =>
    unfold abortSegments
    dsimp only
    split
    · exact (dropOutstanding_quiet k g.driveSlot s).trans (ih _)
    · exact (dropOutstanding_quiet k g.driveSlot s).trans <| (returnUndone_quiet _ _ _ _).trans (ih _)

theorem abortSegments_freeOf {k : Nat} {l : List Segment} {g : Segment} (listed : g ∈ l) (s : State) :
    FreeOf k g.driveSlot (abortSegments k l s) := by
  induction l generalizing s with
  | nil => cases listed
  | cons first rest ih =>
    unfold abortSegments
    dsimp only
    have dropped := dropOutstanding_freeOf k first.driveSlot s
    rcases List.mem_cons.1 listed with rfl | later
    · split
      · exact dropped.quiet (abortSegments_quiet k rest _)
      · exact dropped.quiet ((returnUndone_quiet _ _ _ _).trans (abortSegments_quiet k rest _))
    · split
      · exact ih later _
      · exact ih later _

theorem abortEntry_quiet (k : Nat) (s : State) : Quiet s (abortEntry k s) := by
  unfold abortEntry
  split
  · exact .refl s
  · split
    · exact .refl s
    · exact (abortSegments_quiet k _ s).trans (countZeroProgress_quiet k _)

/-- The entry in a slot has no segment at the drive. -/
def SlotIdle (k : Nat) (s : State) : Prop :=
  ∀ y ∈ s.ift, y.slot = k → y.outstanding = []

theorem SlotIdle.quiet {k : Nat} {s t : State} (h : SlotIdle k s) (quiet : Quiet s t) : SlotIdle k t := by
  intro y hy own
  obtain ⟨x, hx, rests⟩ := quiet.entries y hy
  have none := h x hx (rests.stands.slot.symm.trans own)
  exact List.subset_nil.1 (none ▸ rests.outstanding)

theorem abortEntry_slotIdle (k : Nat) {s : State} (distinct : SlotsDistinct s) : SlotIdle k (abortEntry k s) := by
  intro y hy own
  obtain ⟨e, he, rests⟩ := (abortEntry_quiet k s).entries y hy
  have found : s.entry? k = some e := by
    rw [← own, rests.stands.slot]
    exact entry?_of_mem distinct he
  by_cases idle : e.outstanding = []
  · exact List.subset_nil.1 (idle ▸ rests.outstanding)
  · have aborted : abortEntry k s = countZeroProgress k (abortSegments k e.outstanding s) := by
      rw [abortEntry, found]
      exact if_neg idle
    refine List.eq_nil_iff_forall_not_mem.2 fun g hg => ?_
    have free := (abortSegments_freeOf (k := k) (rests.outstanding hg) s).quiet (countZeroProgress_quiet k _)
    rw [← aborted] at free
    exact free y hy own g hg rfl

theorem forSlots_abortEntry_slotIdle {k : Nat} {l : List Nat} (listed : k ∈ l) {s : State} (distinct : SlotsDistinct s) :
    SlotIdle k (forSlots abortEntry l s) := by
  induction l generalizing s with
  | nil => cases listed
  | cons j rest ih =>
    rcases List.mem_cons.1 listed with rfl | later
    · exact (abortEntry_slotIdle k distinct).quiet (forSlots_quiet abortEntry_quiet rest _)
    · exact ih later ((abortEntry_quiet j s).slotsDistinct distinct)

/-! ## The reset (R170) -/

/-- The state in which every slot of the drive has been aborted. -/
def resetAborted (s : State) : State :=
  let started : State := { s with dpt := s.dpt.startReset }
  forSlots abortEntry (started.slotsWhere (fun _ => true)) started

theorem beginReset_eq (s : State) :
    beginReset s = raiseBoth .driveReset
      (match s.operationAtDrive with
       | some op => operationFailed op (conclude s (resetAborted s))
       | none => conclude s (resetAborted s)) := rfl

theorem resetAborted_quiet (s : State) : Quiet { s with dpt := s.dpt.startReset } (resetAborted s) :=
  forSlots_quiet abortEntry_quiet _ _

theorem resetAborted_not_ready (s : State) : (resetAborted s).dpt.state ≠ .ready :=
  (resetAborted_quiet s).not_ready (by simp [Dpt.startReset])

/-- After the abort nothing is issued: the drive is RESETTING. -/
theorem beginReset_quiet (s : State) : Quiet (resetAborted s) (beginReset s) := by
  have concluded := conclude_quiet s (resetAborted_not_ready s)
  have raised (u : State) : Quiet u (raiseBoth .driveReset u) := .of_table
  rw [beginReset_eq]
  refine .trans ?_ (raised _)
  split
  · exact concluded.trans (operationFailed_quiet _ (concluded.not_ready (resetAborted_not_ready s)))
  · exact concluded

theorem resetAborted_idle {s : State} (distinct : SlotsDistinct s) : ∀ e ∈ (resetAborted s).ift, e.outstanding = [] := by
  intro e he
  obtain ⟨x, hx, rests⟩ := (resetAborted_quiet s).entries e he
  have listed : x.slot ∈ State.slotsWhere { s with dpt := s.dpt.startReset } (fun _ => true) :=
    List.mem_map_of_mem (List.mem_filter.2 ⟨hx, rfl⟩)
  exact forSlots_abortEntry_slotIdle listed (s := { s with dpt := s.dpt.startReset }) distinct e he rests.stands.slot

theorem beginReset_resetTimer (s : State) : (beginReset s).dpt.resetTimer = some Config.resetTimeoutMs := by
  rw [beginReset_eq]
  cases s.operationAtDrive <;> simp [resetAborted, Dpt.startReset]

theorem resetBegun_beginReset (s : State) : ResetBegun s (beginReset s) := by
  have quiet := (resetAborted_quiet s).trans (beginReset_quiet s)
  refine ⟨quiet.state, quiet.busy, beginReset_resetTimer s, quiet.requests, by simp, by simp, by simp,
    raiseBoth_flagInBoth .driveReset _, fun inv e he => ?_, by simp, by simp⟩
  obtain ⟨x, hx, rests⟩ := (beginReset_quiet s).entries e he
  have idle := resetAborted_idle inv.slotsDistinct x hx
  exact List.subset_nil.1 (idle ▸ rests.outstanding)

theorem resetBegun_requestReset {s : State} (ready : s.dpt.state = .ready) : ResetBegun s (requestReset s) := by
  rw [requestReset, if_pos ready]
  exact resetBegun_beginReset s

theorem requestReset_of_not_ready {s : State} (other : s.dpt.state ≠ .ready) : requestReset s = s :=
  if_neg other

/-- What the event goes on to do leaves the reset as it began: nothing is issued before the drive is READY again. -/
theorem ResetBegun.conclude {s u : State} (h : ResetBegun s u) (before : State) {o : Owc} (epoch : o.epoch = u.owc.epoch)
    (count : o.commitCount = u.owc.commitCount) : ResetBegun s (conclude before { u with owc := o }) := by
  obtain ⟨state, busy, timer, requests, identity, mark, slots, flag, idle, sameEpoch, sameCount⟩ := h
  have quiet := conclude_quiet before (s := { u with owc := o }) (by simp [state])
  refine ⟨quiet.state.trans state, quiet.busy.trans busy, ?_, quiet.requests.trans requests, ?_, ?_, ?_,
    fun p => (conclude_advances before { u with owc := o }).flags p _ (flag p), fun inv e he => ?_, ?_, ?_⟩
  case refine_5 =>
    obtain ⟨x, hx, rests⟩ := quiet.entries e he
    exact List.subset_nil.1 (idle inv x hx ▸ rests.outstanding)
  all_goals simp [*]

end Sys2Proof.Machine
end

section
/-! The expiries of drain stages 2 and 3 (R83, R85). -/

namespace Sys2Proof.Machine

set_option Elab.async false

/-! ## A drain through an event -/

/-- The record is that of a drain, which goes on or is being closed by its commit (R80, R88). -/
structure InDrain (cause : DrainCause) (drained : Path) (s : State) : Prop where
  state : s.owc.state = .draining ∨ s.owc.state = .committing
  cause : s.owc.drainCause = some cause
  path : s.owc.drainedPath = some drained

/-- A drain that goes on has an entry of the drained path in the table (R80). -/
structure DrainChecked (cause : DrainCause) (drained : Path) (s : State) : Prop extends InDrain cause drained s where
  remains : s.owc.state = .draining → 0 < s.entryCount drained

section

variable {cause : DrainCause} {drained : Path} {s : State}

theorem InDrain.congr {t : State} (h : InDrain cause drained s) (state : t.owc.state = s.owc.state := by simp)
    (held : t.owc.drainCause = s.owc.drainCause := by simp) (path : t.owc.drainedPath = s.owc.drainedPath := by simp) :
    InDrain cause drained t :=
  ⟨by rw [state]; exact h.state, held.trans h.cause, path.trans h.path⟩

theorem checkDrainEnd_of_not_draining (other : s.owc.state ≠ .draining) : checkDrainEnd s = s := by
  unfold checkDrainEnd
  split
  · exact if_neg fun h => other h.1
  · rfl

theorem conclude_owc (before s : State) : (conclude before s).owc = (checkDrainEnd (reportAll s)).owc := by
  simp [conclude]

theorem InDrain.conclude (h : InDrain cause drained s) (before : State) :
    DrainChecked cause drained (conclude before s) := by
  obtain ⟨state, held, path⟩ := h
  have left (after : (Machine.conclude before s).owc.state = .draining ∨
      (Machine.conclude before s).owc.state = .committing) : InDrain cause drained (Machine.conclude before s) :=
    ⟨after, by simpa using held, by simpa using path⟩
  rcases state with draining | committing
  · rcases conclude_draining before draining held path with ⟨state, _, remains⟩ | ended
    · exact ⟨left (.inl state), fun _ => remains⟩
    · exact ⟨left (.inr ended), fun going => by simp [ended] at going⟩
  · have still : (Machine.conclude before s).owc.state = .committing := by
      rw [conclude_owc, checkDrainEnd_of_not_draining (by simp [committing])]
      simpa using committing
    exact ⟨left (.inr still), fun going => by simp [still] at going⟩

/-- A failed attempt leaves the drain and the table, or ends in FROZEN (R55, R56, R86). -/
theorem DrainChecked.operationFailed (h : DrainChecked cause drained s) (op : BlockOp) :
    (operationFailed op s).owc.state = .frozen ∨ DrainChecked cause drained (operationFailed op s) := by
  have asked : DrainChecked cause drained
      (requestBlockOp .commit { s with owc := { s.owc with attempt := s.owc.attempt + 1 } }) :=
    ⟨h.toInDrain.congr, by simpa [State.entryCount] using h.remains⟩
  cases op with
  | load =>
    refine .inr ?_
    have idle : Machine.operationFailed .load s = s := by
      refine if_neg fun due => ?_
      rcases h.state with state | state <;> simp [state] at due
    rwa [idle]
  | commit =>
    unfold Machine.operationFailed attemptFailed
    dsimp only
    split
    · split
      · exact .inr asked
      · refine .inl ?_
        rw [enterFrozen_owc (by rcases h.state with state | state <;> simp [state])]
        rfl
    · exact .inr h

theorem InDrain.beginReset (h : InDrain cause drained s) :
    (beginReset s).owc.state = .frozen ∨ DrainChecked cause drained (beginReset s) := by
  have aborted : InDrain cause drained (resetAborted s) := h.congr (by simp [resetAborted]) (by simp [resetAborted])
    (by simp [resetAborted])
  have concluded := aborted.conclude s
  have raised (u : State) (checked : DrainChecked cause drained u) :
      DrainChecked cause drained (raiseBoth .driveReset u) :=
    ⟨checked.toInDrain.congr, by simpa [State.entryCount] using checked.remains⟩
  rw [beginReset_eq]
  split
  · next op _ => exact (concluded.operationFailed op).imp (by simp) (raised _)
  · exact .inr (raised _ concluded)

end

/-! ## A stopped drain timer -/

theorem conclude_drainTimer (before : State) {s : State} (stopped : s.owc.drainTimer = none) :
    (conclude before s).owc.drainTimer = none := by
  rw [conclude_owc]
  unfold checkDrainEnd
  split
  · split
    · rw [endDrain_eq]
      simp [refreshRoles_owc, Owc.close]
    · simpa using stopped
  · simpa using stopped

theorem enterFrozen_drainTimer (cause : FrozenCause) {s : State} (stopped : s.owc.drainTimer = none) :
    (enterFrozen cause s).owc.drainTimer = none := by
  unfold enterFrozen
  split
  · exact stopped
  · simp [refreshRoles_owc, Owc.freeze]

theorem operationFailed_drainTimer (op : BlockOp) {s : State} (stopped : s.owc.drainTimer = none) :
    (operationFailed op s).owc.drainTimer = none := by
  have attempted (op : BlockOp) : (attemptFailed op s).owc.drainTimer = none := by
    unfold attemptFailed
    split
    · simpa using stopped
    · cases op with
      | load => simp [loadBad, addHistory, refreshRoles_owc, Owc.freeze]
      | commit => exact enterFrozen_drainTimer _ stopped
  unfold operationFailed
  split <;> split
  · exact attempted _
  · exact stopped
  · exact attempted _
  · exact stopped

theorem beginReset_drainTimer {s : State} (stopped : s.owc.drainTimer = none) :
    (beginReset s).owc.drainTimer = none := by
  have concluded := conclude_drainTimer s (s := resetAborted s) (by simpa [resetAborted] using stopped)
  rw [beginReset_eq]
  split
  · next op _ => simpa using operationFailed_drainTimer op concluded
  · simpa using concluded

/-! ## Stage 2 (R83) -/

theorem drainDue_running {s : State} {stage : DrainStage} {drained : Path} (state : s.owc.state = .draining)
    (held : s.owc.drainStage = some stage) (timer : s.owc.drainTimer.isSome = true)
    (path : s.owc.drainedPath = some drained) : s.drainDue stage = some drained :=
  (if_pos ⟨state, held, timer⟩).trans path

/-- The state in which stage 2 has asked for the drive reset, and what it goes on to. -/
theorem stage2Expires_running {s : State} {drained : Path} (due : s.drainDue .fenced = some drained) :
    stage2Expires s =
      if (requestReset s).owc.state = .draining then conclude (requestReset s) (enterStage .resetDone (requestReset s))
      else requestReset s := by
  rw [stage2Expires, due]

/-- A drain that goes on is in stage 3 with its timer restarted (R83). -/
theorem conclude_enterStage {cause : DrainCause} {drained : Path} {s : State} (before : State) (h : InDrain cause drained s)
    (state : s.owc.state = .draining) (draining : (conclude before (enterStage .resetDone s)).owc.state = .draining) :
    (conclude before (enterStage .resetDone s)).owc.drainStage = some .resetDone ∧
      (conclude before (enterStage .resetDone s)).owc.drainTimer = some s.owc.policy.drainMs.toNat ∧
      0 < (conclude before (enterStage .resetDone s)).entryCount drained := by
  rcases conclude_draining before (s := enterStage .resetDone s) state h.cause h.path with ⟨_, owc, remains⟩ | ended
  · exact ⟨by simp [enterStage_owc], by rw [owc]; simp [enterStage_owc, startDrainTimer_owc], remains⟩
  · simp [ended] at draining

theorem stage2Expires_spec {s : State} {cause : DrainCause} {drained : Path} (state : s.owc.state = .draining)
    (timer : s.owc.drainTimer.isSome = true) (path : s.owc.drainedPath = some drained)
    (held : s.owc.drainCause = some cause) (stage : s.owc.drainStage = some .fenced) :
    let t := stage2Expires s
    (s.dpt.state = .ready → ResetBegun s t) ∧
      (s.dpt.state ≠ .ready → t.dpt.state = s.dpt.state ∧ t.dpt.requests = s.dpt.requests) ∧
      (t.owc.state = .draining →
        t.owc.drainStage = some .resetDone ∧ t.owc.drainTimer = some s.owc.policy.drainMs.toNat ∧
          0 < t.entryCount drained) := by
  have begun : InDrain cause drained s := ⟨.inl state, held, path⟩
  obtain ⟨_, _, policy⟩ : SameBlock s (requestReset s) := (requestReset_keepsRecord s).block
  rw [stage2Expires_running (drainDue_running state stage timer path)]
  split
  · next draining =>
    refine ⟨fun ready => (resetBegun_requestReset ready).conclude _ rfl rfl, fun other => ?_, fun going => ?_⟩
    · rw [requestReset_of_not_ready other]
      have quiet := conclude_quiet s (s := enterStage .resetDone s) other
      exact ⟨quiet.state, quiet.requests⟩
    · have asked : InDrain cause drained (requestReset s) := by
        unfold requestReset at draining ⊢
        split at draining
        · next ready =>
          rw [if_pos ready]
          exact (begun.beginReset.resolve_left (by simp [draining])).toInDrain
        · next other =>
          rw [if_neg other]
          exact begun
      rw [← policy]
      exact conclude_enterStage _ asked draining going
  · next ended =>
    refine ⟨resetBegun_requestReset, fun other => ?_, fun going => absurd going ended⟩
    rw [requestReset_of_not_ready other]
    exact ⟨rfl, rfl⟩

/-! ## Stage 3 (R85) -/

/-- Every entry of the path holds an end (R126). -/
def PathEnded (p : Path) (s : State) : Prop :=
  ∀ e ∈ s.ift, e.origin = p → e.endStatus.isSome = true

theorem PathEnded.standIn {p : Path} {s t : State} (h : PathEnded p s) (stand : StandIn s t) : PathEnded p t := by
  intro y hy origin
  obtain ⟨e, he, stands⟩ := stand y hy
  exact stands.ended (h e he (stands.origin.symm.trans origin))

theorem Quiet.standIn {s t : State} (h : Quiet s t) : StandIn s t := fun y hy => by
  obtain ⟨e, he, rests⟩ := h.entries y hy
  exact ⟨e, he, rests.stands⟩

theorem forSlots_decideEnd_ended (st : EndStatus) {l : List Nat} {s : State} (distinct : SlotsDistinct s) {y : Entry}
    (hy : y ∈ (forSlots (decideEnd st) l s).ift) (listed : y.slot ∈ l) : y.endStatus.isSome = true := by
  induction l generalizing s with
  | nil => cases listed
  | cons k rest ih =>
    have first := decideEnd_slotsDistinct k st distinct
    rcases List.mem_cons.1 listed with own | later
    · obtain ⟨x, hx, stands⟩ := (forSlots_quiet (decideEnd_quiet st) rest (decideEnd st k s)).standIn y hy
      have found := entry?_of_mem first hx
      rw [← stands.slot, own] at found
      exact stands.ended (decideEnd_ended st found)
    · exact ih first hy later

/-- After an end has been decided for each entry of a path, each holds one (R85, R126). -/
theorem decideEnds_pathEnded (st : EndStatus) (p : Path) {s : State} (distinct : SlotsDistinct s) :
    PathEnded p (forSlots (decideEnd st) (s.slotsWhere (fun e => e.origin == p)) s) := by
  intro y hy origin
  obtain ⟨e, he, stands⟩ := (forSlots_quiet (decideEnd_quiet st) _ s).standIn y hy
  refine forSlots_decideEnd_ended st distinct hy ?_
  rw [stands.slot]
  exact List.mem_map_of_mem (List.mem_filter.2 ⟨he, by simp [← stands.origin, origin]⟩)

/-- The state of stage 3 before it asks for a drive reset: the timer stopped, the remaining entries ended (R85). -/
def stage3Ended (drained : Path) (s : State) : State :=
  let stopped : State := { s with owc := { s.owc with drainTimer := none } }
  conclude s (forSlots (decideEnd .driveStall) (stopped.slotsWhere (fun e => e.origin == drained)) stopped)

theorem stage3Expires_running {s : State} {drained : Path} (due : s.drainDue .resetDone = some drained) :
    stage3Expires s =
      if (stage3Ended drained s).pathOutstanding drained then requestReset (stage3Ended drained s)
      else stage3Ended drained s := by
  rw [stage3Expires, due]
  rfl

/-- What the expiry of stage 3 is to leave (R85). -/
structure Stage3Left (drained : Path) (s t : State) : Prop where
  timer : t.owc.drainTimer = none
  ended : PathEnded drained t
  remains : t.owc.state = .draining → 0 < t.entryCount drained
  block : SameBlock s t

section

variable {cause : DrainCause} {drained : Path} {s : State}

theorem stage3Ended_checked (h : InDrain cause drained s) : DrainChecked cause drained (stage3Ended drained s) :=
  InDrain.conclude (h.congr) s

theorem stage3Ended_left (h : InDrain cause drained s) (distinct : SlotsDistinct s) :
    Stage3Left drained s (stage3Ended drained s) where
  timer := conclude_drainTimer s (by simp)
  ended := by
    let stopped : State := { s with owc := { s.owc with drainTimer := none } }
    have quiet := forSlots_quiet (decideEnd_quiet .driveStall) (stopped.slotsWhere (fun e => e.origin == drained)) stopped
    exact (decideEnds_pathEnded .driveStall drained (s := stopped) distinct).standIn
      (standIn_conclude s (quiet.slotsDistinct distinct))
  remains := (stage3Ended_checked h).remains
  block := by simp [SameBlock, stage3Ended]

/-- The drive reset that stage 3 asks for leaves no less (R85, R171). -/
theorem Stage3Left.requestReset {u : State} (h : Stage3Left drained s u) (drain : InDrain cause drained u) :
    Stage3Left drained s (requestReset u) := by
  unfold Machine.requestReset
  split
  · have block : SameBlock u (beginReset u) := (beginReset_keepsRecord u).block
    have stand : StandIn u (beginReset u) :=
      StandIn.trans (t := { u with dpt := u.dpt.startReset }) (.of_ift rfl)
        ((resetAborted_quiet u).trans (beginReset_quiet u)).standIn
    refine ⟨beginReset_drainTimer h.timer, h.ended.standIn stand, fun draining => ?_, h.block.trans block⟩
    exact (drain.beginReset.resolve_left (by simp [draining])).remains draining
  · exact h

theorem stage3Expires_left (h : InDrain cause drained s) (due : s.drainDue .resetDone = some drained)
    (distinct : SlotsDistinct s) : Stage3Left drained s (stage3Expires s) := by
  have ended := stage3Ended_left h distinct
  rw [stage3Expires_running due]
  split
  · exact ended.requestReset (stage3Ended_checked h).toInDrain
  · exact ended

end

/-- Settles O44: stage 2 asks for the drive reset and goes on to stage 3, which ends every entry of the path. -/
theorem laterDrainTimersExpire : Obligations.LaterDrainTimersExpire := by
  intro s drained cause state timer path held
  refine ⟨fun stage => ⟨_, rfl, stage2Expires_spec state timer path held stage⟩, fun stage inv => ⟨_, rfl, ?_⟩⟩
  obtain ⟨stopped, ended, remains, block⟩ := stage3Expires_left (cause := cause) ⟨.inl state, held, path⟩
    (drainDue_running state stage timer path) inv.slotsDistinct
  exact ⟨stopped, ended, remains, block⟩

end Sys2Proof.Machine
end

section
/-! The checks on a COMMAND (R98 to R102), its refusal (R97), and the blocked-by set of an accepted entry (R105, R107,
R108). -/

namespace Sys2Proof.Machine

/-! ## The checks -/

theorem tagInUse_eq_true {s : State} {p : Path} {tag : Word} :
    s.tagInUse p tag = true ↔ ∃ e ∈ s.ift, e.origin = p ∧ e.tag = tag := by
  simp [State.tagInUse]

/-- Where the op and the tag pass, the length, the range and then the permission decide (R98, R100). -/
theorem checkCommand_of_tag_free {s : State} {p : Path} {c : CommandFields} {op : Op} (known : opOf c.op = some op)
    (unused : s.tagInUse p c.tag = false) :
    checkCommand s p c =
      if op ≠ .flush ∧ (c.count.toNat = 0 ∨ 1024 < c.count.toNat) then some .badLength
      else if op ≠ .flush ∧ s.reportedCapacity < c.start.toNat + c.count.toNat then some .outOfRange
      else checkPermission s p c.epoch op (op != .flush && isCommon s.owc.policy c.start.toNat c.count.toNat) := by
  have most : c.count.toNat ≤ Config.maxCommandBlocks ↔ ¬1024 < c.count.toNat := Nat.not_lt.symm
  simp [checkCommand, known, unused, most, inRange]

theorem checkPermission_fenced {s : State} {p : Path} (h : s.role p = .fenced) (epoch : Word) (op : Op) (common : Bool) :
    checkPermission s p epoch op common = some .fenced :=
  if_pos h

theorem checkPermission_stale {s : State} {p : Path} {epoch : Word} (unfenced : s.role p ≠ .fenced)
    (stale : epoch ≠ s.owc.epoch) (op : Op) (common : Bool) : checkPermission s p epoch op common = some .staleEpoch := by
  simp [checkPermission, unfenced, stale]

theorem checkPermission_flush {s : State} {p : Path} (unfenced : s.role p ≠ .fenced) (common : Bool) :
    checkPermission s p s.owc.epoch .flush common = none := by
  simp [checkPermission, unfenced]

/-- A READ is permitted where it is common or the role may read (R102). -/
theorem checkPermission_read {s : State} {p : Path} (unfenced : s.role p ≠ .fenced) (common : Bool) :
    checkPermission s p s.owc.epoch .read common =
      if common = true ∨ readPermitted s.owc.policy (s.role p) = true then none else some .notOwner := by
  simp [checkPermission, unfenced]

/-- A WRITE is permitted where it is common, and otherwise to the OWNER outside FROZEN (R102). -/
theorem checkPermission_write {s : State} {p : Path} (unfenced : s.role p ≠ .fenced) (common : Bool) :
    checkPermission s p s.owc.epoch .write common =
      if common = true ∨ (s.role p = .owner ∧ s.owc.state ≠ .frozen) then none else some .notOwner := by
  cases common
  · by_cases frozen : s.owc.state = .frozen <;> simp [checkPermission, unfenced, frozen]
  · simp [checkPermission, unfenced]

/-- Settles O27: the checks in order, and each row of the permission table. -/
theorem commandChecksInOrder : Obligations.CommandChecksInOrder := by
  refine ⟨fun s p c => ⟨fun unknown => by simp [checkCommand, unknown], fun op known => ⟨fun used => ?_, fun free => ?_⟩⟩,
    fun s p op common => ⟨fun fenced epoch => checkPermission_fenced fenced epoch op common, fun unfenced => ?_,
      fun owner => ?_, fun sharer => ?_, fun standby => ?_, fun releasing shared => ?_, fun releasing unshared => ?_, fun other => ?_⟩⟩
  · simp [checkCommand, known, tagInUse_eq_true.2 used]
  · have unused : s.tagInUse p c.tag = false := by
      rw [← Bool.not_eq_true, tagInUse_eq_true]
      rintro ⟨e, member, same⟩
      exact free e member same
    rw [checkCommand_of_tag_free known unused]
    refine ⟨fun ranged length => if_pos ⟨ranged, length⟩, fun ranged low high beyond => ?_, fun fits => ?_⟩
    · rw [if_neg (by omega), if_pos ⟨ranged, beyond⟩]
    · rcases fits with rfl | ⟨low, high, inside⟩
      · simp
      · rw [if_neg (by omega), if_neg (by omega)]
  · exact ⟨fun epoch stale => checkPermission_stale unfenced stale op common, checkPermission_flush unfenced common,
      by simp [checkPermission_read unfenced], by simp [checkPermission_write unfenced]⟩
  · have unfenced : s.role p ≠ .fenced := by simp [owner]
    exact ⟨by simp [checkPermission_read unfenced, owner, readPermitted],
      fun active => by simp [checkPermission_write unfenced, owner, active]⟩
  · rw [checkPermission_read (by simp [sharer])]
    simp [sharer, readPermitted]
  · rw [checkPermission_read (by simp [standby])]
    simp [standby, readPermitted]
  · rw [checkPermission_read (by simp [releasing])]
    simp [releasing, readPermitted, shared]
  · rw [checkPermission_read (by simp [releasing])]
    simp [releasing, readPermitted, unshared]
  · rcases other with role | role | role <;> rw [checkPermission_write (by simp [role])] <;> simp [role]

/-! ## The decision of a COMMAND head -/

theorem commandWhere_command (p : Path) {test : Byte → Byte → Bool} {tag epoch : Word} {op flags : Byte} {start : Lba}
    {count : Word} (accepts : test op flags = true) :
    commandWhere p test (.command tag epoch op flags start count) =
      some (decideCommand p { tag := tag, epoch := epoch, op := op, flags := flags, start := start, count := count }) :=
  if_pos accepts

/-- Each of the five COMMAND rows decides a command that its op and flags let it take. -/
theorem exec_commandRow {s : State} {p : Path} {tag epoch : Word} {op flags : Byte} {start : Lba} {count : Word}
    (h : TakesHead s p (.command tag epoch op flags start count)) :
    exec (commandRow p op flags) s =
      .next (decideCommand p { tag := tag, epoch := epoch, op := op, flags := flags, start := start, count := count }
        (removeHead p s)) := by
  have taken {test : Byte → Byte → Bool} (accepts : test op flags = true) := h.takeHead_eq (commandWhere_command p accepts)
  unfold commandRow
  split
  · next unknown => exact congrArg Host.Outcome.next (taken (by simp [unknown]))
  · next read => exact congrArg Host.Outcome.next (taken (by simp [read]))
  · next flush => exact congrArg Host.Outcome.next (taken (by simp [flush]))
  · next write =>
    split
    · next posted => exact congrArg Host.Outcome.next (taken (by simp [write, posted]))
    · next plain => exact congrArg Host.Outcome.next (taken (by simp [write, plain]))

theorem checkCommand_removeHead (p q : Path) (c : CommandFields) (s : State) :
    checkCommand (removeHead p s) q c = checkCommand s q c := rfl

/-- Settles O28: the decision of a command that fails a check is its answer alone. -/
theorem commandRefused : Obligations.CommandRefused := by
  intro p s tag epoch op flags start count status head failed
  rw [← checkCommand_removeHead p] at failed
  rw [exec_commandRow head, decideCommand, failed]
  rfl

/-! ## The entry at its acceptance -/

/-- The drive has been given up (R105, R174). -/
def Dpt.Gone (d : Dpt) : Prop :=
  d.state = .failed ∨ d.state = .halted ∨ d.state = .absent

theorem Dpt.not_gone {d : Dpt} (h : d.state = .ready ∨ d.state = .identifying ∨ d.state = .resetting) : ¬d.Gone := by
  rcases h with h | h | h <;> simp [Dpt.Gone, h]

theorem mem_slotsWhere {s : State} {test : Entry → Bool} {k : Nat} :
    k ∈ s.slotsWhere test ↔ ∃ y ∈ s.ift, y.slot = k ∧ test y = true := by
  simp [State.slotsWhere, and_comm, and_assoc, and_left_comm]

theorem mem_rangeBlockers {s : State} {op : Op} {start count k : Nat} :
    k ∈ rangeBlockers s op start count ↔
      ∃ y ∈ s.ift, y.slot = k ∧ y.op ≠ .flush ∧ start < y.start + y.count ∧ y.start < start + count ∧
        (op = .write ∨ y.op = .write) := by
  simp [rangeBlockers, mem_slotsWhere, overlaps, and_assoc]

theorem mem_flushBlockers {s : State} {p : Path} {k : Nat} :
    k ∈ flushBlockers s p ↔ ∃ y ∈ s.ift, y.slot = k ∧ y.origin = p ∧ y.op = .write := by
  simp [flushBlockers, mem_slotsWhere]

section
variable {s : State} {p : Path} {c : CommandFields} {op : Op} {slot : Nat}

/-- With the drive given up the entry begins in ENDING (R105). -/
theorem newEntry_gone (gone : s.dpt.Gone) :
    (newEntry s p c op slot).phase = .ending ∧ (newEntry s p c op slot).endStatus = some .driveFailed ∧
      (newEntry s p c op slot).blockedBy = [] :=
  ⟨if_pos gone, if_pos gone, if_pos gone⟩

theorem newEntry_phase (live : ¬s.dpt.Gone) :
    (newEntry s p c op slot).phase = if (newEntry s p c op slot).blockedBy = [] then .running else .blocked :=
  if_neg live

theorem newEntry_blockedBy_ranged (live : ¬s.dpt.Gone) (ranged : op ≠ .flush) :
    (newEntry s p c op slot).blockedBy = rangeBlockers s op c.start.toNat c.count.toNat := by
  cases op with
  | flush => exact absurd rfl ranged
  | read | write => exact if_neg live

theorem newEntry_blockedBy_flush (live : ¬s.dpt.Gone) : (newEntry s p c .flush slot).blockedBy = flushBlockers s p :=
  if_neg live

end

/-- Settles O30: the set is R107's for a READ or WRITE and R108's for a FLUSH, and the phase follows it. -/
theorem blockersAtAcceptance : Obligations.BlockersAtAcceptance := by
  intro s p c op slot e
  refine ⟨fun drive => ?_, newEntry_gone⟩
  have live : ¬s.dpt.Gone := Dpt.not_gone drive
  have phase : e.phase = if e.blockedBy = [] then .running else .blocked := newEntry_phase live
  refine ⟨fun ranged k => ?_, fun flush k => ?_, ?_, ?_⟩
  · rw [show e.blockedBy = _ from newEntry_blockedBy_ranged live ranged, mem_rangeBlockers]
  · subst flush
    rw [show e.blockedBy = _ from newEntry_blockedBy_flush live, mem_flushBlockers]
  · rw [phase]
    split <;> simp [*]
  · rw [phase]
    split <;> simp [*]

end Sys2Proof.Machine
end

section
/-! The acceptance of a COMMAND (R93, R103 to R106, R113): its entry in the table, what it asks for, and its answer with
the drive given up. -/

namespace Sys2Proof.Machine

/-! ## Slots, pages and grants -/

theorem entry?_of_freeEntrySlot {s : State} {k : Nat} (h : s.freeEntrySlot = some k) : s.entry? k = none := by
  refine List.find?_eq_none.2 fun e member own => ?_
  have free := List.find?_some h
  rw [Bool.not_eq_true', List.any_eq_false] at free
  exact free e member own

/-- No page is fetched for a slot that holds no entry (R137). -/
theorem isFetched_of_free {s : State} {k : Nat} (pages : PagesInv s) (free : s.entry? k = none) (offset : Nat) :
    s.isFetched k offset = false := by
  refine List.any_eq_false.2 fun r member within => ?_
  obtain ⟨_, owned⟩ := pages
  have own : r.slot = some k := by
    simp only [PageRecord.within, Bool.and_eq_true, beq_iff_eq] at within
    obtain ⟨⟨⟨own, _⟩, _⟩, _⟩ := within
    exact own
  obtain ⟨_, stands⟩ := owned r member
  simpa [free] using stands k own

/-- From `s` to `t` the entry in a slot has at most gained a grant. -/
def GrantedAt (k : Nat) (s t : State) : Prop :=
  ∀ e, s.entry? k = some e → ∃ grant, t.entry? k = some { e with readGrant := grant }

theorem GrantedAt.of_ift {k : Nat} {s t : State} (h : t.ift = s.ift := by simp) : GrantedAt k s t :=
  fun e found => ⟨e.readGrant, (entry?_congr h k).trans found⟩

theorem GrantedAt.trans {k : Nat} {s t u : State} (h : GrantedAt k s t) (l : GrantedAt k t u) : GrantedAt k s u := by
  intro e found
  obtain ⟨_, there⟩ := h e found
  obtain ⟨grant, later⟩ := l _ there
  exact ⟨grant, later⟩

theorem makeGrant_grantedAt (k : Nat) (g : GrantRequest) (s : State) : GrantedAt k s (makeGrant g s) := by
  unfold makeGrant
  split
  · exact .of_ift
  · next x _ =>
    let allocated := allocateRun g.slot g.path x.frontier (s.freePages.take g.length) s
    have granted : GrantedAt k allocated (allocated.onEntry g.slot (fun y => { y with readGrant := some g.length })) := by
      intro e found
      rw [entry?_onEntry (f := fun y => { y with readGrant := some g.length }) fun _ => rfl, found, Option.map_some]
      split
      · exact ⟨_, rfl⟩
      · exact ⟨e.readGrant, rfl⟩
    exact GrantedAt.trans (.of_ift (by simp [allocated])) (granted.trans (.of_ift (by simp [withdrawRequest, allocated])))

theorem walkFrom_grantedAt (k : Nat) (l : List GrantRequest) (full : Both Bool) (s : State) :
    GrantedAt k s (walkFrom l full s) := by
  induction l generalizing full s with
  | nil => exact .of_ift rfl
  | cons g rest ih =>
    unfold walkFrom
    split
    · exact ih full s
    · split
      · exact ih _ s
      · split
        · exact .of_ift rfl
        · exact (makeGrant_grantedAt k g s).trans (ih full _)

/-- The walk of the grant list issues nothing and counts nothing: it gives an entry a grant at most (R146). -/
theorem walkGrants_grantedAt (k : Nat) (s : State) : GrantedAt k s (walkGrants s) :=
  (GrantedAt.of_ift (placeRequests_ift s)).trans (walkFrom_grantedAt k _ _ _)

/-! ## The head removed -/

theorem removeHead_rxq (p : Path) (s : State) : ((removeHead p s).pif.get p).rxq = (s.pif.get p).rxq.tail := by
  cases p <;> exact List.drop_one

theorem removeHead_pif_other (p : Path) (s : State) : (removeHead p s).pif.get p.other = s.pif.get p.other := by
  cases p <;> rfl

theorem removeHead_hasRoom (p : Path) (s : State) : ((removeHead p s).pif.get p).hasRoom = (s.pif.get p).hasRoom := by
  cases p <;> rfl

/-! ## Acceptance -/

/-- The entry has joined the table, and a write that starts has been asked for its data (R104, R106). -/
def entryAsked (p : Path) (c : CommandFields) (op : Op) (slot : Nat) (s : State) : State :=
  if op = .write ∧ (newEntry s p c op slot).phase ≠ .ending then
    (addEntry (newEntry s p c op slot) s).offer p .adm
      (.dataRequest c.tag (BitVec.ofNat 16 (newEntry s p c op slot).count))
  else addEntry (newEntry s p c op slot) s

theorem acceptCommand_eq (p : Path) (c : CommandFields) (op : Op) (slot : Nat) (s : State) :
    acceptCommand p c op slot s = walkGrants (checkDrainEnd (reportSlot slot (entryAsked p c op slot s))) :=
  rfl

theorem decideCommand_accepted {p : Path} {c : CommandFields} {op : Op} {slot : Nat} {s : State}
    (passed : checkCommand s p c = none) (known : opOf c.op = some op) (free : s.freeEntrySlot = some slot) :
    decideCommand p c s = acceptCommand p c op slot s := by
  simp [decideCommand, passed, known, free]

section
variable {s : State} {p : Path} {c : CommandFields} {op : Op} {slot : Nat}

theorem acceptCommand_adm :
    (acceptCommand p c op slot s).adm = { s.adm with sequence := s.nextAge + 1 } := by
  have asked : (entryAsked p c op slot s).adm = { s.adm with sequence := s.nextAge + 1 } := by
    unfold entryAsked
    split <;> simp [addEntry, newEntry]
  simpa [acceptCommand_eq] using asked

theorem entryAsked_ift : (entryAsked p c op slot s).ift = s.ift ++ [newEntry s p c op slot] := by
  unfold entryAsked
  split <;> simp [addEntry]

theorem entryAsked_entry? (free : s.entry? slot = none) :
    (entryAsked p c op slot s).entry? slot = some (newEntry s p c op slot) := by
  have none : s.ift.find? (fun e => e.slot == slot) = none := free
  simp [State.entry?, entryAsked_ift, none, newEntry]

theorem entryAsked_gone (gone : s.dpt.Gone) : entryAsked p c op slot s = addEntry (newEntry s p c op slot) s :=
  if_neg fun starts => starts.2 (newEntry_gone gone).1

theorem newEntry_not_ending (live : ¬s.dpt.Gone) : (newEntry s p c op slot).phase ≠ .ending := by
  rw [newEntry_phase live]
  split <;> simp

/-- The range of the entry is the command's, and none for a FLUSH (R101, R104). -/
theorem newEntry_range :
    (newEntry s p c op slot).start = (if op = .flush then 0 else c.start.toNat) ∧
      (newEntry s p c op slot).count = (if op = .flush then 0 else c.count.toNat) ∧
      (newEntry s p c op slot).common = (op != .flush && isCommon s.owc.policy c.start.toNat c.count.toNat) := by
  cases op <;> exact ⟨rfl, rfl, rfl⟩

theorem newEntry_endStatus (live : ¬s.dpt.Gone) : (newEntry s p c op slot).endStatus = none :=
  if_neg live

/-- While the drive is not given up no report is due, and the entry stands as it was made but for a grant (R104, R146). -/
theorem acceptCommand_entry? (free : s.entry? slot = none) (live : ¬s.dpt.Gone) :
    ∃ grant, (acceptCommand p c op slot s).entry? slot = some { newEntry s p c op slot with readGrant := grant } := by
  have found : (entryAsked p c op slot s).entry? slot = some (newEntry s p c op slot) := entryAsked_entry? free
  have unreported : reportSlot slot (entryAsked p c op slot s) = entryAsked p c op slot s := by
    refine reportSlot_of_not_due fun e there => ?_
    obtain rfl := Option.some.inj (found.symm.trans there)
    exact reportDue_of_not_ending (newEntry_not_ending live)
  rw [acceptCommand_eq, unreported]
  exact (GrantedAt.trans (t := checkDrainEnd (entryAsked p c op slot s)) .of_ift (walkGrants_grantedAt slot _)) _ found

/-- What follows the report at an acceptance loses no frame (R80, R146). -/
theorem acceptCommand_advances :
    Advances (reportSlot slot (entryAsked p c op slot s)) (acceptCommand p c op slot s) :=
  Advances.trans (t := checkDrainEnd (reportSlot slot (entryAsked p c op slot s))) .of_frame (walkGrants_advances _)

/-- A write that starts is asked for its data (R106). -/
theorem acceptCommand_carries_dataRequest (live : ¬s.dpt.Gone) (up : s.linkUp p = true) :
    Carries ((acceptCommand p c .write slot s).pif.get p) (.dataRequest c.tag c.count) := by
  have blocks : (newEntry s p c .write slot).count = c.count.toNat := rfl
  have asked : Carries ((entryAsked p c .write slot s).pif.get p) (.dataRequest c.tag c.count) := by
    rw [entryAsked, if_pos ⟨rfl, newEntry_not_ending live⟩, blocks, BitVec.ofNat_toNat, BitVec.setWidth_eq]
    exact carries_offer_path _ _ up
  exact (((reportSlot_advances slot _).trans acceptCommand_advances).pif p).carries _ asked

/-- With the drive given up the report of the new entry is its final reply, DRIVE_FAILED (R105, R128). -/
theorem entryAsked_report (pages : PagesInv s) (free : s.entry? slot = none) (gone : s.dpt.Gone) :
    reportSlot slot (entryAsked p c op slot s) =
      finalReply (newEntry s p c op slot) .driveFailed (discardFetched slot (addEntry (newEntry s p c op slot) s)) := by
  obtain ⟨ending, status, _⟩ := newEntry_gone (p := p) (c := c) (op := op) (slot := slot) gone
  have unfetched : (addEntry (newEntry s p c op slot) s).isFetched slot 0 = false := isFetched_of_free pages free 0
  have due : (addEntry (newEntry s p c op slot) s).reportDue (newEntry s p c op slot) = true := by
    have undeliverable : (addEntry (newEntry s p c op slot) s).deliverable (newEntry s p c op slot) = false :=
      Bool.and_eq_false_iff.2 (.inr unfetched)
    rw [State.reportDue, undeliverable, ending]
    rfl
  have found : (addEntry (newEntry s p c op slot) s).entry? slot = some (newEntry s p c op slot) := by
    rw [← entryAsked_gone gone]
    exact entryAsked_entry? free
  rw [entryAsked_gone gone, reportSlot, found]
  dsimp only
  rw [if_pos due, makeReport, status]
  rfl

theorem newEntry_doneBlocks : (newEntry s p c op slot).doneBlocks = 0 := by
  cases op <;> rfl

theorem acceptCommand_carries_driveFailed (pages : PagesInv s) (free : s.entry? slot = none) (gone : s.dpt.Gone)
    (up : s.linkUp p = true) :
    Carries ((acceptCommand p c op slot s).pif.get p) (.reply c.tag .driveFailed 0#16 s.owc.epoch) := by
  refine (acceptCommand_advances.pif p).carries _ ?_
  have replied := finalReply_carries (e := newEntry s p c op slot) (status := .driveFailed)
    (s := discardFetched slot (addEntry (newEntry s p c op slot) s)) (State.linkUp_eq_true.1 up)
  rw [newEntry_doneBlocks] at replied
  rw [entryAsked_report pages free gone]
  exact replied

/-- Where the reply has room, the entry is removed at once, and what follows does not bring it back (R128, R129). -/
theorem acceptCommand_removed (pages : PagesInv s) (free : s.entry? slot = none) (gone : s.dpt.Gone)
    (room : (s.pif.get p).hasRoom = true) : (acceptCommand p c op slot s).entry? slot = none := by
  have dropped : (reportSlot slot (entryAsked p c op slot s)).entry? slot = none := by
    rw [entryAsked_report pages free gone,
      finalReply_of_room (e := newEntry s p c op slot)
        (s := discardFetched slot (addEntry (newEntry s p c op slot) s)) _ room]
    exact entry?_dropEntry_same slot _
  have checked (u : State) : (checkDrainEnd u).ift = u.ift := by simp
  exact (walkGrants_fed _).entry?_none ((entry?_congr (checked _) slot).trans dropped)

end

/-- Settles O29: the command is accepted from the state with its head removed, by the drive's state. -/
theorem commandAccepted : Obligations.CommandAccepted := by
  intro p s tag epoch op flags start count kind slot _ pages up head passed known freeSlot
  let c : CommandFields := { tag := tag, epoch := epoch, op := op, flags := flags, start := start, count := count }
  have free : (removeHead p s).entry? slot = none := entry?_of_freeEntrySlot freeSlot
  have accepted : decideCommand p c (removeHead p s) = acceptCommand p c kind slot (removeHead p s) :=
    decideCommand_accepted ((checkCommand_removeHead p p c s).trans passed) known freeSlot
  have linked : (removeHead p s).linkUp p = true := (linkUp_of_link (by simp)).trans up
  refine ⟨acceptCommand p c kind slot (removeHead p s), (exec_commandRow head).trans (congrArg _ accepted),
    acceptCommand_adm, ?_, ?_, by simp [SameBlock], by simp, fun drive => ⟨?_, ?_⟩, fun gone => ⟨?_, fun _ room => ?_⟩⟩
  · rw [← removeHead_rxq p s]
    simp
  · rw [← removeHead_pif_other p s]
    simp
  · have live : ¬(removeHead p s).dpt.Gone := Dpt.not_gone drive
    obtain ⟨grant, there⟩ := acceptCommand_entry? (p := p) (c := c) (op := kind) free live
    obtain ⟨first, blocks, common⟩ := newEntry_range (s := removeHead p s) (p := p) (c := c) (op := kind) (slot := slot)
    have ongoing : (newEntry (removeHead p s) p c kind slot).endStatus = none := newEntry_endStatus live
    exact ⟨_, there, rfl, rfl, rfl, rfl, first, blocks, common, rfl, rfl, rfl, rfl, rfl, rfl, rfl, rfl, rfl, rfl, rfl,
      ongoing⟩
  · rintro rfl
    exact acceptCommand_carries_dataRequest (Dpt.not_gone drive) linked
  · exact acceptCommand_carries_driveFailed pages free gone linked
  · exact acceptCommand_removed pages free gone ((removeHead_hasRoom p s).trans room)

end Sys2Proof.Machine
end

section
/-! What grants and gifts add (R121, R139, R146, R162): pages, segments, descriptors and busy slots are added, and none is
taken away. -/

namespace Sys2Proof.Machine

set_option Elab.async false

/-! ## Pages by rising number -/

theorem PageRecord.within_iff {slot offset length : Nat} {r : PageRecord} :
    r.within slot offset length = true ↔ r.slot = some slot ∧ offset ≤ r.offset ∧ r.offset < offset + length := by
  simp [PageRecord.within, and_assoc]

theorem insertPage_perm (r : PageRecord) (l : List PageRecord) : (insertPage r l).Perm (r :: l) := by
  induction l with
  | nil => exact .refl _
  | cons x rest ih =>
    unfold insertPage
    split
    · exact .refl _
    · exact (ih.cons x).trans (.swap r x rest)

/-- The records of pages granted at consecutive offsets (R146). -/
def grantedPages (slot : Nat) (p : Path) : Nat → List Nat → List PageRecord
  | _, [] => []
  | offset, n :: rest =>
    { number := n, path := p, slot := some slot, offset := offset, state := .granted } ::
      grantedPages slot p (offset + 1) rest

theorem allocateRun_pages (slot : Nat) (p : Path) (offset : Nat) (l : List Nat) (s : State) :
    (allocateRun slot p offset l s).stb.pages.Perm (grantedPages slot p offset l ++ s.stb.pages) := by
  induction l generalizing offset s with
  | nil => exact .refl _
  | cons n rest ih =>
    exact (ih (offset + 1) _).trans ((List.Perm.append_left _ (insertPage_perm _ _)).trans List.perm_middle)

theorem mem_grantedPages {slot : Nat} {p : Path} {l : List Nat} {i n : Nat} (h : l[i]? = some n) (offset : Nat) :
    { number := n, path := p, slot := some slot, offset := offset + i, state := .granted } ∈
      grantedPages slot p offset l := by
  induction l generalizing offset i with
  | nil => simp at h
  | cons m rest ih =>
    cases i with
    | zero =>
      obtain rfl : m = n := by simpa using h
      exact List.mem_cons_self ..
    | succ i =>
      have later := ih (i := i) (by simpa using h) (offset + 1)
      rw [Nat.add_assoc, Nat.add_comm 1] at later
      exact List.mem_cons_of_mem _ later

theorem countP_grantedPages (slot : Nat) (p : Path) (offset : Nat) (l : List Nat) :
    (grantedPages slot p offset l).countP (fun r => r.path == p) = l.length := by
  induction l generalizing offset with
  | nil => rfl
  | cons n rest ih => rw [grantedPages, List.countP_cons_of_pos (by simp), ih, List.length_cons]

theorem occupancy_eq_countP (s : State) (p : Path) :
    s.occupancy p = s.stb.pages.countP (fun r => r.path == p) :=
  List.countP_eq_length_filter.symm

theorem occupancy_congr {s t : State} (h : t.stb.pages = s.stb.pages) (p : Path) : t.occupancy p = s.occupancy p := by
  rw [State.occupancy, State.occupancy, h]

theorem freePages_congr {s t : State} (h : t.stb.pages = s.stb.pages) : t.freePages = s.freePages := by
  rw [State.freePages, State.freePages, h]

theorem entry?_onEntry_same {f : Entry → Entry} {k : Nat} {s : State} {e : Entry} (hf : ∀ x, (f x).slot = x.slot)
    (found : s.entry? k = some e) : (s.onEntry k f).entry? k = some (f e) := by
  rw [entry?_onEntry hf, found, Option.map_some, if_pos (mem_of_entry? found).2]

/-! ## What is added -/

/-- From `e` to `x` nothing that an entry has at the drive is taken off, and its counts of it do not fall. -/
structure Entry.Gains (e x : Entry) : Prop where
  outstanding : e.outstanding ⊆ x.outstanding
  issued : e.issued ≤ x.issued
  frontier : e.frontier ≤ x.frontier

theorem Entry.Gains.refl (e : Entry) : e.Gains e :=
  ⟨List.Subset.refl _, le_rfl, le_rfl⟩

theorem Entry.Gains.trans {e x y : Entry} (h : e.Gains x) (k : x.Gains y) : e.Gains y :=
  ⟨List.Subset.trans h.outstanding k.outstanding, h.issued.trans k.issued, h.frontier.trans k.frontier⟩

theorem Entry.Gains.issueInto (driveSlot : Nat) (run : Run) (e : Entry) : e.Gains (e.issueInto driveSlot run) := by
  unfold Entry.issueInto
  cases e.op with
  | flush => exact ⟨List.subset_append_left _ _, le_rfl, le_rfl⟩
  | read | write =>
    cases e.returned with
    | nil => exact ⟨List.subset_append_left _ _, Nat.le_add_right _ _, Nat.le_add_right _ _⟩
    | cons _ _ => exact ⟨List.subset_append_left _ _, Nat.le_add_right _ _, le_rfl⟩

/-- From `s` to `t` pages, segments, busy slots and descriptors are only added: a page keeps its record but for going
AT_DRIVE, which happens in READY alone (R138, R147). -/
structure Supplies (s t : State) : Prop where
  drive : t.dpt.state = s.dpt.state
  pages : ∀ r ∈ s.stb.pages, r ∈ t.stb.pages ∨ (s.dpt.state = .ready ∧ { r with state := .atDrive } ∈ t.stb.pages)
  occupancy : ∀ p, s.occupancy p ≤ t.occupancy p
  busy : s.dpt.busy <+: t.dpt.busy
  requests : s.dpt.requests <+: t.dpt.requests
  entries : ∀ k e, s.entry? k = some e → ∃ x, t.entry? k = some x ∧ e.Gains x

theorem Supplies.refl (s : State) : Supplies s s :=
  ⟨rfl, fun _ => .inl, fun _ => le_rfl, List.prefix_rfl, List.prefix_rfl, fun _ e found => ⟨e, found, .refl e⟩⟩

theorem Supplies.trans {s t u : State} (h : Supplies s t) (k : Supplies t u) : Supplies s u where
  drive := k.drive.trans h.drive
  pages r hr := by
    rcases h.pages r hr with there | ⟨ready, there⟩
    · exact (k.pages r there).imp id fun ⟨ready, later⟩ => ⟨h.drive.symm.trans ready, later⟩
    · exact .inr ⟨ready, (k.pages _ there).elim id And.right⟩
  occupancy p := (h.occupancy p).trans (k.occupancy p)
  busy := h.busy.trans k.busy
  requests := h.requests.trans k.requests
  entries slot e found := by
    obtain ⟨x, there, gains⟩ := h.entries slot e found
    obtain ⟨y, later, again⟩ := k.entries slot x there
    exact ⟨y, later, gains.trans again⟩

/-- A page AT_DRIVE stays as it is. -/
theorem Supplies.atDrive {s t : State} (h : Supplies s t) {r : PageRecord} (hr : r ∈ s.stb.pages)
    (atDrive : r.state = .atDrive) : r ∈ t.stb.pages := by
  rcases h.pages r hr with there | ⟨_, there⟩
  · exact there
  · cases r
    subst atDrive
    exact there

theorem Supplies.of_frame {s t : State} (ift : t.ift = s.ift := by simp) (pages : t.stb.pages = s.stb.pages := by simp)
    (dpt : t.dpt = s.dpt := by simp) : Supplies s t where
  drive := by rw [dpt]
  pages r hr := .inl (pages ▸ hr)
  occupancy p := (occupancy_congr pages p).ge
  busy := by rw [dpt]
  requests := by rw [dpt]
  entries k e found := ⟨e, (entry?_congr ift k).trans found, .refl e⟩

/-! ## A grant -/

section
variable {g : GrantRequest} {s : State} {e : Entry}

theorem testHold_entry? (p : Path) (s : State) (k : Nat) : (testHold p s).entry? k = s.entry? k :=
  entry?_congr (by simp) k

theorem makeGrant_eq (found : s.entry? g.slot = some e) :
    makeGrant g s = testHold g.path (withdrawRequest g.slot
      ((allocateRun g.slot g.path e.frontier (s.freePages.take g.length) s).onEntry g.slot
        (fun x => { x with readGrant := some g.length }))) := by
  rw [makeGrant, found]

theorem makeGrant_pages (found : s.entry? g.slot = some e) :
    (makeGrant g s).stb.pages.Perm
      (grantedPages g.slot g.path e.frontier (s.freePages.take g.length) ++ s.stb.pages) := by
  rw [makeGrant_eq found]
  simpa [withdrawRequest] using allocateRun_pages g.slot g.path e.frontier (s.freePages.take g.length) s

theorem makeGrant_occupancy (found : s.entry? g.slot = some e) (p : Path) :
    (makeGrant g s).occupancy p =
      (grantedPages g.slot g.path e.frontier (s.freePages.take g.length)).countP (fun r => r.path == p) +
        s.occupancy p := by
  rw [occupancy_eq_countP, occupancy_eq_countP, (makeGrant_pages found).countP_eq, List.countP_append]

/-- The entry holds the grant (R146). -/
theorem makeGrant_entry? (found : s.entry? g.slot = some e) :
    (makeGrant g s).entry? g.slot = some { e with readGrant := some g.length } := by
  have there : (allocateRun g.slot g.path e.frontier (s.freePages.take g.length) s).entry? g.slot = some e :=
    (entry?_congr (by simp) _).trans found
  rw [makeGrant_eq found, testHold_entry?]
  exact entry?_onEntry_same (f := fun x => { x with readGrant := some g.length }) (fun _ => rfl) there

end

theorem makeGrant_grants (g : GrantRequest) (s : State) :
    (makeGrant g s).stb.grants = s.stb.grants.filter (fun x => !(x.slot == g.slot)) := by
  unfold makeGrant
  split <;> simp [withdrawRequest]

theorem makeGrant_supplies (g : GrantRequest) (s : State) : Supplies s (makeGrant g s) := by
  cases found : s.entry? g.slot with
  | none =>
    rw [makeGrant, found]
    exact .of_frame rfl rfl rfl
  | some e =>
    have unchanged : (makeGrant g s).dpt = s.dpt := by simp
    refine ⟨by rw [unchanged], fun r hr => .inl ?_, fun p => ?_, by rw [unchanged], by rw [unchanged], fun k x there => ?_⟩
    · exact (makeGrant_pages found).mem_iff.2 (List.mem_append_right _ hr)
    · exact (Nat.le_add_left _ _).trans (makeGrant_occupancy found p).ge
    · obtain ⟨grant, later⟩ := makeGrant_grantedAt k g s x there
      exact ⟨_, later, List.Subset.refl _, le_rfl, le_rfl⟩

theorem walkFrom_supplies (l : List GrantRequest) (full : Both Bool) (s : State) : Supplies s (walkFrom l full s) := by
  induction l generalizing full s with
  | nil => exact .refl s
  | cons g rest ih =>
    unfold walkFrom
    split
    · exact ih full s
    · split
      · exact ih _ s
      · split
        · exact .refl s
        · exact (makeGrant_supplies g s).trans (ih full _)

theorem walkGrants_supplies (s : State) : Supplies s (walkGrants s) :=
  Supplies.trans (.of_frame (placeRequests_ift s)) (walkFrom_supplies _ _ _)

/-! ## A gift of the slot arbiter -/

theorem arbiterGift_eq_some_iff {s t : State} :
    arbiterGift s = some t ↔ s.dpt.state = .ready ∧ ∃ k e run, s.freePathSlot = some k ∧ s.oldestIssuable = some e ∧
      e.issuable = some run ∧ t = walkGrants (issueSegment k e run s) := by
  unfold arbiterGift
  constructor
  · intro gift
    split at gift
    · next ready =>
      split at gift
      · next k e free oldest =>
        split at gift
        · next run due =>
          cases gift
          exact ⟨ready, k, e, run, free, oldest, due, rfl⟩
        · cases gift
      · cases gift
    · cases gift
  · rintro ⟨ready, k, e, run, free, oldest, due, rfl⟩
    simp [ready, free, oldest, due]

theorem issueSegment_pages (k : Nat) (e : Entry) (run : Run) (s : State) :
    (issueSegment k e run s).stb.pages = s.stb.pages.map (fun r =>
      if r.within e.slot run.offset run.length then { r with state := .atDrive } else r) :=
  rfl

theorem issueSegment_busy (k : Nat) (e : Entry) (run : Run) (s : State) :
    (issueSegment k e run s).dpt.busy =
      s.dpt.busy ++ [{ slot := k, holder := .segment e.slot run.offset run.length e.op, timer := s.driveTimeout }] :=
  rfl

theorem issueSegment_requests (k : Nat) (e : Entry) (run : Run) (s : State) :
    (issueSegment k e run s).dpt.requests = s.dpt.requests ++ [segmentDescriptor k e run s] :=
  rfl

theorem issueSegment_entry? (d : Nat) (e : Entry) (run : Run) (k : Nat) (s : State) :
    (issueSegment d e run s).entry? k =
      (s.entry? k).map (fun x => if x.slot = e.slot then x.issueInto d run else x) :=
  entry?_onEntry (f := fun x => x.issueInto d run) (fun x => by simp) e.slot k _

theorem issueSegment_supplies {k : Nat} {e : Entry} {run : Run} {s : State} (ready : s.dpt.state = .ready) :
    Supplies s (issueSegment k e run s) where
  drive := rfl
  pages r hr := by
    rw [issueSegment_pages]
    by_cases within : r.within e.slot run.offset run.length
    · exact .inr ⟨ready, List.mem_map.2 ⟨r, hr, if_pos within⟩⟩
    · exact .inl (List.mem_map.2 ⟨r, hr, if_neg within⟩)
  occupancy p := by
    rw [occupancy_eq_countP, occupancy_eq_countP, issueSegment_pages, List.countP_map]
    refine (List.countP_congr fun r _ => ?_).le
    rw [Function.comp_apply]
    split <;> rfl
  busy := issueSegment_busy .. ▸ List.prefix_append _ _
  requests := issueSegment_requests .. ▸ List.prefix_append _ _
  entries slot x found := by
    rw [issueSegment_entry?, found, Option.map_some]
    split
    · exact ⟨_, rfl, .issueInto _ _ x⟩
    · exact ⟨x, rfl, .refl x⟩

theorem arbiterGift_supplies {s t : State} (gift : arbiterGift s = some t) : Supplies s t := by
  obtain ⟨ready, k, e, run, _, _, _, rfl⟩ := arbiterGift_eq_some_iff.1 gift
  exact (issueSegment_supplies ready).trans (walkGrants_supplies _)

theorem arbiterRuns_supplies (n : Nat) (s : State) : Supplies s (arbiterRuns n s) := by
  induction n generalizing s with
  | zero => exact .refl s
  | succ n ih =>
    unfold arbiterRuns
    split
    · next t gift => exact (arbiterGift_supplies gift).trans (ih t)
    · exact .refl s

theorem runArbiter_of_no_gift {s : State} (none : arbiterGift s = .none) : runArbiter s = s := by
  unfold runArbiter
  cases s.dpt.slotCount with
  | zero => rfl
  | succ n => rw [arbiterRuns, none]

end Sys2Proof.Machine
end

section
/-! The issue of segments (R118 to R121, R155, R162, R163): the lowest free path slot takes the segment that the oldest
entry has due, and nothing that follows in the run of the arbiter undoes it. -/

namespace Sys2Proof.Machine

set_option Elab.async false

/-! ## The segment due -/

/-- What an entry may issue is the segment it has due (R118 to R120). -/
theorem segmentDue_iff {e : Entry} {run : Run} : SegmentDue e run ↔ e.issuable = some run := by
  unfold SegmentDue Entry.issuable
  by_cases running : e.phase = .running
  · rw [if_pos running]
    cases e.op with
    | flush =>
      by_cases idle : e.outstanding = []
      · simpa [running, idle] using eq_comm
      · simp [idle]
    | read =>
      cases e.returned with
      | cons r rest => simp [running]
      | nil =>
        obtain ⟨offset, length⟩ := run
        cases e.readGrant <;> simp [running, and_comm, eq_comm]
    | write =>
      cases e.returned with
      | cons r rest => simp [running]
      | nil =>
        have length : e.newLength = min 16 (e.count - e.frontier) := rfl
        obtain ⟨offset, n⟩ := run
        simp only [running, length, List.head?_nil, true_and, reduceCtorEq, false_or]
        split
        · next due =>
          obtain ⟨inRange, staged⟩ := due
          simp only [inRange, true_and, Option.some.injEq, Run.mk.injEq]
          constructor
          · rintro ⟨⟨rfl, rfl⟩, _⟩
            exact ⟨rfl, rfl⟩
          · rintro ⟨rfl, rfl⟩
            exact ⟨⟨rfl, rfl⟩, staged⟩
        · next due =>
          simp only [reduceCtorEq, iff_false]
          rintro ⟨inRange, same, staged⟩
          obtain ⟨rfl, rfl⟩ := Run.mk.inj same
          exact due ⟨inRange, staged⟩
  · simp [running]

/-- The segment due starts at the lowest of the returned ranges, where they stand in offset order (R115, R118). -/
theorem SegmentDue.offset_le {e : Entry} {run : Run} (due : SegmentDue e run) (ordered : RangesOrdered e) {r : Run}
    (hr : r ∈ e.returned) : run.offset ≤ r.offset := by
  have first {rest : List Run} (list : e.returned = run :: rest) : run.offset ≤ r.offset := by
    rw [RangesOrdered, list, List.pairwise_cons] at ordered
    rw [list] at hr
    rcases List.mem_cons.1 hr with rfl | later
    · exact le_rfl
    · exact ordered.1 r later
  obtain ⟨_, due⟩ := due
  split at due
  · obtain ⟨_, rfl⟩ := due
    exact Nat.zero_le _
  all_goals
    rcases due with head | ⟨none, _⟩
    · obtain ⟨rest, list⟩ := List.head?_eq_some_iff.1 head
      exact first list
    · simp [none] at hr

/-! ## The slot and the entry that the arbiter takes -/

theorem freePathSlot_eq_some {s : State} {k : Nat} (inRange : k + 1 < s.dpt.slotCount) (free : s.slotBusy k = false)
    (lowest : ∀ j, j < k → s.slotBusy j = true) : s.freePathSlot = some k := by
  refine (List.find?_range_eq_some).2 ⟨by simp [free], List.mem_range.2 (by omega), fun j hj => ?_⟩
  simp [lowest j hj]

theorem freePathSlot_eq_none {s : State} (busy : ∀ k, k + 1 < s.dpt.slotCount → s.slotBusy k = true) :
    s.freePathSlot = none := by
  refine List.find?_eq_none.2 fun k hk => ?_
  have inRange := List.mem_range.1 hk
  simp [busy k (by omega)]

/-- The first entry of a table in order of age that a test accepts is the one of smallest age. -/
theorem find?_eq_some_of_age {l : List Entry} (ages : l.Pairwise (fun x y => x.age < y.age)) {test : Entry → Bool}
    {e : Entry} (he : e ∈ l) (accepted : test e = true) (oldest : ∀ x ∈ l, x.age < e.age → test x = false) :
    l.find? test = some e := by
  induction l with
  | nil => cases he
  | cons x rest ih =>
    obtain ⟨younger, ages⟩ := List.pairwise_cons.1 ages
    rcases List.mem_cons.1 he with rfl | later
    · exact List.find?_cons_of_pos accepted
    · rw [List.find?_cons_of_neg (by simp [oldest x (List.mem_cons_self ..) (younger e later)])]
      exact ih ages later fun y hy => oldest y (List.mem_cons_of_mem x hy)

theorem oldestIssuable_eq_some {s : State} {e : Entry} {run : Run} (table : TableInv s) (he : e ∈ s.ift)
    (due : SegmentDue e run) (oldest : ∀ x ∈ s.ift, x.age < e.age → ∀ r, ¬SegmentDue x r) :
    s.oldestIssuable = some e := by
  obtain ⟨ages, _⟩ := table
  refine find?_eq_some_of_age ages he (by simp [segmentDue_iff.1 due]) fun x hx younger => ?_
  cases issuable : x.issuable with
  | none => rfl
  | some r => exact absurd (segmentDue_iff.2 issuable) (oldest x hx younger r)

/-- Nothing is given with the drive not READY, no path slot free or nothing due (R162). -/
theorem arbiterGift_eq_none {s : State} (none : s.dpt.state ≠ .ready ∨
    (∀ k, k + 1 < s.dpt.slotCount → s.slotBusy k = true) ∨ ∀ e ∈ s.ift, ∀ run, ¬SegmentDue e run) :
    arbiterGift s = .none := by
  refine Option.eq_none_iff_forall_ne_some.2 fun t gift => ?_
  obtain ⟨ready, k, e, run, free, oldest, issuable, _⟩ := arbiterGift_eq_some_iff.1 gift
  rcases none with other | busy | nothing
  · exact other ready
  · rw [freePathSlot_eq_none busy] at free
    cases free
  · exact nothing e (List.mem_of_find?_eq_some oldest) run (segmentDue_iff.2 issuable)

/-! ## The pages of a run -/

theorem pageAt_eq_some {s : State} {slot offset : Nat} {r : PageRecord} (h : s.pageAt slot offset = some r) :
    r ∈ s.stb.pages ∧ r.slot = some slot ∧ r.offset = offset := by
  obtain ⟨own, low, high⟩ := PageRecord.within_iff.1 (List.find?_some h)
  exact ⟨List.mem_of_find?_eq_some h, own, by omega⟩

theorem exists_pageAt {s : State} {slot offset : Nat} {r : PageRecord} (hr : r ∈ s.stb.pages) (own : r.slot = some slot)
    (here : r.offset = offset) : ∃ r', s.pageAt slot offset = some r' := by
  refine Option.isSome_iff_exists.1 (List.find?_isSome.2 ⟨r, hr, ?_⟩)
  exact PageRecord.within_iff.2 ⟨own, here.ge, by omega⟩

/-- The descriptor names the page of each offset of the run, in order (R155). -/
theorem pagesOfRun_spec {s : State} {slot offset n : Nat}
    (held : ∀ i, i < n → ∃ r ∈ s.stb.pages, r.slot = some slot ∧ r.offset = offset + i) :
    (s.pagesOfRun slot offset n).length = n ∧ ∀ i m, (s.pagesOfRun slot offset n)[i]? = some m →
      i < n ∧ ∃ r ∈ s.stb.pages, r.number = m ∧ r.slot = some slot ∧ r.offset = offset + i := by
  induction n generalizing offset with
  | zero => exact ⟨rfl, fun i m h => by simp [State.pagesOfRun] at h⟩
  | succ n ih =>
    obtain ⟨r, hr, own, here⟩ := held 0 (Nat.succ_pos n)
    obtain ⟨r, found⟩ := exists_pageAt hr own here
    obtain ⟨length, named⟩ := ih (offset := offset + 1) fun i hi => by
      obtain ⟨x, hx, ownX, there⟩ := held (i + 1) (Nat.succ_lt_succ hi)
      exact ⟨x, hx, ownX, by omega⟩
    have list : s.pagesOfRun slot offset (n + 1) = r.number :: s.pagesOfRun slot (offset + 1) n := by
      rw [State.pagesOfRun]
      rw [Nat.add_zero] at found
      rw [found]
    rw [list]
    refine ⟨by rw [List.length_cons, length], fun i m h => ?_⟩
    cases i with
    | zero =>
      obtain ⟨member, ownR, offsetR⟩ := pageAt_eq_some found
      exact ⟨Nat.succ_pos n, r, member, by simpa using h, ownR, offsetR⟩
    | succ i =>
      obtain ⟨inRun, x, hx, number, ownX, there⟩ := named i m (by simpa using h)
      exact ⟨Nat.succ_lt_succ inRun, x, hx, number, ownX, by omega⟩

/-! ## The row -/

/-- What the entry counts of the segment it issues (R117, R121). -/
theorem Entry.issueInto_counts (driveSlot : Nat) (run : Run) (e : Entry) :
    { driveSlot := driveSlot, offset := run.offset, length := run.length } ∈ (e.issueInto driveSlot run).outstanding ∧
      (e.op ≠ .flush → (e.issueInto driveSlot run).issued = e.issued + run.length) ∧
      (e.op ≠ .flush → e.returned = [] → (e.issueInto driveSlot run).frontier = e.frontier + run.length) := by
  unfold Entry.issueInto
  cases e.op with
  | flush => simp
  | read | write => cases e.returned <;> simp

/-- With a path slot free and a segment due, the arbiter's first gift is that segment, and its further runs only add. -/
theorem runArbiter_gives {s : State} {k : Nat} {e : Entry} {run : Run} (ready : s.dpt.state = .ready)
    (inRange : k + 1 < s.dpt.slotCount) (free : s.freePathSlot = some k) (oldest : s.oldestIssuable = some e)
    (due : e.issuable = some run) : Supplies (issueSegment k e run s) (runArbiter s) := by
  have gift := arbiterGift_eq_some_iff.2 ⟨ready, k, e, run, free, oldest, due, rfl⟩
  obtain ⟨n, count⟩ : ∃ n, s.dpt.slotCount = n + 1 := ⟨s.dpt.slotCount - 1, by omega⟩
  rw [runArbiter, count, arbiterRuns, gift]
  exact (walkGrants_supplies _).trans (arbiterRuns_supplies n _)

/-- Settles O47: the first gift of the arbiter's run is the oldest entry's segment, and later gifts take nothing of it
away. -/
theorem oldestSegmentIssued : Obligations.OldestSegmentIssued := by
  intro s table
  refine ⟨fun k e run ready inRange free lowest he due oldest held => ⟨fun ordered r => due.offset_le ordered, ?_⟩,
    fun none => congrArg _ (runArbiter_of_no_gift (arbiterGift_eq_none none))⟩
  have gives := runArbiter_gives ready inRange (freePathSlot_eq_some inRange free lowest)
    (oldestIssuable_eq_some table he due oldest) (segmentDue_iff.1 due)
  obtain ⟨length, named⟩ := pagesOfRun_spec held
  refine ⟨runArbiter s, s.pagesOfRun e.slot run.offset run.length, rfl, length, fun i n page => ?_, ?_, ?_, ?_, by simp⟩
  · obtain ⟨inRun, r, hr, number, own, there⟩ := named i n page
    refine ⟨⟨r, hr, number, own, there⟩, { r with state := .atDrive }, ?_, number, own, there, rfl⟩
    refine gives.atDrive ?_ rfl
    rw [issueSegment_pages]
    exact List.mem_map.2 ⟨r, hr, if_pos (PageRecord.within_iff.2 ⟨own, by omega, by omega⟩)⟩
  · have requests := gives.requests
    rw [issueSegment_requests, segmentDescriptor] at requests
    cases op : e.op <;> rw [op] at requests <;> exact requests
  · exact gives.busy
  · have issued : (issueSegment k e run s).entry? e.slot = some (e.issueInto k run) := by
      rw [issueSegment_entry?, entry?_of_mem table.slotsDistinct he, Option.map_some, if_pos rfl]
    obtain ⟨outstanding, count, frontier⟩ := e.issueInto_counts k run
    obtain ⟨x, there, gains⟩ := gives.entries e.slot _ issued
    exact ⟨x, there, gains.outstanding outstanding, fun ranged => (count ranged).symm.le.trans gains.issued,
      fun ranged fresh => (frontier ranged fresh).symm.le.trans gains.frontier⟩

end Sys2Proof.Machine
end

section
/-! Read page grants (R119, R139, R145, R146): the requests placed, the oldest request granted, and the grant held until the
segment it is for is at the drive. -/

namespace Sys2Proof.Machine

set_option Elab.async false

/-! ## The requests placed -/

theorem asksGrant_iff {e : Entry} : e.asksGrant = true ↔ AsksPages e := by
  simp [Entry.asksGrant, AsksPages, and_assoc]

/-- The request of a read (R145). -/
def Entry.request (e : Entry) : GrantRequest :=
  { slot := e.slot, path := e.origin, age := e.age, length := e.newLength }

theorem placeRequest_of_not_due {e : Entry} {s : State} (h : AsksPages e → ∃ g ∈ s.stb.grants, g.slot = e.slot) :
    placeRequest e s = s := by
  refine if_neg fun due => ?_
  simp only [Bool.and_eq_true, Bool.not_eq_true', asksGrant_iff, List.any_eq_false, beq_iff_eq] at due
  obtain ⟨asks, none⟩ := due
  obtain ⟨g, hg, own⟩ := h asks
  exact none g hg own

/-- Where every read that asks has its request in the list, none is placed (R145). -/
theorem placeRequests_of_all_placed {s : State} (h : ∀ x ∈ s.ift, AsksPages x → ∃ g ∈ s.stb.grants, g.slot = x.slot) :
    placeRequests s = s := by
  unfold placeRequests
  revert h
  generalize s.ift = l
  intro h
  induction l with
  | nil => rfl
  | cons e rest ih =>
    rw [List.foldl_cons, placeRequest_of_not_due (h e (List.mem_cons_self ..))]
    exact ih fun x hx => h x (List.mem_cons_of_mem e hx)

theorem insertRequest_youngest {g : GrantRequest} {l : List GrantRequest} (youngest : ∀ x ∈ l, x.age < g.age) :
    insertRequest g l = l ++ [g] := by
  induction l with
  | nil => rfl
  | cons x rest ih =>
    rw [insertRequest, if_neg (Nat.not_lt_of_lt (youngest x (List.mem_cons_self ..))),
      ih fun y hy => youngest y (List.mem_cons_of_mem x hy)]
    rfl

theorem placeRequest_youngest {e : Entry} {s : State} (youngest : ∀ x ∈ s.stb.grants, x.age < e.age ∧ x.slot ≠ e.slot) :
    (placeRequest e s).stb.grants = s.stb.grants ++ ([e].filter Entry.asksGrant).map Entry.request := by
  unfold placeRequest
  by_cases asks : e.asksGrant = true
  · have none : s.stb.grants.any (fun g => g.slot == e.slot) = false :=
      List.any_eq_false.2 fun x hx => by simpa using (youngest x hx).2
    rw [if_pos (by simp [asks, none])]
    have last := insertRequest_youngest (g := e.request) fun x hx => (youngest x hx).1
    rw [List.filter_cons_of_pos asks]
    exact last
  · rw [if_neg (by simp [asks])]
    simp [asks]

/-- Into an empty list the requests come by rising age, as the entries stand in the table (R145). -/
theorem placeRequests_of_empty {s : State} (table : TableInv s) (empty : s.stb.grants = []) :
    (placeRequests s).stb.grants = (s.ift.filter Entry.asksGrant).map Entry.request := by
  have placed (l : List Entry) (order : l.Pairwise (fun x y => x.age < y.age ∧ x.slot ≠ y.slot)) (t : State)
      (older : ∀ g ∈ t.stb.grants, ∀ e ∈ l, g.age < e.age ∧ g.slot ≠ e.slot) :
      (l.foldl (fun u e => placeRequest e u) t).stb.grants =
        t.stb.grants ++ (l.filter Entry.asksGrant).map Entry.request := by
    induction l generalizing t with
    | nil => simp
    | cons e rest ih =>
      obtain ⟨younger, order⟩ := List.pairwise_cons.1 order
      have first := placeRequest_youngest (s := t) fun g hg => older g hg e (List.mem_cons_self ..)
      rw [List.foldl_cons, ih order (placeRequest e t) fun g hg x hx => ?_, first, List.append_assoc, ← List.map_append,
        ← List.filter_append, List.singleton_append]
      rw [first] at hg
      rcases List.mem_append.1 hg with hg | hg
      · exact older g hg x (List.mem_cons_of_mem e hx)
      · obtain ⟨y, hy, rfl⟩ := List.mem_map.1 hg
        obtain rfl := List.mem_singleton.1 (List.mem_filter.1 hy).1
        exact younger x hx
  obtain ⟨ages, slots, _⟩ := table
  have all := placed s.ift (ages.and slots) s (by simp [empty])
  rwa [empty, List.nil_append] at all

/-- The list after the placing: the oldest request of the statement stands first, and no other is for its slot. -/
theorem placeRequests_oldest {s : State} {g : GrantRequest} {e : Entry} (table : TableInv s)
    (found : s.entry? g.slot = some e)
    (oldest : (∃ rest, s.stb.grants = g :: rest ∧ (∀ x ∈ rest, x.slot ≠ g.slot) ∧
        ∀ x ∈ s.ift, AsksPages x → ∃ h ∈ s.stb.grants, h.slot = x.slot) ∨
      (s.stb.grants = [] ∧ AsksPages e ∧ (∀ x ∈ s.ift, AsksPages x → e.age ≤ x.age) ∧ g = e.request)) :
    ∃ rest, (placeRequests s).stb.grants = g :: rest ∧ ∀ x ∈ rest, x.slot ≠ g.slot := by
  rcases oldest with ⟨rest, list, others, all⟩ | ⟨empty, asks, least, rfl⟩
  · exact ⟨rest, by rw [placeRequests_of_all_placed all, list], others⟩
  · rw [placeRequests_of_empty table empty]
    obtain ⟨ages, slots, _⟩ := table
    have order := (ages.and slots).filter Entry.asksGrant
    have member : e ∈ s.ift.filter Entry.asksGrant :=
      List.mem_filter.2 ⟨(mem_of_entry? found).1, asksGrant_iff.2 asks⟩
    have asking (x : Entry) (hx : x ∈ s.ift.filter Entry.asksGrant) : e.age ≤ x.age := by
      obtain ⟨stands, asksX⟩ := List.mem_filter.1 hx
      exact least x stands (asksGrant_iff.1 asksX)
    cases list : s.ift.filter Entry.asksGrant with
    | nil => simp [list] at member
    | cons y rest =>
      rw [list] at order member asking
      obtain ⟨younger, _⟩ := List.pairwise_cons.1 order
      rcases List.mem_cons.1 member with rfl | later
      · refine ⟨rest.map Entry.request, rfl, fun x hx => ?_⟩
        obtain ⟨z, hz, rfl⟩ := List.mem_map.1 hx
        exact (younger z hz).2.symm
      · exact absurd (younger e later).1 (Nat.not_lt_of_le (asking y (List.mem_cons_self ..)))

/-! ## The walk -/

/-- The first request of the list is granted where its quota and the free pages allow it (R146). -/
theorem walkFrom_grants {g : GrantRequest} {rest : List GrantRequest} {full : Both Bool} {s : State}
    (first : full.get g.path = false) (quota : s.occupancy g.path + g.length ≤ quotaOf s.owc.policy g.path)
    (free : g.length ≤ s.freePages.length) : walkFrom (g :: rest) full s = walkFrom rest full (makeGrant g s) := by
  rw [walkFrom, if_neg (by simp [first]), if_neg (Nat.not_lt_of_le quota), if_neg (Nat.not_lt_of_le free)]

/-! ## The grant held -/

/-- The read in a slot holds a grant for the blocks at its frontier, and no request is left for it. -/
def GrantHeld (k offset length : Nat) (s : State) : Prop :=
  ∃ x, s.entry? k = some x ∧ x.op = .read ∧ x.readGrant = some length ∧ x.frontier = offset ∧
    ∀ g ∈ s.stb.grants, g.slot ≠ k

/-- The segment that a grant was for is at the drive. -/
def GrantIssued (k offset length : Nat) (s : State) : Prop :=
  s.dpt.state = .ready ∧
    ∃ x, s.entry? k = some x ∧ ∃ d, { driveSlot := d, offset := offset, length := length } ∈ x.outstanding

section
variable {k offset length : Nat} {s t : State}

theorem GrantIssued.supplied (h : GrantIssued k offset length s) (supplies : Supplies s t) :
    GrantIssued k offset length t := by
  obtain ⟨ready, x, found, d, out⟩ := h
  obtain ⟨y, there, gains⟩ := supplies.entries k x found
  exact ⟨supplies.drive.trans ready, y, there, d, gains.outstanding out⟩

theorem GrantHeld.walkFrom (h : GrantHeld k offset length s) {l : List GrantRequest} (others : ∀ g ∈ l, g.slot ≠ k)
    (full : Both Bool) : GrantHeld k offset length (walkFrom l full s) := by
  induction l generalizing full s with
  | nil => exact h
  | cons g rest ih =>
    have later : ∀ x ∈ rest, x.slot ≠ k := fun x hx => others x (List.mem_cons_of_mem g hx)
    have other : k ≠ g.slot := (others g (List.mem_cons_self ..)).symm
    unfold Machine.walkFrom
    split
    · exact ih h later full
    · split
      · exact ih h later _
      · split
        · exact h
        · refine ih ?_ later full
          obtain ⟨x, found, op, grant, frontier, none⟩ := h
          refine ⟨x, ?_, op, grant, frontier, fun y hy => ?_⟩
          · cases there : s.entry? g.slot with
            | none => rwa [makeGrant, there]
            | some e =>
              let allocated := allocateRun g.slot g.path e.frontier (s.freePages.take g.length) s
              have apart : (allocated.onEntry g.slot (fun y => { y with readGrant := some g.length })).entry? k =
                  allocated.entry? k := entry?_onEntry_ne _ (fun _ => rfl) other
              rw [makeGrant_eq there, testHold_entry?]
              exact apart.trans ((entry?_congr (by simp [allocated]) k).trans found)
          · rw [makeGrant_grants] at hy
            exact none y (List.mem_filter.1 hy).1

/-- A read that holds a grant asks for none (R145). -/
theorem GrantHeld.placeRequests (h : GrantHeld k offset length s) (distinct : SlotsDistinct s) :
    GrantHeld k offset length (placeRequests s) := by
  obtain ⟨x, found, op, grant, frontier, none⟩ := h
  refine ⟨x, (entry?_congr (placeRequests_ift s) k).trans found, op, grant, frontier, ?_⟩
  have placed (l : List Entry) (t : State) (held : ∀ e ∈ l, e.slot = k → e.readGrant = some length)
      (none : ∀ g ∈ t.stb.grants, g.slot ≠ k) :
      ∀ g ∈ (l.foldl (fun u e => placeRequest e u) t).stb.grants, g.slot ≠ k := by
    induction l generalizing t with
    | nil => exact none
    | cons e rest ih =>
      refine ih (placeRequest e t) (fun y hy => held y (List.mem_cons_of_mem e hy)) fun g hg => ?_
      unfold placeRequest at hg
      split at hg
      · next due =>
        rcases mem_insertRequest hg with rfl | hg
        · rintro rfl
          obtain ⟨asks, _⟩ := Bool.and_eq_true_iff.1 due
          obtain ⟨_, _, _, _, ungranted⟩ := asksGrant_iff.1 asks
          simp [held e (List.mem_cons_self ..) rfl] at ungranted
        · exact none g hg
      · exact none g hg
  refine placed s.ift s (fun e he own => ?_) none
  have same := entry?_of_mem distinct he
  rw [own, found] at same
  cases same
  exact grant

theorem GrantHeld.walkGrants (h : GrantHeld k offset length s) (distinct : SlotsDistinct s) :
    GrantHeld k offset length (walkGrants s) := by
  have placed := h.placeRequests distinct
  have others : ∀ g ∈ (Machine.placeRequests s).stb.grants, g.slot ≠ k := by
    obtain ⟨_, _, _, _, _, none⟩ := placed
    exact none
  exact placed.walkFrom others _

/-- A gift leaves the grant held, or it issues the segment that the grant is for (R118, R119). -/
theorem GrantHeld.arbiterGift (h : GrantHeld k offset length s) (distinct : SlotsDistinct s)
    (gift : arbiterGift s = some t) : GrantHeld k offset length t ∨ GrantIssued k offset length t := by
  obtain ⟨ready, d, e, run, _, oldest, issuable, rfl⟩ := arbiterGift_eq_some_iff.1 gift
  obtain ⟨x, found, op, grant, frontier, none⟩ := h
  have stands : e ∈ s.ift := List.mem_of_find?_eq_some oldest
  have running : e.phase = .running := Entry.running_of_issuable (by simp [issuable])
  have issued := (issueSegment_entry? d e run k s).trans (congrArg (Option.map _) found)
  rw [Option.map_some] at issued
  have kept (y : Entry) (there : (issueSegment d e run s).entry? k = some y) (opY : y.op = .read)
      (grantY : y.readGrant = some length) (frontierY : y.frontier = offset) :
      GrantHeld k offset length (Machine.walkGrants (issueSegment d e run s)) :=
    GrantHeld.walkGrants ⟨y, there, opY, grantY, frontierY, by simpa using none⟩
      ((issueSegment_fed distinct stands running).slotsDistinct distinct)
  by_cases own : x.slot = e.slot
  · obtain rfl : x = e := by
      have same := entry?_of_mem distinct stands
      rw [← own, (mem_of_entry? found).2, found] at same
      exact Option.some.inj same
    rw [if_pos rfl] at issued
    cases ranges : x.returned with
    | cons r rest =>
      refine .inl (kept _ issued (by simp [op]) ?_ ?_) <;> simp [Entry.issueInto, op, ranges, grant, frontier]
    | nil =>
      obtain rfl : run = { offset := offset, length := length } := by
        simpa [Entry.issuable, running, op, ranges, grant, frontier, eq_comm] using issuable
      have atDrive : GrantIssued k offset length (issueSegment d x { offset := offset, length := length } s) :=
        ⟨ready, _, issued, d, (x.issueInto_counts d _).1⟩
      exact .inr (atDrive.supplied (walkGrants_supplies _))
  · rw [if_neg own] at issued
    exact .inl (kept x issued op grant frontier)

theorem GrantHeld.arbiterRuns (n : Nat) (h : GrantHeld k offset length s) (distinct : SlotsDistinct s) :
    GrantHeld k offset length (arbiterRuns n s) ∨ GrantIssued k offset length (arbiterRuns n s) := by
  induction n generalizing s with
  | zero => exact .inl h
  | succ n ih =>
    unfold Machine.arbiterRuns
    split
    · next t gift =>
      rcases h.arbiterGift distinct gift with held | issued
      · exact ih held ((arbiterGift_fed distinct gift).slotsDistinct distinct)
      · exact .inr (issued.supplied (arbiterRuns_supplies n t))
    · exact .inl h

end

/-! ## The row -/

/-- What the grant of a request brings: its pages are the lowest free ones, at consecutive offsets, and nothing is taken
away (R139, R146). -/
structure GrantMade (g : GrantRequest) (offset : Nat) (s t : State) : Prop where
  supplies : Supplies s t
  pages : ∀ i n, i < g.length → s.freePages[i]? = some n →
    ∃ r ∈ t.stb.pages, r.number = n ∧ r.path = g.path ∧ r.slot = some g.slot ∧ r.offset = offset + i ∧
      (r.state = .granted ∨ (s.dpt.state = .ready ∧ r.state = .atDrive))
  occupancy : s.occupancy g.path + g.length ≤ t.occupancy g.path

theorem GrantMade.supplied {g : GrantRequest} {offset : Nat} {s t u : State} (h : GrantMade g offset s t)
    (later : Supplies t u) : GrantMade g offset s u where
  supplies := h.supplies.trans later
  pages i n inGrant lowest := by
    obtain ⟨r, hr, number, path, own, there, state⟩ := h.pages i n inGrant lowest
    rcases later.pages r hr with kept | ⟨ready, atDrive⟩
    · exact ⟨r, kept, number, path, own, there, state⟩
    · exact ⟨_, atDrive, number, path, own, there, .inr ⟨h.supplies.drive.symm.trans ready, rfl⟩⟩
  occupancy := h.occupancy.trans (later.occupancy g.path)

theorem makeGrant_made {g : GrantRequest} {s : State} {e : Entry} (found : s.entry? g.slot = some e)
    (free : g.length ≤ s.freePages.length) : GrantMade g e.frontier s (makeGrant g s) where
  supplies := makeGrant_supplies g s
  pages i n inGrant lowest := by
    have taken : (s.freePages.take g.length)[i]? = some n := by rwa [List.getElem?_take_of_lt inGrant]
    exact ⟨_, (makeGrant_pages found).mem_iff.2 (List.mem_append_left _ (mem_grantedPages taken e.frontier)), rfl, rfl,
      rfl, rfl, .inl rfl⟩
  occupancy := by
    rw [makeGrant_occupancy found, countP_grantedPages, List.length_take_of_le free, Nat.add_comm]

theorem makeGrant_held {g : GrantRequest} {s : State} {e : Entry} (found : s.entry? g.slot = some e)
    (op : e.op = .read) : GrantHeld g.slot e.frontier g.length (makeGrant g s) := by
  refine ⟨_, makeGrant_entry? found, op, rfl, rfl, fun x hx => ?_⟩
  rw [makeGrant_grants] at hx
  simpa using (List.mem_filter.1 hx).2

/-- The walk grants the oldest request first, and takes nothing of it away (R146). -/
theorem walkGrants_made {s : State} {g : GrantRequest} {e : Entry} (found : s.entry? g.slot = some e)
    (op : e.op = .read)
    (placed : ∃ rest, (placeRequests s).stb.grants = g :: rest ∧ ∀ x ∈ rest, x.slot ≠ g.slot)
    (quota : s.occupancy g.path + g.length ≤ quotaOf s.owc.policy g.path) (free : g.length ≤ s.freePages.length) :
    GrantMade g e.frontier s (walkGrants s) ∧ GrantHeld g.slot e.frontier g.length (walkGrants s) := by
  obtain ⟨rest, list, others⟩ := placed
  have pages : (placeRequests s).stb.pages = s.stb.pages := by simp
  have policy : (placeRequests s).owc = s.owc := by simp
  have drive : (placeRequests s).dpt = s.dpt := by simp
  have there : (placeRequests s).entry? g.slot = some e := (entry?_congr (placeRequests_ift s) g.slot).trans found
  have walked : walkGrants s = walkFrom rest { a := false, b := false } (makeGrant g (placeRequests s)) := by
    rw [walkGrants, list]
    exact walkFrom_grants (by cases g.path <;> rfl) (by rwa [occupancy_congr pages, policy])
      (by rwa [freePages_congr pages])
  have made := (makeGrant_made there (by rwa [freePages_congr pages])).supplied
    (walkFrom_supplies rest { a := false, b := false } _)
  rw [walked]
  refine ⟨⟨Supplies.trans (.of_frame (placeRequests_ift s)) made.supplies, ?_, ?_⟩,
    (makeGrant_held there op).walkFrom others _⟩
  · rw [← freePages_congr pages, ← drive]
    exact made.pages
  · rw [← occupancy_congr pages]
    exact made.occupancy

/-- Settles O48: the walk grants the oldest request, and the arbiter's run after it issues its segment or leaves it held. -/
theorem oldestRequestGranted : Obligations.OldestRequestGranted := by
  intro s g e table _ found op oldest quota free
  have distinct := table.slotsDistinct
  obtain ⟨granted, held⟩ := walkGrants_made found op (placeRequests_oldest table found oldest) quota free
  have made := granted.supplied (u := runArbiter (walkGrants s)) (arbiterRuns_supplies _ _)
  refine ⟨runArbiter (walkGrants s), rfl, made.pages, made.occupancy, fun r hr => ?_, ?_, fun idle => ?_, by simp⟩
  · rcases made.supplies.pages r hr with kept | ⟨_, atDrive⟩
    · exact ⟨r, kept, rfl, rfl, rfl, rfl⟩
    · exact ⟨_, atDrive, rfl, rfl, rfl, rfl⟩
  · rcases held.arbiterRuns _ ((walkGrants_fed s).slotsDistinct distinct) with
      ⟨x, there, _, grant, frontier, _⟩ | ⟨ready, x, there, issued⟩
    · exact ⟨x, there, .inl ⟨grant, frontier⟩⟩
    · exact ⟨x, there, .inr ⟨made.supplies.drive.symm.trans ready, issued⟩⟩
  · obtain ⟨_, _, _, _, _, none⟩ := held
    rw [runArbiter_of_not_ready (by simpa using idle)]
    refine ⟨fun waits => none g waits rfl, by simp, fun r hr => ?_⟩
    exact (granted.supplies.pages r hr).resolve_right fun ⟨ready, _⟩ => idle ready

end Sys2Proof.Machine
end

section
/-! The report of an entry and its removal (R78, R89, R90, R128, R129): the rows of R128, the orphan record, and what the
rest of the event leaves of them. -/

namespace Sys2Proof.Machine

set_option Elab.async false

/-! ## Room in a transmit queue -/

theorem Pif.hasRoom_iff {f : Pif} : f.hasRoom = true ↔ f.link = .up ∧ f.transmitCount < 32 := by
  rw [Pif.hasRoom, Bool.and_eq_true, beq_iff_eq, decide_eq_true_iff]
  rfl

theorem Pif.offer_transmitCount (producer : Producer) (x : TxItem) (f : Pif) :
    f.transmitCount ≤ (f.offer producer x).transmitCount ∧
      (f.offer producer x).transmitCount ≤ f.transmitCount + 1 := by
  unfold Pif.offer
  split
  · exact ⟨le_rfl, Nat.le_succ _⟩
  · split
    · rw [Pif.enqueue_transmitCount]
      exact ⟨Nat.le_succ _, le_rfl⟩
    · exact ⟨le_rfl, Nat.le_succ _⟩

theorem Pif.offerFlagNotice_transmitCount (flag : Flag) (f : Pif) :
    f.transmitCount ≤ (f.offerFlagNotice flag).transmitCount ∧
      (f.offerFlagNotice flag).transmitCount ≤ f.transmitCount + 1 := by
  unfold Pif.offerFlagNotice
  split
  · exact ⟨le_rfl, Nat.le_succ _⟩
  · exact Pif.offer_transmitCount _ _ f

/-- A flag takes one position of a transmit queue at most, that of its notice (R179). -/
theorem raiseIn_transmitCount (p : Path) (flag : Flag) (s : State) :
    (s.pif.get p).transmitCount ≤ ((raiseIn p flag s).pif.get p).transmitCount ∧
      ((raiseIn p flag s).pif.get p).transmitCount ≤ (s.pif.get p).transmitCount + 1 := by
  unfold raiseIn
  split
  · exact ⟨le_rfl, Nat.le_succ _⟩
  · dsimp only
    split
    · rw [State.onPif_get_same]
      exact Pif.offerFlagNotice_transmitCount flag _
    · exact ⟨le_rfl, Nat.le_succ _⟩

theorem raiseBoth_transmitCount (flag : Flag) (p : Path) (s : State) :
    (s.pif.get p).transmitCount ≤ ((raiseBoth flag s).pif.get p).transmitCount ∧
      ((raiseBoth flag s).pif.get p).transmitCount ≤ (s.pif.get p).transmitCount + 1 := by
  unfold raiseBoth
  cases p with
  | a =>
    rw [show (raiseIn .b flag (raiseIn .a flag s)).pif.get .a = _ from raiseIn_pif_other .a flag _]
    exact raiseIn_transmitCount .a flag s
  | b =>
    have first : (raiseIn .a flag s).pif.get .b = s.pif.get .b := raiseIn_pif_other .b flag s
    rw [← first]
    exact raiseIn_transmitCount .b flag _

/-- An orphan record takes two positions of a transmit queue at most, those of ORPHANS and DATA_LOSS (R90, R128). -/
theorem reportOrphan_transmitCount (e : Entry) (outcome : Outcome) (p : Path) (s : State) :
    (s.pif.get p).transmitCount ≤ ((reportOrphan e outcome s).pif.get p).transmitCount ∧
      ((reportOrphan e outcome s).pif.get p).transmitCount ≤ (s.pif.get p).transmitCount + 2 := by
  have added (u : State) := raiseBoth_transmitCount .orphans p { u with owc := u.owc.withOrphan (e.orphan outcome) }
  unfold reportOrphan addOrphan
  split
  · obtain ⟨low, high⟩ := raiseBoth_transmitCount .dataLoss p s
    obtain ⟨lowAdded, highAdded⟩ := added (raiseBoth .dataLoss s)
    exact ⟨low.trans lowAdded, highAdded.trans (Nat.add_le_add_right high 1)⟩
  · obtain ⟨lowAdded, highAdded⟩ := added s
    exact ⟨lowAdded, highAdded.trans (Nat.le_succ _)⟩

/-! ## The orphan record -/

theorem reportOrphan_owc (e : Entry) (outcome : Outcome) (s : State) :
    (reportOrphan e outcome s).owc = s.owc.withOrphan (e.orphan outcome) := by
  unfold reportOrphan addOrphan
  split <;> simp

theorem FlagInBoth.advances {flag : Flag} {s t : State} (h : FlagInBoth flag s) (advances : Advances s t) :
    FlagInBoth flag t :=
  fun p => advances.flags p flag (h p)

theorem reportOrphan_orphansFlag (e : Entry) (outcome : Outcome) (s : State) :
    FlagInBoth .orphans (reportOrphan e outcome s) :=
  raiseBoth_flagInBoth .orphans _

/-- POSTED_LOST sets DATA_LOSS in both copies (R128). -/
theorem reportOrphan_dataLoss (e : Entry) (s : State) : FlagInBoth .dataLoss (reportOrphan e .postedLost s) :=
  (raiseBoth_flagInBoth .dataLoss s).advances (addOrphan_advances _ _)

theorem OrphanAdded.of_withOrphan {r : OrphanRecord} {s t : State} (orphans : t.owc.orphans = (s.owc.withOrphan r).orphans)
    (dropped : t.owc.dropped = (s.owc.withOrphan r).dropped)
    (added : t.owc.orphansAdded = (s.owc.withOrphan r).orphansAdded) (flag : FlagInBoth .orphans t) :
    OrphanAdded r s t := by
  unfold Owc.withOrphan at orphans dropped
  have depth : Config.orphanDepth = 32 := rfl
  refine ⟨fun room => ?_, fun full => ?_, added, flag⟩
  · dsimp only at orphans dropped
    rw [if_neg (by omega)] at orphans dropped
    exact ⟨orphans, dropped⟩
  · dsimp only at orphans dropped
    rw [if_pos (by omega)] at orphans dropped
    exact ⟨orphans, dropped⟩

/-! ## The rest of the row -/

/-- What the check for drain end, and what follows the event, leave of a report. -/
structure ReportStands (u t : State) : Prop where
  fed : u.Fed t
  advances : Advances u t
  standing : t.standing = u.standing
  fnu : t.fnu = u.fnu
  orphans : t.owc.orphans = u.owc.orphans
  dropped : t.owc.dropped = u.owc.dropped
  added : t.owc.orphansAdded = u.owc.orphansAdded

section
variable {s : State} {slot : Nat} {e : Entry}

theorem removeDue_stands (slot : Nat) (distinct : SlotsDistinct s) :
    ReportStands (reportSlot slot s) (removeDue slot s) := by
  have reported : SlotsDistinct (checkDrainEnd (reportSlot slot s)) :=
    ((reportSlot_table slot s).slotsDistinct distinct).congr (by simp)
  refine ⟨State.Fed.trans .of_eq (follow_fed s reported), Advances.trans .of_frame (follow_advances s _), ?_, ?_, ?_, ?_,
    ?_⟩
  · exact (follow_standing s _).trans (standing_congr (by simp))
  all_goals simp [removeDue]

theorem removeDue_sameBlock (slot : Nat) (s : State) : SameBlock s (removeDue slot s) := by
  simp [removeDue, SameBlock]

theorem reportSlot_of_due (found : s.entry? slot = some e) (due : s.reportDue e = true) :
    reportSlot slot s = makeReport e (discardFetched slot s) := by
  rw [reportSlot, found]
  exact if_pos due

/-- An entry reported by removal alone: its pages, its slot and the sets it stood in are free of it (R129). -/
theorem removeDue_removed {m : State} (distinct : SlotsDistinct s) (made : reportSlot slot s = dropEntry slot m)
    (others : ∀ x ∈ s.ift, x.slot ≠ slot → m.entry? x.slot = some x) : EntryRemoved slot s (removeDue slot s) :=
  (made ▸ dropEntry_removed others).fed (removeDue_stands slot distinct).fed

/-- The orphan record of a report stands after the row (R90). -/
theorem removeDue_orphanAdded {outcome : Outcome} (distinct : SlotsDistinct s)
    (owc : (reportSlot slot s).owc = (reportOrphan e outcome (discardFetched slot s)).owc)
    (later : Advances (reportOrphan e outcome (discardFetched slot s)) (reportSlot slot s)) :
    OrphanAdded (e.orphan outcome) s (removeDue slot s) := by
  have stands := removeDue_stands slot distinct
  rw [reportOrphan_owc, show (discardFetched slot s).owc = s.owc from rfl] at owc
  exact .of_withOrphan (by rw [stands.orphans, owc]) (by rw [stands.dropped, owc]) (by rw [stands.added, owc])
    ((reportOrphan_orphansFlag e outcome _).advances (later.trans stands.advances))

/-- An entry reported by an orphan record in place of a reply (R128). -/
theorem removeDue_removedWith {outcome : Outcome} (distinct : SlotsDistinct s)
    (made : reportSlot slot s = dropEntry slot (reportOrphan e outcome (discardFetched slot s))) :
    EntryRemoved slot s (removeDue slot s) ∧ OrphanAdded (e.orphan outcome) s (removeDue slot s) ∧
      (outcome = .postedLost → FlagInBoth .dataLoss (removeDue slot s)) := by
  have later : Advances (reportOrphan e outcome (discardFetched slot s)) (reportSlot slot s) :=
    made ▸ dropEntry_advances slot _
  refine ⟨removeDue_removed distinct made fun x hx _ => ?_, removeDue_orphanAdded distinct (by simp [made]) later, ?_⟩
  · exact (entry?_congr (by simp) x.slot).trans (entry?_of_mem distinct hx)
  · rintro rfl
    exact (reportOrphan_dataLoss e _).advances (later.trans (removeDue_stands slot distinct).advances)

/-! ## The final reply -/

theorem finalReply_of_down_or_room {status : Status} {m : State}
    (h : (m.pif.get e.origin).link = .down ∨ (m.pif.get e.origin).hasRoom = true) :
    finalReply e status m = dropEntry e.slot (m.offer e.origin (.iftFinal e.slot)
      (.reply e.tag status (BitVec.ofNat 16 e.doneBlocks) m.owc.epoch)) := by
  refine if_neg fun waits => ?_
  obtain ⟨up, full⟩ := Bool.and_eq_true_iff.1 waits
  rcases h with down | room
  · simp [State.linkUp, down] at up
  · simp [room] at full

/-- A final reply that waits for room keeps its entry in the table, marked (R128). -/
theorem finalReply_waits {status : Status} {m : State} {x : Entry} (found : m.entry? e.slot = some x)
    (up : (m.pif.get e.origin).link = .up) (full : (m.pif.get e.origin).hasRoom = false) :
    (finalReply e status m).entry? e.slot = some { x with reported := true } := by
  have waits : (m.linkUp e.origin && !(m.pif.get e.origin).hasRoom) = true := by simp [State.linkUp, up, full]
  rw [finalReply, if_pos waits]
  exact entry?_onEntry_same (f := fun x => { x with reported := true }) (fun _ => rfl) found

/-- An entry reported by its final reply: sent on an UP path, and the entry stays only while the reply waits (R128). -/
theorem removeDue_answered {status : Status} {m : State} {x : Entry} (distinct : SlotsDistinct s)
    (slotted : e.slot = slot) (made : reportSlot slot s = finalReply e status m) (there : m.entry? slot = some x)
    (others : ∀ x ∈ s.ift, x.slot ≠ slot → m.entry? x.slot = some x) :
    ((m.pif.get e.origin).link = .up →
      Carries ((removeDue slot s).pif.get e.origin)
        (.reply e.tag status (BitVec.ofNat 16 e.doneBlocks) m.owc.epoch)) ∧
      ((m.pif.get e.origin).link = .down ∨ (m.pif.get e.origin).hasRoom = true →
        EntryRemoved slot s (removeDue slot s)) ∧
      ((m.pif.get e.origin).link = .up → (m.pif.get e.origin).hasRoom = false →
        ∃ y, (removeDue slot s).entry? slot = some y ∧ y.reported = true) := by
  subst slotted
  have stands := removeDue_stands e.slot distinct
  rw [made] at stands
  refine ⟨fun up => (stands.advances.pif e.origin).carries _ (finalReply_carries up), fun leaves => ?_, fun up full => ?_⟩
  · refine removeDue_removed distinct (made.trans (finalReply_of_down_or_room leaves)) fun y hy other => ?_
    exact (entry?_congr (by simp) y.slot).trans (others y hy other)
  · obtain ⟨y, found, standing⟩ := entry?_standing stands.standing (finalReply_waits there up full)
    exact ⟨y, found, congrArg Entry.reported standing⟩

/-! ## The rows of R128 -/

/-- A fenced outcome (R78, R128): the record, and ORPHANED on an UP path. With two positions for the notices of its flags,
the reply needs a third. -/
theorem removeDue_fenced {given : Outcome} (distinct : SlotsDistinct s) (found : s.entry? slot = some e)
    (due : s.reportDue e = true) (fenced : e.fencedOutcome = some given) :
    OrphanAdded (e.orphan (e.finalOutcome given)) s (removeDue slot s) ∧
      ((s.pif.get e.origin).link = .up →
        Carries ((removeDue slot s).pif.get e.origin)
          (.reply e.tag .orphaned (BitVec.ofNat 16 e.doneBlocks) s.owc.epoch)) ∧
      ((s.pif.get e.origin).link = .down ∨ (s.pif.get e.origin).transmitCount + 3 ≤ 32 →
        EntryRemoved slot s (removeDue slot s)) ∧
      ((s.pif.get e.origin).link = .up → (s.pif.get e.origin).transmitCount = 32 →
        ∃ y, (removeDue slot s).entry? slot = some y ∧ y.reported = true) := by
  obtain ⟨_, slotted⟩ := mem_of_entry? found
  let outcome := e.finalOutcome given
  let recorded := reportOrphan e outcome (discardFetched slot s)
  let m := recorded.onEntry e.slot (fun x => { x with fencedOutcome := some outcome })
  have made : reportSlot slot s = finalReply e .orphaned m := by
    rw [reportSlot_of_due found due, makeReport, fenced]
  have table (k : Nat) : recorded.entry? k = s.entry? k := entry?_congr (by simp [recorded]) k
  have there : m.entry? slot = some { e with fencedOutcome := some outcome } := by
    rw [← slotted] at found ⊢
    exact entry?_onEntry_same (f := fun x => { x with fencedOutcome := some outcome }) (fun _ => rfl)
      ((table e.slot).trans found)
  have others (x : Entry) (hx : x ∈ s.ift) (other : x.slot ≠ slot) : m.entry? x.slot = some x := by
    rw [← entry?_of_mem distinct hx, ← table]
    exact entry?_onEntry_ne _ (fun _ => rfl) (slotted ▸ other)
  have epoch : m.owc.epoch = s.owc.epoch := by simp [m, recorded]
  have link : (m.pif.get e.origin).link = (s.pif.get e.origin).link := by simp [m, recorded]
  obtain ⟨low, high⟩ := reportOrphan_transmitCount e outcome e.origin (discardFetched slot s)
  have later : Advances recorded (reportSlot slot s) :=
    made ▸ (onEntry_advances e.slot _ recorded).trans (finalReply_advances e .orphaned m)
  obtain ⟨carried, removed, waits⟩ := removeDue_answered distinct slotted made there others
  rw [link, epoch] at carried
  rw [link] at removed waits
  refine ⟨removeDue_orphanAdded distinct (by simp [made, m, recorded, outcome]) later, carried, fun leaves => ?_,
    fun up full => ?_⟩
  · by_cases down : (s.pif.get e.origin).link = .down
    · exact removed (.inl down)
    · refine removed (.inr (Pif.hasRoom_iff.2 ⟨link.trans (Link.eq_up_of_ne_down down), ?_⟩))
      exact Nat.lt_of_le_of_lt high (leaves.resolve_left down)
  · refine waits up (Bool.eq_false_iff.2 fun room => ?_)
    obtain ⟨_, space⟩ := Pif.hasRoom_iff.1 room
    exact absurd (Nat.lt_of_le_of_lt low space) (by simp [full])

/-- An acknowledged write, by its path's role (R128). -/
theorem reportSlot_acked (found : s.entry? slot = some e) (due : s.reportDue e = true) (unfenced : e.fencedOutcome = none)
    (acked : e.acked = true) :
    reportSlot slot s =
      if s.role e.origin ≠ .fenced ∧ e.complete = true then dropEntry slot (discardFetched slot s)
      else dropEntry slot (reportOrphan e (if e.complete then .postedDone else .postedLost) (discardFetched slot s)) := by
  obtain ⟨_, rfl⟩ := mem_of_entry? found
  have role : (discardFetched e.slot s).role e.origin = s.role e.origin := by simp [State.role]
  rw [reportSlot_of_due found due, makeReport, unfenced]
  dsimp only
  rw [if_pos acked, role]
  by_cases fenced : s.role e.origin = .fenced
  · simp [fenced]
  · cases complete : e.complete <;> simp [fenced]

/-- A cut entry (R128). -/
theorem reportSlot_cut (found : s.entry? slot = some e) (due : s.reportDue e = true) (unfenced : e.fencedOutcome = none)
    (acked : e.acked = false) (cut : e.cut = true) :
    reportSlot slot s =
      dropEntry slot (reportOrphan e (if e.complete then .completeUnreported else .linkCut) (discardFetched slot s)) := by
  obtain ⟨_, rfl⟩ := mem_of_entry? found
  rw [reportSlot_of_due found due, makeReport, unfenced]
  simp [acked, cut]

/-- Any other entry: its end status (R128). -/
theorem reportSlot_ended {status : EndStatus} (found : s.entry? slot = some e) (due : s.reportDue e = true)
    (unfenced : e.fencedOutcome = none) (acked : e.acked = false) (cut : e.cut = false)
    (ended : e.endStatus = some status) :
    reportSlot slot s = finalReply e status.status (discardFetched slot s) := by
  rw [reportSlot_of_due found due, makeReport, unfenced]
  simp [acked, cut, ended]

end

theorem Entry.finalOutcome_of_complete (given : Outcome) {e : Entry} (other : e.op ≠ .read) (complete : e.complete = true) :
    e.finalOutcome given = .completeUnreported := by
  unfold Entry.finalOutcome
  split
  · next read => exact absurd read other
  · exact if_pos complete

theorem Entry.finalOutcome_of_part (given : Outcome) {e : Entry} (part : e.op = .read ∨ ¬e.complete = true) :
    e.finalOutcome given = given := by
  unfold Entry.finalOutcome
  split
  · rfl
  · next other => exact if_neg (part.resolve_left other)

/-! ## The statement -/

/-- The fields of an orphan record, as R89 gives them. -/
theorem Entry.orphan_eq (outcome : Outcome) (e : Entry) :
    e.orphan outcome =
      { origin := e.origin, tag := e.tag, op := e.op, start := e.start, count := e.count
        done := if e.op = .flush ∧ e.flushDone = true then 1 else e.doneBlocks, epoch := e.epoch, outcome := outcome } := by
  unfold Entry.orphan Entry.orphanDone Entry.doneBlocks
  cases e.op <;> simp

/-- Settles O51: the row of R128 that fits gives the report, and the rest of the event leaves it and the removal alone. -/
theorem entryReportedAndRemoved : Obligations.EntryReportedAndRemoved := by
  intro s slot
  constructor
  · intro idle
    have none : reportSlot slot s = s := reportSlot_of_not_due idle
    have standing : (removeDue slot s).standing = s.standing := by
      rw [removeDue, none, follow_standing]
      exact standing_congr (by simp)
    have slots : (removeDue slot s).standing.map Entry.slot = s.standing.map Entry.slot := by rw [standing]
    refine ⟨removeDue slot s, rfl, ?_, ?_, removeDue_sameBlock slot s, ?_, ?_, ?_⟩
    · simpa [State.standing, Function.comp_def, Entry.standing] using slots
    all_goals simp [removeDue, none]
  · intro e table found due done full record reply f
    have distinct := table.slotsDistinct
    have stands := removeDue_stands slot distinct
    have records (outcome : Outcome) : record outcome = e.orphan outcome := (Entry.orphan_eq outcome e).symm
    have complete : full ↔ e.complete = true := by
      unfold full Entry.complete
      cases e.op <;> simp
    refine ⟨removeDue slot s, rfl, removeDue_sameBlock slot s, by simp [removeDue], by simp [removeDue], ?_⟩
    intro removedWith
    have removed {outcome : Outcome}
        (made : reportSlot slot s = dropEntry slot (reportOrphan e outcome (discardFetched slot s))) :
        removedWith outcome := by
      unfold removedWith
      rw [records]
      exact removeDue_removedWith distinct made
    refine ⟨fun given fenced => ?_, fun unfenced acked => ⟨fun role => ⟨fun whole => ?_, fun part => ?_⟩,
      fun role => ⟨fun whole => ?_, fun part => ?_⟩⟩, fun unfenced acked cut => ⟨fun whole => ?_, fun part => ?_⟩,
      fun status unfenced acked cut ended => ?_⟩
    · obtain ⟨added, carried, leaves, waits⟩ := removeDue_fenced distinct found due fenced
      refine ⟨fun other whole => ?_, fun part => ?_, carried, leaves, waits⟩
      · rw [Entry.finalOutcome_of_complete given other (complete.1 whole)] at added
        rwa [records]
      · rw [Entry.finalOutcome_of_part given (part.imp id (mt complete.2))] at added
        rwa [records]
    · exact removed (by rw [reportSlot_acked found due unfenced acked]; simp [role, complete.1 whole])
    · exact removed (by rw [reportSlot_acked found due unfenced acked]; simp [role, mt complete.2 part])
    · have made := reportSlot_acked found due unfenced acked
      rw [if_pos ⟨role, complete.1 whole⟩] at made
      refine ⟨removeDue_removed distinct made fun x hx _ => ?_, ?_, ?_⟩
      · exact (entry?_congr (by simp) x.slot).trans (entry?_of_mem distinct hx)
      · rw [stands.orphans, made]
        simp
      · rw [stands.fnu, made]
        simp
    · exact removed (by rw [reportSlot_acked found due unfenced acked]; simp [mt complete.2 part])
    · exact removed (by rw [reportSlot_cut found due unfenced acked cut]; simp [complete.1 whole])
    · exact removed (by rw [reportSlot_cut found due unfenced acked cut]; simp [mt complete.2 part])
    · have made := reportSlot_ended found due unfenced acked cut ended
      have kept : (discardFetched slot s).pif = s.pif := by simp
      have answered := removeDue_answered distinct (mem_of_entry? found).2 made ((entry?_congr (by simp) slot).trans found)
        fun x hx _ => (entry?_congr (by simp) x.slot).trans (entry?_of_mem distinct hx)
      rw [kept] at answered
      refine ⟨?_, ?_, answered⟩
      · rw [stands.orphans, made]
        simp
      · rw [stands.fnu, made]
        simp

end Sys2Proof.Machine
end

section
/-! Completions (R115 to R117, R122 to R126, R168): what each class of completion makes of the entry it is for, whatever
stands beside it in the part. -/

namespace Sys2Proof.Machine

set_option Elab.async false

/-! ## The entry after a completion -/

/-- The entry with the segment in a drive slot taken off its outstanding list. -/
def Entry.retired (driveSlot : Nat) (e : Entry) : Entry :=
  { e with outstanding := e.outstanding.filter (fun g => !(g.driveSlot == driveSlot)) }

/-- The blocks done counted: committed for a write, fetched for a read (R117, R122). -/
def Entry.counted (done : Nat) (e : Entry) : Entry :=
  match e.op with
  | .flush => e
  | .write => { e with committed := e.committed + done }
  | .read => { e with fetched := e.fetched + done }

/-- The undone part taken off the issued blocks, and returned while the entry is RUNNING (R123, R124). -/
def Entry.undone (offset length : Nat) (e : Entry) : Entry :=
  if length = 0 then e
  else if e.phase = .running then
    { e with
      issued := e.issued - length, returned := insertRun { offset := offset, length := length } e.returned }
  else { e with issued := e.issued - length }

/-- The end decided, where none was (R126). -/
def Entry.decided (st : EndStatus) (e : Entry) : Entry :=
  if e.endStatus.isSome then e else e.ended st

/-- A completion without progress counted; the fourth ends the entry DRIVE_STALL (R124). -/
def Entry.stalled (e : Entry) : Entry :=
  if e.reissue < 3 then { e with reissue := e.reissue + 1 } else e.decided .driveStall

/-- The end OK of a write or FLUSH that is done in full (R116, R122). -/
def Entry.finished (e : Entry) : Entry :=
  if e.phase = .running ∧ e.op ≠ .read ∧ e.complete then e.ended .ok else e

/-- A READ or WRITE entry after the completion of a segment (R122, R123, R125). -/
def Entry.completed (offset length : Nat) (cls : CompletionClass) (done : Nat) (e : Entry) : Entry :=
  match cls with
  | .good => (e.counted length).finished
  | .partialDone =>
    let x := (e.counted done).undone (offset + done) (length - done)
    if done = 0 then x.stalled else x
  | .media => ((e.decided .mediaError).counted done).undone (offset + done) (length - done)

/-- A FLUSH after its completion (R168). -/
def Entry.flushed (cls : CompletionClass) (e : Entry) : Entry :=
  match cls with
  | .good => { e with flushDone := true }.finished
  | .partialDone => e.stalled
  | .media => e.decided .mediaError

/-! ## Each operation of a completion, read at its entry -/

section
variable {s : State} {k : Nat} {e x : Entry}

theorem dropOutstanding_entry? (d : Nat) (found : s.entry? k = some e) :
    (dropOutstanding k d s).entry? k = some (e.retired d) :=
  entry?_onEntry_same (f := Entry.retired d) (fun _ => rfl) found

theorem decideEnd_entry? (st : EndStatus) (found : s.entry? k = some e) :
    (decideEnd st k s).entry? k = some (e.decided st) := by
  unfold Entry.decided
  split
  · next held =>
    have kept : decideEnd st k s = s := by
      rw [decideEnd, found]
      exact if_pos held
    rwa [kept]
  · next none =>
    rw [decideEnd_of_none st found (by simpa using none)]
    exact entry?_endEntry_same st found

theorem countZeroProgress_of_lt (found : s.entry? k = some e) (below : e.reissue < 3) :
    countZeroProgress k s = s.onEntry k (fun x => { x with reissue := x.reissue + 1 }) := by
  rw [countZeroProgress, found]
  exact if_pos below

theorem countZeroProgress_entry? (found : s.entry? k = some e) :
    (countZeroProgress k s).entry? k = some e.stalled := by
  unfold Entry.stalled
  split
  · next below =>
    rw [countZeroProgress_of_lt found below]
    exact entry?_onEntry_same (f := fun x => { x with reissue := x.reissue + 1 }) (fun _ => rfl) found
  · next reached =>
    have ends : countZeroProgress k s = decideEnd .driveStall k s := by
      rw [countZeroProgress, found]
      exact if_neg reached
    rw [ends]
    exact decideEnd_entry? _ found

theorem finishIfDone_entry? (found : s.entry? k = some e) : (finishIfDone k s).entry? k = some e.finished := by
  unfold finishIfDone Entry.finished
  rw [found]
  dsimp only
  split
  · exact entry?_endEntry_same _ found
  · exact found

theorem Entry.counted_write (write : e.op = .write) (done : Nat) :
    e.counted done = { e with committed := e.committed + done } := by
  rw [Entry.counted, write]

theorem Entry.counted_read (read : e.op = .read) (done : Nat) :
    e.counted done = { e with fetched := e.fetched + done } := by
  rw [Entry.counted, read]

theorem countDone_write (write : e.op = .write) (offset done : Nat) (blocks : List (List Byte)) (s : State) :
    countDone e offset done blocks s =
      (s.freeRun e.slot offset done).onEntry e.slot (fun x => { x with committed := x.committed + done }) := by
  rw [countDone, write]

/-- The blocks of a read that delivers are fetched into their pages (R117, R122). -/
theorem countDone_delivering (read : e.op = .read) (delivers : e.delivering (s.role e.origin) = true)
    (offset done : Nat) (blocks : List (List Byte)) :
    countDone e offset done blocks s =
      (placeBlocks e.slot offset (firstBlocks done blocks)
        (s.onEntry e.slot (fun x => { x with fetched := x.fetched + done }))).markPages e.slot offset done .fetched := by
  rw [countDone, read]
  exact if_pos delivers

/-- Those of a read that delivers no more are discarded (R77, R133). -/
theorem countDone_discarding (read : e.op = .read) (delivers : ¬e.delivering (s.role e.origin) = true)
    (offset done : Nat) (blocks : List (List Byte)) :
    countDone e offset done blocks s =
      (s.onEntry e.slot (fun x => { x with fetched := x.fetched + done })).freeRun e.slot offset done := by
  rw [countDone, read]
  exact if_neg delivers

theorem placeBlocks_ift (slot offset : Nat) (l : List (List Byte)) (s : State) :
    (placeBlocks slot offset l s).ift = s.ift := by
  simp

theorem placeBlocks_stb (slot offset : Nat) (l : List (List Byte)) (s : State) :
    (placeBlocks slot offset l s).stb = s.stb := by
  simp

theorem countDone_entry? (offset done : Nat) (blocks : List (List Byte)) (found : s.entry? e.slot = some x)
    (op : x.op = e.op) : (countDone e offset done blocks s).entry? e.slot = some (x.counted done) := by
  cases kind : e.op with
  | flush =>
    rw [countDone, kind, Entry.counted, op.trans kind]
    exact found
  | write =>
    rw [countDone_write kind, Entry.counted_write (op.trans kind)]
    exact entry?_onEntry_same (f := fun x => { x with committed := x.committed + done }) (fun _ => rfl) found
  | read =>
    rw [Entry.counted_read (op.trans kind)]
    have fetched := entry?_onEntry_same (f := fun x => { x with fetched := x.fetched + done }) (fun _ => rfl) found
    by_cases delivers : e.delivering (s.role e.origin) = true
    · rw [countDone_delivering kind delivers, entry?_congr (State.markPages_ift ..),
        entry?_congr (placeBlocks_ift ..)]
      exact fetched
    · rw [countDone_discarding kind delivers]
      exact fetched

theorem returnUndone_entry? (offset length : Nat) (found : s.entry? e.slot = some x) (phase : x.phase = e.phase) :
    (returnUndone e offset length s).entry? e.slot = some (x.undone offset length) := by
  have fewer := entry?_onEntry_same (f := fun x => { x with issued := x.issued - length }) (fun _ => rfl) found
  unfold returnUndone Entry.undone
  split
  · exact found
  · by_cases running : e.phase = .running
    · rw [if_pos (phase.trans running)]
      dsimp only
      rw [if_pos running]
      exact entry?_onEntry_same
        (f := fun x => { x with returned := insertRun { offset := offset, length := length } x.returned }) (fun _ => rfl)
        fewer
    · have runningX : ¬x.phase = .running := fun ongoing => running (phase.symm.trans ongoing)
      rw [if_neg runningX]
      dsimp only
      rw [if_neg running]
      exact fewer

@[simp] theorem Entry.counted_frame (done : Nat) (e : Entry) :
    (e.counted done).slot = e.slot ∧ (e.counted done).op = e.op ∧ (e.counted done).phase = e.phase ∧
      (e.counted done).issued = e.issued ∧ (e.counted done).returned = e.returned ∧
      (e.counted done).reissue = e.reissue ∧ (e.counted done).endStatus = e.endStatus := by
  unfold Entry.counted
  cases op : e.op <;> simp [op]

theorem Entry.decided_frame (st : EndStatus) (e : Entry) :
    (e.decided st).slot = e.slot ∧ (e.decided st).op = e.op := by
  unfold Entry.decided Entry.ended
  split <;> exact ⟨rfl, rfl⟩

theorem completeBlocks_entry? (offset length : Nat) (cls : CompletionClass) (done : Nat) (blocks : List (List Byte))
    (found : s.entry? e.slot = some e) :
    (completeBlocks e offset length cls done blocks s).entry? e.slot = some (e.completed offset length cls done) := by
  unfold completeBlocks Entry.completed
  cases cls with
  | good => exact finishIfDone_entry? (countDone_entry? offset length blocks found rfl)
  | partialDone =>
    have returned := returnUndone_entry? (offset + done) (length - done) (countDone_entry? offset done blocks found rfl)
      (by simp)
    dsimp only
    split
    · exact countZeroProgress_entry? returned
    · exact returned
  | media =>
    have decided := decideEnd_entry? .mediaError found
    dsimp only
    rw [decided]
    obtain ⟨slot, _⟩ := e.decided_frame .mediaError
    rw [← slot] at decided ⊢
    exact returnUndone_entry? _ _ (countDone_entry? offset done blocks decided rfl) (by simp)

theorem completeFlush_entry? (cls : CompletionClass) (found : s.entry? e.slot = some e) :
    (completeFlush e cls s).entry? e.slot = some (e.flushed cls) := by
  cases cls with
  | good =>
    exact finishIfDone_entry? (entry?_onEntry_same (f := fun x => { x with flushDone := true }) (fun _ => rfl) found)
  | partialDone => exact countZeroProgress_entry? found
  | media => exact decideEnd_entry? _ found

/-- A completion for a READ or WRITE entry of the table (R122 to R125). -/
theorem takeCompletion_ranged (d offset length : Nat) (cls : CompletionClass) (done : Nat) (blocks : List (List Byte))
    (found : s.entry? e.slot = some e) (ranged : e.op ≠ .flush) :
    takeCompletion e.slot d offset length cls done blocks s =
      completeBlocks (e.retired d) offset length cls done blocks (dropOutstanding e.slot d s) := by
  have there := dropOutstanding_entry? d found
  have op : (e.retired d).op = e.op := rfl
  unfold takeCompletion
  dsimp only
  rw [there]
  dsimp only
  rw [op]
  cases same : e.op with
  | flush => exact absurd same ranged
  | read => rfl
  | write => rfl

theorem takeCompletion_entry? (d offset length : Nat) (cls : CompletionClass) (done : Nat) (blocks : List (List Byte))
    (found : s.entry? e.slot = some e) (ranged : e.op ≠ .flush) :
    (takeCompletion e.slot d offset length cls done blocks s).entry? e.slot =
      some ((e.retired d).completed offset length cls done) := by
  rw [takeCompletion_ranged d offset length cls done blocks found ranged]
  exact completeBlocks_entry? (e := e.retired d) _ _ _ _ _ (dropOutstanding_entry? d found)

theorem takeCompletion_flush_entry? (d offset length : Nat) (cls : CompletionClass) (done : Nat)
    (blocks : List (List Byte)) (found : s.entry? e.slot = some e) (flush : e.op = .flush) :
    (takeCompletion e.slot d offset length cls done blocks s).entry? e.slot = some ((e.retired d).flushed cls) := by
  have there := dropOutstanding_entry? d found
  have op : (e.retired d).op = .flush := flush
  unfold takeCompletion
  dsimp only
  rw [there]
  dsimp only
  rw [op]
  exact completeFlush_entry? (e := e.retired d) cls there

end

/-! ## Returned ranges in offset order (R115) -/

theorem mem_insertRun {r x : Run} {l : List Run} : x ∈ insertRun r l ↔ x = r ∨ x ∈ l := by
  induction l with
  | nil => simp [insertRun]
  | cons y rest ih =>
    unfold insertRun
    split
    · exact List.mem_cons
    · rw [List.mem_cons, ih, List.mem_cons, or_left_comm]

theorem insertRun_ordered {r : Run} {l : List Run} (ordered : l.Pairwise (fun x y => x.offset ≤ y.offset)) :
    (insertRun r l).Pairwise (fun x y => x.offset ≤ y.offset) := by
  induction l with
  | nil => exact List.pairwise_singleton _ _
  | cons x rest ih =>
    obtain ⟨first, later⟩ := List.pairwise_cons.1 ordered
    unfold insertRun
    split
    · next below =>
      refine List.pairwise_cons.2 ⟨fun y hy => ?_, ordered⟩
      rcases List.mem_cons.1 hy with rfl | hy
      · exact below.le
      · exact below.le.trans (first y hy)
    · next above =>
      refine List.pairwise_cons.2 ⟨fun y hy => ?_, ih later⟩
      rcases mem_insertRun.1 hy with rfl | hy
      · exact Nat.le_of_not_lt above
      · exact first y hy

section
variable {e : Entry}

theorem RangesOrdered.ended (st : EndStatus) (e : Entry) : RangesOrdered (e.ended st) :=
  List.Pairwise.nil

theorem RangesOrdered.counted (h : RangesOrdered e) (done : Nat) : RangesOrdered (e.counted done) := by
  unfold Entry.counted
  cases e.op <;> exact h

theorem RangesOrdered.undone (h : RangesOrdered e) (offset length : Nat) : RangesOrdered (e.undone offset length) := by
  unfold Entry.undone
  split
  · exact h
  · split
    · exact insertRun_ordered h
    · exact h

theorem RangesOrdered.decided (h : RangesOrdered e) (st : EndStatus) : RangesOrdered (e.decided st) := by
  unfold Entry.decided
  split
  · exact h
  · exact .ended st e

theorem RangesOrdered.stalled (h : RangesOrdered e) : RangesOrdered e.stalled := by
  unfold Entry.stalled
  split
  · exact h
  · exact h.decided _

theorem RangesOrdered.finished (h : RangesOrdered e) : RangesOrdered e.finished := by
  unfold Entry.finished
  split
  · exact .ended _ e
  · exact h

theorem RangesOrdered.completed (h : RangesOrdered e) (offset length : Nat) (cls : CompletionClass) (done : Nat) :
    RangesOrdered (e.completed offset length cls done) := by
  unfold Entry.completed
  cases cls with
  | good => exact (h.counted length).finished
  | partialDone =>
    dsimp only
    split
    · exact ((h.counted done).undone _ _).stalled
    · exact (h.counted done).undone _ _
  | media => exact ((h.decided _).counted done).undone _ _

end

/-! ## What the entry counts -/

section
variable {e : Entry}

@[simp] theorem Entry.ended_counts (st : EndStatus) (e : Entry) :
    (e.ended st).committed = e.committed ∧ (e.ended st).fetched = e.fetched :=
  ⟨rfl, rfl⟩

@[simp] theorem Entry.undone_counts (offset length : Nat) (e : Entry) :
    (e.undone offset length).committed = e.committed ∧ (e.undone offset length).fetched = e.fetched := by
  unfold Entry.undone
  split
  · exact ⟨rfl, rfl⟩
  · split <;> exact ⟨rfl, rfl⟩

@[simp] theorem Entry.decided_counts (st : EndStatus) (e : Entry) :
    (e.decided st).committed = e.committed ∧ (e.decided st).fetched = e.fetched := by
  unfold Entry.decided
  split <;> exact ⟨rfl, rfl⟩

@[simp] theorem Entry.stalled_counts (e : Entry) : e.stalled.committed = e.committed ∧ e.stalled.fetched = e.fetched := by
  unfold Entry.stalled
  split
  · exact ⟨rfl, rfl⟩
  · exact e.decided_counts _

@[simp] theorem Entry.finished_counts (e : Entry) :
    e.finished.committed = e.committed ∧ e.finished.fetched = e.fetched := by
  unfold Entry.finished
  split <;> exact ⟨rfl, rfl⟩

/-- The blocks that a completion of this class counts as done (R122, R123, R125). -/
def CompletionClass.blocksDone (length done : Nat) : CompletionClass → Nat
  | .good => length
  | _ => done

theorem CompletionClass.blocksDone_of_ne_good {cls : CompletionClass} (other : cls ≠ .good) (length done : Nat) :
    cls.blocksDone length done = done := by
  cases cls with
  | good => exact absurd rfl other
  | partialDone => rfl
  | media => rfl

theorem Entry.completed_committed (write : e.op = .write) (offset length : Nat) (cls : CompletionClass) (done : Nat) :
    (e.completed offset length cls done).committed = e.committed + cls.blocksDone length done := by
  unfold Entry.completed
  cases cls with
  | good => simp [Entry.counted_write write, CompletionClass.blocksDone]
  | partialDone =>
    dsimp only
    split <;> simp [Entry.counted_write write, CompletionClass.blocksDone]
  | media =>
    rw [Entry.counted_write ((e.decided_frame _).2.trans write)]
    simp [CompletionClass.blocksDone]

theorem Entry.completed_fetched (read : e.op = .read) (offset length : Nat) (cls : CompletionClass) (done : Nat) :
    (e.completed offset length cls done).fetched = e.fetched + cls.blocksDone length done := by
  unfold Entry.completed
  cases cls with
  | good => simp [Entry.counted_read read, CompletionClass.blocksDone]
  | partialDone =>
    dsimp only
    split <;> simp [Entry.counted_read read, CompletionClass.blocksDone]
  | media =>
    rw [Entry.counted_read ((e.decided_frame _).2.trans read)]
    simp [CompletionClass.blocksDone]

/-! ## The classes of completion -/

/-- A GOOD segment of a RUNNING write: the last block ends it OK (R116, R122). -/
theorem Entry.completed_good_write (write : e.op = .write) (running : e.phase = .running) (offset length done : Nat) :
    let x := e.completed offset length .good done
    x.issued = e.issued ∧ (e.committed + length = e.count → x.phase = .ending ∧ x.endStatus = some .ok) ∧
      (e.committed + length ≠ e.count →
        x.phase = .running ∧ x.returned = e.returned ∧ x.reissue = e.reissue) := by
  rw [Entry.completed, Entry.counted_write write, Entry.finished]
  by_cases last : e.committed + length = e.count
  · simp [running, write, Entry.complete, last, Entry.ended]
  · simp [running, write, Entry.complete, last]

/-- A GOOD segment of a read, or of an entry in ENDING, ends nothing (R122). -/
theorem Entry.completed_good_of_not_finished (unfinished : e.op = .read ∨ e.phase ≠ .running) (offset length done : Nat) :
    e.completed offset length .good done = e.counted length := by
  refine if_neg fun ends => ?_
  obtain ⟨running, other, _⟩ := ends
  exact unfinished.elim (by simpa using other) (· (by simpa using running))

/-- PARTIAL with progress: the undone part returns (R123). -/
theorem Entry.completed_partial {offset length done : Nat} (running : e.phase = .running) (progress : 0 < done)
    (short : done < length) :
    let x := e.completed offset length .partialDone done
    x.issued = e.issued - (length - done) ∧ x.phase = .running ∧ x.reissue = e.reissue ∧
      { offset := offset + done, length := length - done } ∈ x.returned := by
  simp [Entry.completed, Entry.undone, running, progress.ne', Nat.sub_ne_zero_of_lt short, mem_insertRun]

/-- PARTIAL without progress, below the fourth time: the whole segment returns, and the count rises (R124). -/
theorem Entry.completed_stalled {offset length : Nat} (running : e.phase = .running) (nonempty : 0 < length)
    (below : e.reissue < 3) :
    let x := e.completed offset length .partialDone 0
    x.issued = e.issued - length ∧ x.phase = .running ∧ x.reissue = e.reissue + 1 ∧
      { offset := offset, length := length } ∈ x.returned := by
  simp [Entry.completed, Entry.undone, Entry.stalled, running, nonempty.ne', below, mem_insertRun]

/-- The fourth time without progress ends the entry DRIVE_STALL (R124). -/
theorem Entry.completed_driveStall {offset length : Nat} (running : e.phase = .running) (undecided : e.endStatus = none)
    (nonempty : 0 < length) (reached : e.reissue = 3) :
    let x := e.completed offset length .partialDone 0
    x.phase = .ending ∧ x.endStatus = some .driveStall ∧ x.returned = [] := by
  simp [Entry.completed, Entry.undone, Entry.stalled, Entry.decided, Entry.ended, running, nonempty.ne', reached, undecided]

theorem Entry.undone_of_ending {offset length : Nat} (ending : e.phase = .ending) :
    e.undone offset length = { e with issued := e.issued - length } := by
  unfold Entry.undone
  split
  · next none => rw [none, Nat.sub_zero]
  · simp [ending]

/-- MEDIA ends the entry MEDIA_ERROR, and its undone part is not returned (R123, R125). -/
theorem Entry.completed_media {offset length done : Nat} (undecided : e.endStatus = none) :
    let x := e.completed offset length .media done
    x.issued = e.issued - (length - done) ∧ x.phase = .ending ∧ x.endStatus = some .mediaError ∧ x.returned = [] := by
  have decided : e.decided .mediaError = e.ended .mediaError := if_neg (by simp [undecided])
  have ending : ((e.ended .mediaError).counted done).phase = .ending := by simp [Entry.ended]
  rw [Entry.completed, decided, Entry.undone_of_ending ending]
  simp [Entry.ended]

/-- An entry in ENDING keeps its end and its returned ranges (R122, R123). -/
theorem Entry.completed_ending {offset length done : Nat} {cls : CompletionClass} {status : EndStatus}
    (ending : e.phase = .ending) (held : e.endStatus = some status) (other : cls ≠ .good) :
    let x := e.completed offset length cls done
    x.issued = e.issued - (length - done) ∧ x.phase = .ending ∧ x.endStatus = some status ∧ x.returned = e.returned := by
  have kept (st : EndStatus) {y : Entry} (heldY : y.endStatus = some status) : y.decided st = y :=
    if_pos (by simp [heldY])
  have counted : (e.counted done).phase = .ending := by simp [ending]
  cases cls with
  | good => exact absurd rfl other
  | partialDone =>
    rw [Entry.completed, Entry.undone_of_ending counted]
    dsimp only
    split
    · unfold Entry.stalled
      split
      · simp [ending, held]
      · rw [kept _ (by simpa using held)]
        simp [ending, held]
    · simp [ending, held]
  | media =>
    rw [Entry.completed, kept _ held, Entry.undone_of_ending counted]
    simp [ending, held]

/-! ## A FLUSH (R168) -/

theorem Entry.flushed_good (flush : e.op = .flush) (running : e.phase = .running) :
    (e.flushed .good).flushDone = true ∧ (e.flushed .good).phase = .ending ∧ (e.flushed .good).endStatus = some .ok := by
  simp [Entry.flushed, Entry.finished, flush, running, Entry.complete, Entry.ended]

theorem Entry.flushed_stalled (running : e.phase = .running) (below : e.reissue < 3) :
    (e.flushed .partialDone).phase = .running ∧ (e.flushed .partialDone).reissue = e.reissue + 1 ∧
      (e.flushed .partialDone).flushDone = e.flushDone := by
  simp [Entry.flushed, Entry.stalled, running, below]

theorem Entry.flushed_driveStall (undecided : e.endStatus = none) (reached : e.reissue = 3) :
    (e.flushed .partialDone).phase = .ending ∧ (e.flushed .partialDone).endStatus = some .driveStall := by
  simp [Entry.flushed, Entry.stalled, Entry.decided, Entry.ended, undecided, reached]

theorem Entry.flushed_media (undecided : e.endStatus = none) :
    (e.flushed .media).phase = .ending ∧ (e.flushed .media).endStatus = some .mediaError ∧
      (e.flushed .media).flushDone = e.flushDone := by
  simp [Entry.flushed, Entry.decided, Entry.ended, undecided]

theorem Entry.decided_outstanding (st : EndStatus) (e : Entry) : (e.decided st).outstanding = e.outstanding := by
  unfold Entry.decided
  split <;> rfl

/-- A FLUSH issues nothing at its completion. -/
theorem Entry.flushed_outstanding (cls : CompletionClass) (e : Entry) : (e.flushed cls).outstanding = e.outstanding := by
  cases cls with
  | good =>
    unfold Entry.flushed Entry.finished
    dsimp only
    split <;> rfl
  | partialDone =>
    unfold Entry.flushed Entry.stalled
    dsimp only
    split
    · rfl
    · exact e.decided_outstanding _
  | media => exact e.decided_outstanding _

end

end Sys2Proof.Machine
end

section
/-! The pages and the cells of a read at a completion (R117, R122, R123, R125, R147), and what each class of completion
counts (R115 to R117, R122 to R126, R168). -/

namespace Sys2Proof.Machine

set_option Elab.async false

/-! ## Blocks placed into pages -/

theorem readBytes_congr {m m' : Memory} {n a : Nat} (same : ∀ b, a ≤ b → b < a + n → readByte m b = readByte m' b) :
    readBytes m n a = readBytes m' n a := by
  induction n generalizing a with
  | zero => rfl
  | succ n ih =>
    rw [readBytes, readBytes, same a le_rfl (by omega), ih fun b low high => same b (by omega) (by omega)]

theorem readPage_congr {m m' : Memory} {page : Nat} (wf : memoryWf m = true) (wf' : memoryWf m' = true)
    (same : ∀ a, pageBase page ≤ a → a < pageBase page + 4096 → readByte m a = readByte m' a) :
    readPage m page = readPage m' page := by
  rw [readPage_eq_readBytes page wf, readPage_eq_readBytes page wf']
  exact readBytes_congr same

/-- Two pages have no cell in common. -/
theorem pages_disjoint {m n a : Nat} (other : m ≠ n) (inside : pageBase m ≤ a ∧ a < pageBase m + 4096) :
    ¬(pageBase n ≤ a ∧ a < pageBase n + 4096) := by
  simp only [pageBase, Config.blockBytes] at *
  omega

/-- No two records of allocated pages have one number (R137). -/
def UniquePages (s : State) : Prop :=
  ∀ x ∈ s.stb.pages, ∀ y ∈ s.stb.pages, x.number = y.number → x = y

theorem PagesInv.unique {s : State} (h : PagesInv s) : UniquePages s := by
  obtain ⟨rising, _⟩ := h
  have nodup : (s.stb.pages.map PageRecord.number).Nodup := List.pairwise_map.2 (rising.imp Nat.ne_of_lt)
  exact fun x hx y hy => List.inj_on_of_nodup_map nodup hx hy

section
variable {slot : Nat} {s : State}

/-- The step of `placeBlocks`: the first block into the page of its offset, where there is one. -/
theorem placeBlocks_cons (offset : Nat) (b : List Byte) (rest : List (List Byte)) (s : State) :
    (∃ r, s.pageAt slot offset = some r ∧ placeBlocks slot offset (b :: rest) s =
      placeBlocks slot (offset + 1) rest { s with mem := fillPage s.mem r.number b }) ∨
      (s.pageAt slot offset = none ∧ placeBlocks slot offset (b :: rest) s = placeBlocks slot (offset + 1) rest s) := by
  rw [placeBlocks]
  cases found : s.pageAt slot offset with
  | none => exact .inr ⟨rfl, rfl⟩
  | some r => exact .inl ⟨r, rfl, rfl⟩

theorem placeBlocks_memoryWf {offset : Nat} {l : List (List Byte)} (wf : memoryWf s.mem = true) :
    memoryWf (placeBlocks slot offset l s).mem = true := by
  induction l generalizing offset s with
  | nil => exact wf
  | cons b rest ih =>
    rcases placeBlocks_cons (slot := slot) offset b rest s with ⟨r, _, step⟩ | ⟨_, step⟩ <;> rw [step]
    · exact ih (s := { s with mem := fillPage s.mem r.number b }) (memoryWf_fillPage _ _ wf)
    · exact ih wf

/-- A cell outside the pages of the run is left as it is. -/
theorem placeBlocks_outside {offset a : Nat} {l : List (List Byte)}
    (outside : ∀ i r, i < l.length → s.pageAt slot (offset + i) = some r →
      ¬(pageBase r.number ≤ a ∧ a < pageBase r.number + 4096)) :
    readByte (placeBlocks slot offset l s).mem a = readByte s.mem a := by
  induction l generalizing offset s with
  | nil => rfl
  | cons b rest ih =>
    have later (i : Nat) (r : PageRecord) (hi : i < rest.length) (found : s.pageAt slot (offset + 1 + i) = some r) :
        ¬(pageBase r.number ≤ a ∧ a < pageBase r.number + 4096) :=
      outside (i + 1) r (Nat.succ_lt_succ hi) (by rwa [Nat.add_assoc, Nat.add_comm 1] at found)
    rcases placeBlocks_cons (slot := slot) offset b rest s with ⟨r, found, step⟩ | ⟨_, step⟩ <;> rw [step]
    · rw [ih (s := { s with mem := fillPage s.mem r.number b }) later, readByte_fillPage]
      exact if_neg (outside 0 r (Nat.succ_pos _) found)
    · exact ih later

/-- Each page of the run holds its block. -/
theorem readPage_placeBlocks {offset : Nat} {l : List (List Byte)} (unique : UniquePages s) (wf : memoryWf s.mem = true)
    {i : Nat} {r : PageRecord} {b : List Byte} (block : l[i]? = some b) (found : s.pageAt slot (offset + i) = some r)
    (length : b.length = 4096) : readPage (placeBlocks slot offset l s).mem r.number = b := by
  induction l generalizing offset i s with
  | nil => simp at block
  | cons c rest ih =>
    cases i with
    | zero =>
      obtain rfl : c = b := by simpa using block
      rcases placeBlocks_cons (slot := slot) offset c rest s with ⟨r', found', step⟩ | ⟨none, _⟩
      · obtain rfl : r' = r := Option.some.inj (found'.symm.trans found)
        rw [step]
        have filled : memoryWf (fillPage s.mem r'.number c) = true := memoryWf_fillPage _ _ wf
        let u : State := { s with mem := fillPage s.mem r'.number c }
        refine (readPage_congr (placeBlocks_memoryWf (s := u) filled) filled fun a low high => ?_).trans
          (readPage_fillPage r'.number c wf length)
        refine placeBlocks_outside (s := u) fun j y _ there => ?_
        obtain ⟨memberR, _, offsetR⟩ := pageAt_eq_some found'
        obtain ⟨memberY, _, offsetY⟩ := pageAt_eq_some (s := s) there
        refine pages_disjoint (fun same => ?_) ⟨low, high⟩
        obtain rfl := unique r' memberR y memberY same
        omega
      · rw [Nat.add_zero, none] at found
        cases found
    | succ i =>
      have there : s.pageAt slot (offset + 1 + i) = some r := by rwa [Nat.add_assoc, Nat.add_comm 1]
      rcases placeBlocks_cons (slot := slot) offset c rest s with ⟨r', _, step⟩ | ⟨_, step⟩ <;> rw [step]
      · exact ih (s := { s with mem := fillPage s.mem r'.number c }) unique (memoryWf_fillPage _ _ wf)
          (by simpa using block) there
      · exact ih unique wf (by simpa using block) there

end

theorem firstBlocks_length (n : Nat) (l : List (List Byte)) : (firstBlocks n l).length = n := by
  induction n generalizing l with
  | zero => rfl
  | succ n ih => cases l <;> simp [firstBlocks, ih]

theorem firstBlocks_getElem? {n i : Nat} {l : List (List Byte)} {b : List Byte} (inRange : i < n) (block : l[i]? = some b) :
    (firstBlocks n l)[i]? = some b := by
  induction n generalizing i l with
  | zero => omega
  | succ n ih =>
    cases l with
    | nil => simp at block
    | cons c rest =>
      cases i with
      | zero => simpa [firstBlocks] using block
      | succ i => simpa [firstBlocks] using ih (Nat.lt_of_succ_lt_succ inRange) (by simpa using block)

/-! ## Pages marked and freed -/

section
variable {slot offset length : Nat} {st : PageState} {s : State} {r : PageRecord}

theorem mem_markPages_within (hr : r ∈ s.stb.pages) (within : r.within slot offset length = true) :
    { r with state := st } ∈ (s.markPages slot offset length st).stb.pages :=
  List.mem_map.2 ⟨r, hr, if_pos within⟩

theorem mem_markPages_outside (hr : r ∈ s.stb.pages) (outside : ¬r.within slot offset length = true) :
    r ∈ (s.markPages slot offset length st).stb.pages :=
  List.mem_map.2 ⟨r, hr, if_neg outside⟩

theorem mem_freeRun : r ∈ (s.freeRun slot offset length).stb.pages ↔
    r ∈ s.stb.pages ∧ r.within slot offset length = false := by
  simp [State.freeRun, State.freeWhere]

theorem PageRecord.within_of_subrun {o n : Nat} (within : r.within slot o n = true) (low : offset ≤ o)
    (high : o + n ≤ offset + length) : r.within slot offset length = true := by
  obtain ⟨own, first, last⟩ := PageRecord.within_iff.1 within
  exact PageRecord.within_iff.2 ⟨own, low.trans first, last.trans_le high⟩

/-- A page of the first blocks of a run is none of the rest. -/
theorem PageRecord.not_within_rest {n : Nat} (st : PageState) (within : r.within slot offset n = true) :
    ¬({ r with state := st } : PageRecord).within slot (offset + n) length = true := by
  rw [PageRecord.within_iff] at within ⊢
  dsimp only
  omega

end

section
variable {s : State} {e : Entry} {offset length : Nat} {r : PageRecord}

/-- The pages of the undone part of a RUNNING read are GRANTED again (R123, R147). -/
theorem returnUndone_grants (read : e.op = .read) (running : e.phase = .running) (hr : r ∈ s.stb.pages)
    (within : r.within e.slot offset length = true) :
    { r with state := .granted } ∈ (returnUndone e offset length s).stb.pages := by
  have nonempty : length ≠ 0 := by
    rw [PageRecord.within_iff] at within
    omega
  have write : ¬e.op = .write := by simp [read]
  rw [returnUndone, if_neg nonempty]
  dsimp only
  rw [if_pos running, if_neg write]
  exact mem_markPages_within (s := s.onEntry e.slot _) hr within

theorem returnUndone_keeps (hr : r ∈ s.stb.pages) (outside : ¬r.within e.slot offset length = true) :
    r ∈ (returnUndone e offset length s).stb.pages := by
  unfold returnUndone
  dsimp only
  split
  · exact hr
  · split
    · exact mem_markPages_outside (s := s.onEntry e.slot _) hr outside
    · exact mem_freeRun.2 ⟨hr, by simpa using outside⟩

/-- The pages of the undone part of an entry in ENDING are freed (R123, R125). -/
theorem returnUndone_frees (ending : e.phase = .ending) (hr : r ∈ (returnUndone e offset length s).stb.pages) :
    r.within e.slot offset length = false := by
  unfold returnUndone at hr
  dsimp only at hr
  split at hr
  · next none =>
    refine Bool.eq_false_iff.2 fun within => ?_
    rw [PageRecord.within_iff] at within
    omega
  · rw [if_neg (by simp [ending])] at hr
    exact (mem_freeRun.1 hr).2

end

/-! ## Blocks fetched -/

/-- The first blocks of a run are fetched: their pages are FETCHED and hold what the drive gave, and no other cell changes
(R122, R147). -/
def Fetches (slot offset : Nat) (blocks : List (List Byte)) (s t : State) (n : Nat) : Prop :=
  (∀ r ∈ s.stb.pages, r.within slot offset n = true → { r with state := .fetched } ∈ t.stb.pages) ∧
    (∀ i r b, i < n → s.pageAt slot (offset + i) = some r → blocks[i]? = some b → b.length = 4096 →
      readPage t.mem r.number = b) ∧
    ∀ a, (∀ i r, i < n → s.pageAt slot (offset + i) = some r →
        ¬(pageBase r.number ≤ a ∧ a < pageBase r.number + 4096)) → readByte t.mem a = readByte s.mem a

section
variable {slot offset n : Nat} {blocks : List (List Byte)} {s s' t t' : State}

theorem countDone_fetches {e : Entry} (unique : UniquePages s) (wf : memoryWf s.mem = true) (read : e.op = .read)
    (delivers : e.delivering (s.role e.origin) = true) :
    Fetches e.slot offset blocks s (countDone e offset n blocks s) n := by
  rw [countDone_delivering read delivers]
  let u := s.onEntry e.slot (fun x => { x with fetched := x.fetched + n })
  have pages : (placeBlocks e.slot offset (firstBlocks n blocks) u).stb.pages = s.stb.pages := by simp [u]
  refine ⟨fun r hr within => mem_markPages_within (pages ▸ hr) within, fun i r b inRange found block length => ?_,
    fun a outside => ?_⟩
  · exact readPage_placeBlocks (s := u) unique wf (firstBlocks_getElem? inRange block) found length
  · refine placeBlocks_outside (s := u) fun i r hi found => outside i r ?_ found
    rwa [firstBlocks_length] at hi

/-- What follows keeps the cells and the FETCHED pages. -/
theorem Fetches.later (h : Fetches slot offset blocks s t n) (mem : t'.mem = t.mem)
    (pages : ∀ r ∈ t.stb.pages, r.within slot offset n = true → r ∈ t'.stb.pages) :
    Fetches slot offset blocks s t' n := by
  obtain ⟨fetched, holds, others⟩ := h
  refine ⟨fun r hr within => pages _ (fetched r hr within) within, ?_, ?_⟩
  · rw [mem]
    exact holds
  · rw [mem]
    exact others

/-- What went before kept the cells and the pages of the run. -/
theorem Fetches.earlier (h : Fetches slot offset blocks s' t n) (mem : s'.mem = s.mem)
    (pages : ∀ r ∈ s.stb.pages, r.within slot offset n = true → r ∈ s'.stb.pages)
    (pageAt : ∀ i, i < n → s'.pageAt slot (offset + i) = s.pageAt slot (offset + i)) :
    Fetches slot offset blocks s t n := by
  obtain ⟨fetched, holds, others⟩ := h
  refine ⟨fun r hr within => fetched r (pages r hr within) within, fun i r b inRange found => ?_, fun a outside => ?_⟩
  · exact holds i r b inRange ((pageAt i inRange).trans found)
  · rw [← mem]
    exact others a fun i r inRange found => outside i r inRange ((pageAt i inRange).symm.trans found)

end

/-! ## The end of a read keeps its pages at the drive -/

section
variable {s : State} {e : Entry} {offset length : Nat}

theorem mem_endEntry_pages {st : EndStatus} {slot : Nat} {r : PageRecord} (hr : r ∈ s.stb.pages)
    (atDrive : r.state = .atDrive) : r ∈ (endEntry slot st s).stb.pages :=
  List.mem_filter.2 ⟨hr, by simp [atDrive]⟩

theorem pageAt_endEntry {st : EndStatus} {slot o : Nat}
    (atDrive : ∀ r ∈ s.stb.pages, r.within slot o 1 = true → r.state = .atDrive) :
    (endEntry slot st s).pageAt slot o = s.pageAt slot o := by
  refine (List.find?_filter ..).trans (List.find?_congr fun r hr => ?_)
  cases within : r.within slot o 1 with
  | false => simp
  | true => simp [atDrive r hr within]

end

/-! ## A read's completion, class by class -/

section
variable {s : State} {e : Entry} {offset length done : Nat} {blocks : List (List Byte)}

theorem Entry.delivering_of_running (read : e.op = .read) (running : e.phase = .running) (role : Role) :
    e.delivering role = true := by
  simp [Entry.delivering, read, running]

/-- A read of an unfenced path, not cut, goes on delivering after MEDIA_ERROR (R131). -/
theorem Entry.delivering_mediaError {role : Role} (read : e.op = .read) (unfenced : e.fencedOutcome = none)
    (cut : e.cut = false) (standing : role ≠ .fenced) : (e.ended .mediaError).delivering role = true := by
  simp [Entry.delivering, Entry.ended, read, unfenced, cut, standing]

theorem countDone_keeps {r : PageRecord} (read : e.op = .read) (delivers : e.delivering (s.role e.origin) = true)
    (hr : r ∈ s.stb.pages) (outside : ¬r.within e.slot offset done = true) :
    r ∈ (countDone e offset done blocks s).stb.pages := by
  rw [countDone_delivering read delivers]
  refine mem_markPages_outside ?_ outside
  rw [placeBlocks_stb]
  exact hr

theorem finishIfDone_of_read {k : Nat} {x : Entry} (found : s.entry? k = some x) (read : x.op = .read) :
    finishIfDone k s = s := by
  rw [finishIfDone, found]
  exact if_neg (by simp [read])

theorem completeBlocks_good_fetches (unique : UniquePages s) (wf : memoryWf s.mem = true)
    (found : s.entry? e.slot = some e) (read : e.op = .read) (running : e.phase = .running) (n : Nat) :
    Fetches e.slot offset blocks s (completeBlocks e offset length .good n blocks s) length := by
  have counted := countDone_entry? offset length blocks found rfl
  rw [completeBlocks, finishIfDone_of_read counted (by simpa using read)]
  exact countDone_fetches unique wf read (e.delivering_of_running read running _)

/-- The rest of a run after its first blocks: what is done to its pages leaves those of the first blocks alone. -/
theorem Fetches.returnUndone {t : State} (x : Entry) (h : Fetches x.slot offset blocks s t done) :
    Fetches x.slot offset blocks s (returnUndone x (offset + done) (length - done) t) done :=
  h.later (by simp) fun r hr within => returnUndone_keeps hr (r.not_within_rest r.state within)

theorem completeBlocks_partial (progress : 0 < done) :
    completeBlocks e offset length .partialDone done blocks s =
      Machine.returnUndone e (offset + done) (length - done) (countDone e offset done blocks s) :=
  if_neg progress.ne'

theorem completeBlocks_partial_fetches (unique : UniquePages s) (wf : memoryWf s.mem = true) (read : e.op = .read)
    (running : e.phase = .running) (progress : 0 < done) :
    Fetches e.slot offset blocks s (completeBlocks e offset length .partialDone done blocks s) done := by
  rw [completeBlocks_partial progress]
  exact (countDone_fetches unique wf read (e.delivering_of_running read running _)).returnUndone e

/-- The undone pages of a RUNNING read go back to GRANTED (R147). -/
theorem undone_granted (read : e.op = .read) (running : e.phase = .running) {r : PageRecord} (hr : r ∈ s.stb.pages)
    (within : r.within e.slot (offset + done) (length - done) = true) :
    { r with state := .granted } ∈
      (returnUndone e (offset + done) (length - done) (countDone e offset done blocks s)).stb.pages := by
  refine returnUndone_grants read running (countDone_keeps read (e.delivering_of_running read running _) hr ?_) within
  rw [PageRecord.within_iff] at within ⊢
  omega

/-- Without progress nothing is placed into the pages. -/
theorem completeBlocks_zero_mem (read : e.op = .read) (running : e.phase = .running) :
    (completeBlocks e offset length .partialDone 0 blocks s).mem = s.mem := by
  have kept : (countDone e offset 0 blocks s).mem = s.mem := by
    rw [countDone_delivering read (e.delivering_of_running read running _)]
    rfl
  rw [← kept]
  simp [completeBlocks]

theorem completeBlocks_stalled_stb (found : s.entry? e.slot = some e) (below : e.reissue < 3)
    (running : e.phase = .running) :
    (completeBlocks e offset length .partialDone 0 blocks s).stb =
      (returnUndone e (offset + 0) (length - 0) (countDone e offset 0 blocks s)).stb := by
  have returned := returnUndone_entry? (offset + 0) (length - 0) (countDone_entry? offset 0 blocks found rfl)
    (by simp)
  have same : ((e.counted 0).undone (offset + 0) (length - 0)).reissue = e.reissue := by
    by_cases none : length = 0 <;> simp [Entry.undone, none, running]
  unfold completeBlocks
  dsimp only
  rw [if_pos rfl, countZeroProgress_of_lt returned (by rwa [same])]
  rfl

/-- MEDIA for a read that goes on delivering: its end is decided first (R125). -/
theorem completeBlocks_media (found : s.entry? e.slot = some e) (undecided : e.endStatus = none) :
    completeBlocks e offset length .media done blocks s =
      returnUndone (e.ended .mediaError) (offset + done) (length - done)
        (countDone (e.ended .mediaError) offset done blocks (endEntry e.slot .mediaError s)) := by
  unfold completeBlocks
  dsimp only
  rw [decideEnd_of_none _ found undecided, entry?_endEntry_same _ found]

theorem completeBlocks_media_fetches (unique : UniquePages s) (wf : memoryWf s.mem = true)
    (found : s.entry? e.slot = some e) (undecided : e.endStatus = none) (read : e.op = .read)
    (delivers : (e.ended .mediaError).delivering (s.role e.origin) = true) (short : done ≤ length)
    (atDrive : ∀ r ∈ s.stb.pages, r.within e.slot offset length = true → r.state = .atDrive) :
    Fetches e.slot offset blocks s (completeBlocks e offset length .media done blocks s) done := by
  let ended := endEntry e.slot .mediaError s
  have kept : ∀ r ∈ ended.stb.pages, r ∈ s.stb.pages := fun r hr => (List.mem_filter.1 hr).1
  have fetched : Fetches e.slot offset blocks ended (countDone (e.ended .mediaError) offset done blocks ended) done :=
    countDone_fetches (e := e.ended .mediaError) (fun x hx y hy => unique x (kept x hx) y (kept y hy))
      (by simpa [ended] using wf) read (by simpa [ended, State.role, Entry.ended] using delivers)
  rw [completeBlocks_media found undecided]
  refine (fetched.returnUndone (e.ended .mediaError)).earlier (by simp [ended]) (fun r hr within => ?_) fun i inRange => ?_
  · exact mem_endEntry_pages hr (atDrive r hr (PageRecord.within_of_subrun within le_rfl (by omega)))
  · exact pageAt_endEntry fun r hr within => atDrive r hr (PageRecord.within_of_subrun within (by omega) (by omega))

theorem completeBlocks_media_frees (found : s.entry? e.slot = some e) (undecided : e.endStatus = none) {r : PageRecord}
    (hr : r ∈ (completeBlocks e offset length .media done blocks s).stb.pages) :
    r.within e.slot (offset + done) (length - done) = false := by
  rw [completeBlocks_media found undecided] at hr
  exact returnUndone_frees (e := e.ended .mediaError) rfl hr

end

/-- The pages of the undone part of a run are GRANTED again (R147). -/
def Regrants (slot offset length : Nat) (s t : State) (n : Nat) : Prop :=
  ∀ r ∈ s.stb.pages, r.within slot (offset + n) (length - n) = true → { r with state := .granted } ∈ t.stb.pages

section
variable {s : State} {e : Entry} (k : Nat) {offset length done : Nat} (blocks : List (List Byte))

/-- A completion for a RUNNING read of the table, from a state with sound pages. -/
structure ReadCompletion (s : State) (e : Entry) : Prop where
  found : s.entry? e.slot = some e
  unique : UniquePages s
  wf : memoryWf s.mem = true
  read : e.op = .read
  running : e.phase = .running
  undecided : e.endStatus = none

namespace ReadCompletion

/-- The segment is off the outstanding list first; the rest of the completion starts from there. -/
theorem retired (h : ReadCompletion s e) : ReadCompletion (dropOutstanding e.slot k s) (e.retired k) :=
  ⟨dropOutstanding_entry? k h.found, h.unique, h.wf, h.read, h.running, h.undecided⟩

theorem ranged (h : ReadCompletion s e) : e.op ≠ .flush := by
  simp [h.read]

theorem made (h : ReadCompletion s e) (cls : CompletionClass) (n : Nat) :
    takeCompletion e.slot k offset length cls n blocks s =
      completeBlocks (e.retired k) offset length cls n blocks (dropOutstanding e.slot k s) :=
  takeCompletion_ranged k offset length cls n blocks h.found h.ranged

theorem leaves (h : ReadCompletion s e) (cls : CompletionClass) (n : Nat) :
    (takeCompletion e.slot k offset length cls n blocks s).entry? e.slot =
      some ((e.retired k).completed offset length cls n) :=
  takeCompletion_entry? k offset length cls n blocks h.found h.ranged

theorem counts (h : ReadCompletion s e) (cls : CompletionClass) (n : Nat) :
    ((e.retired k).completed offset length cls n).fetched = e.fetched + cls.blocksDone length n :=
  (e.retired k).completed_fetched h.read offset length cls n

theorem good (h : ReadCompletion s e) :
    let t := takeCompletion e.slot k offset length .good length blocks s
    ∃ x, t.entry? e.slot = some x ∧ x.fetched = e.fetched + length ∧ x.issued = e.issued ∧ x.phase = .running ∧
      x.returned = e.returned ∧ x.reissue = e.reissue ∧ Fetches e.slot offset blocks s t length := by
  have counted := (e.retired k).completed_good_of_not_finished (.inl h.read) offset length length
  refine ⟨_, h.leaves k blocks _ _, h.counts k .good _, ?_, ?_, ?_, ?_, ?_⟩
  case refine_5 =>
    rw [h.made]
    obtain ⟨found, unique, wf, read, running, _⟩ := h.retired k
    exact completeBlocks_good_fetches unique wf found read running length
  all_goals
    rw [counted]
    simp [Entry.retired, h.running]

theorem partialDone (h : ReadCompletion s e) (progress : 0 < done) (part : done < length) :
    let t := takeCompletion e.slot k offset length .partialDone done blocks s
    ∃ x, t.entry? e.slot = some x ∧ x.fetched = e.fetched + done ∧ x.issued = e.issued - (length - done) ∧
      x.phase = .running ∧ x.reissue = e.reissue ∧ { offset := offset + done, length := length - done } ∈ x.returned ∧
      Fetches e.slot offset blocks s t done ∧ Regrants e.slot offset length s t done := by
  obtain ⟨_, unique, wf, read, running, _⟩ := h.retired k
  obtain ⟨issued, phase, reissue, returned⟩ := Entry.completed_partial (offset := offset) running progress part
  refine ⟨_, h.leaves k blocks _ _, h.counts k .partialDone _, issued, phase, reissue, returned, ?_, ?_⟩ <;> rw [h.made]
  · exact completeBlocks_partial_fetches unique wf read running progress
  · rw [completeBlocks_partial progress]
    exact fun r hr => undone_granted (e := e.retired k) (s := dropOutstanding e.slot k s) read running hr

theorem stalled (h : ReadCompletion s e) (nonempty : 0 < length) (below : e.reissue < 3) :
    let t := takeCompletion e.slot k offset length .partialDone 0 blocks s
    ∃ x, t.entry? e.slot = some x ∧ x.fetched = e.fetched ∧ x.issued = e.issued - length ∧ x.phase = .running ∧
      x.reissue = e.reissue + 1 ∧ { offset := offset, length := length } ∈ x.returned ∧
      Regrants e.slot offset length s t 0 ∧ t.mem = s.mem := by
  obtain ⟨found, _, _, read, running, _⟩ := h.retired k
  obtain ⟨issued, phase, reissue, returned⟩ := Entry.completed_stalled (offset := offset) running nonempty below
  refine ⟨_, h.leaves k blocks _ _, h.counts k .partialDone _, issued, phase, reissue, returned, ?_, ?_⟩ <;> rw [h.made]
  · rw [Regrants, completeBlocks_stalled_stb found below running]
    exact fun r hr => undone_granted (e := e.retired k) (s := dropOutstanding e.slot k s) read running hr
  · exact completeBlocks_zero_mem read running

theorem driveStall (h : ReadCompletion s e) (nonempty : 0 < length) (reached : e.reissue = 3) :
    let t := takeCompletion e.slot k offset length .partialDone 0 blocks s
    ∃ x, t.entry? e.slot = some x ∧ x.fetched = e.fetched ∧ x.phase = .ending ∧ x.endStatus = some .driveStall ∧
      x.returned = [] ∧ t.mem = s.mem := by
  obtain ⟨_, _, _, read, running, undecided⟩ := h.retired k
  obtain ⟨phase, ended, returned⟩ := Entry.completed_driveStall (offset := offset) running undecided nonempty reached
  refine ⟨_, h.leaves k blocks _ _, h.counts k .partialDone _, phase, ended, returned, ?_⟩
  rw [h.made]
  exact completeBlocks_zero_mem read running

theorem media (h : ReadCompletion s e) (short : done ≤ length)
    (atDrive : ∀ r ∈ s.stb.pages, r.within e.slot offset length = true → r.state = .atDrive)
    (unfenced : e.fencedOutcome = none) (cut : e.cut = false) (standing : s.role e.origin ≠ .fenced) :
    let t := takeCompletion e.slot k offset length .media done blocks s
    ∃ x, t.entry? e.slot = some x ∧ x.fetched = e.fetched + done ∧ x.issued = e.issued - (length - done) ∧
      x.phase = .ending ∧ x.endStatus = some .mediaError ∧ x.returned = [] ∧ Fetches e.slot offset blocks s t done ∧
      ∀ r ∈ t.stb.pages, r.within e.slot (offset + done) (length - done) = false := by
  obtain ⟨found, unique, wf, read, _, undecided⟩ := h.retired k
  obtain ⟨issued, phase, ended, returned⟩ :=
    Entry.completed_media (offset := offset) (length := length) (done := done) undecided
  have delivers := Entry.delivering_mediaError (e := e.retired k) read unfenced cut standing
  refine ⟨_, h.leaves k blocks _ _, h.counts k .media _, issued, phase, ended, returned, ?_, ?_⟩ <;> rw [h.made]
  · exact completeBlocks_media_fetches (e := e.retired k) unique wf found undecided read delivers short atDrive
  · exact fun r hr => completeBlocks_media_frees (e := e.retired k) found undecided hr

end ReadCompletion

end

/-! ## The statement -/

/-- Settles O53: a completion changes its entry as `Entry.completed` or `Entry.flushed` says, and the pages and cells of a
read as `Fetches` says. -/
theorem writeCompletionCounted : Obligations.WriteCompletionCounted := by
  refine ⟨fun s e k offset length done blocks table he write _ _ nonempty _ _ => ?_,
    fun s e k offset length done blocks table pages wf he read running undecided short _ nonempty atDrive => ?_,
    fun s e k n table he flush running undecided => ?_⟩
  · intro after
    have found := entry?_of_mem table.slotsDistinct he
    have leaves (cls : CompletionClass) (n : Nat) : after cls n = some ((e.retired k).completed offset length cls n) :=
      takeCompletion_entry? k offset length cls n blocks found (by simp [write])
    have counts (cls : CompletionClass) (n : Nat) := (e.retired k).completed_committed write offset length cls n
    refine ⟨fun cls n x ordered there => ?_,
      fun running undecided => ⟨?_, fun progress part => ?_, fun below => ?_, fun reached => ?_, ?_⟩,
      fun ending status held => ⟨?_, fun cls other => ?_⟩⟩
    · obtain rfl := Option.some.inj ((leaves cls n).symm.trans there)
      exact RangesOrdered.completed (e := e.retired k) ordered offset length cls n
    · exact ⟨_, leaves _ _, counts .good _, (e.retired k).completed_good_write write running _ _ _⟩
    · exact ⟨_, leaves _ _, counts .partialDone _, Entry.completed_partial (e := e.retired k) running progress part⟩
    · exact ⟨_, leaves _ _, counts .partialDone _, Entry.completed_stalled (e := e.retired k) running nonempty below⟩
    · obtain ⟨phase, ended, returned⟩ :=
        Entry.completed_driveStall (e := e.retired k) (offset := offset) running undecided nonempty reached
      exact ⟨_, leaves _ _, phase, ended, returned, counts .partialDone _⟩
    · exact ⟨_, leaves _ _, counts .media _, Entry.completed_media (e := e.retired k) undecided⟩
    · have counted := (e.retired k).completed_good_of_not_finished
        (.inr (by simp [Entry.retired, ending])) offset length length
      refine ⟨_, leaves _ _, counts .good _, ?_⟩
      rw [counted]
      simp [Entry.retired, ending, held]
    · have committed := counts cls done
      rw [CompletionClass.blocksDone_of_ne_good other] at committed
      exact ⟨_, leaves _ _, committed, Entry.completed_ending (e := e.retired k) ending held other⟩
  · intro after fetches grants
    have h : ReadCompletion s e := ⟨entry?_of_mem table.slotsDistinct he, pages.unique, wf, read, running, undecided⟩
    refine ⟨fun cls n x ordered left => ?_, h.good k blocks, h.partialDone k blocks, h.stalled k blocks nonempty,
      h.driveStall k blocks nonempty, h.media k blocks short atDrive⟩
    obtain rfl := Option.some.inj ((h.leaves k blocks cls n).symm.trans left)
    exact RangesOrdered.completed (e := e.retired k) ordered offset length cls n
  · intro after
    have found := entry?_of_mem table.slotsDistinct he
    have leaves (cls : CompletionClass) : after cls = some ((e.retired k).flushed cls) :=
      takeCompletion_flush_entry? k 0 0 cls n [] found flush
    refine ⟨⟨_, leaves _, Entry.flushed_good (e := e.retired k) flush running⟩,
      fun below => ⟨_, leaves _, Entry.flushed_stalled (e := e.retired k) running below⟩,
      fun reached => ⟨_, leaves _, Entry.flushed_driveStall (e := e.retired k) undecided reached⟩,
      ⟨_, leaves _, Entry.flushed_media (e := e.retired k) undecided⟩, fun cls x left g hg => ?_⟩
    obtain rfl := Option.some.inj ((leaves cls).symm.trans left)
    rw [Entry.flushed_outstanding] at hg
    simpa using (List.mem_filter.1 hg).2

end Sys2Proof.Machine
end

section
/-! The staging buffer: what one change of the cells, the pages or the table keeps of the canonical form and of the pages
(R137, R138). -/

namespace Sys2Proof.Machine

set_option Elab.async false

/-! ## The pages and the slots of the table -/

/-- The allocated pages as a list by rising number, each below 255, with every slot they name among those of the table. -/
structure PagesSound (pages : List PageRecord) (slots : List Nat) : Prop where
  rising : pages.Pairwise (fun x y => x.number < y.number)
  range : ∀ r ∈ pages, r.number < Config.pathPages
  owned : ∀ r ∈ pages, ∀ k, r.slot = some k → k ∈ slots

theorem entry?_isSome_iff (s : State) (k : Nat) : (s.entry? k).isSome = true ↔ k ∈ s.ift.map Entry.slot := by
  simp [State.entry?]

theorem pagesInv_iff (s : State) : PagesInv s ↔ PagesSound s.stb.pages (s.ift.map Entry.slot) := by
  unfold PagesInv
  simp only [entry?_isSome_iff]
  exact ⟨fun ⟨rising, each⟩ => ⟨rising, fun r hr => (each r hr).1, fun r hr => (each r hr).2⟩,
    fun h => ⟨h.rising, fun r hr => ⟨h.range r hr, h.owned r hr⟩⟩⟩

section
variable {pages : List PageRecord} {slots : List Nat}

theorem PagesSound.of_subset {slots' : List Nat} (h : PagesSound pages slots) (sub : slots ⊆ slots') :
    PagesSound pages slots' :=
  ⟨h.rising, h.range, fun r hr k own => sub (h.owned r hr k own)⟩

theorem PagesSound.sublist {pages' : List PageRecord} (h : PagesSound pages slots) (sub : pages'.Sublist pages) :
    PagesSound pages' slots :=
  ⟨h.rising.sublist sub, fun r hr => h.range r (sub.subset hr), fun r hr => h.owned r (sub.subset hr)⟩

/-- Pages whose records change keep their numbers, and belong to the same entry as before or to none. -/
theorem PagesSound.map {f : PageRecord → PageRecord} (h : PagesSound pages slots) (number : ∀ r, (f r).number = r.number)
    (slot : ∀ r k, (f r).slot = some k → r.slot = some k) : PagesSound (pages.map f) slots where
  rising := List.pairwise_map.2 (h.rising.imp fun {x y} lt => by rwa [number x, number y])
  range r hr := by
    obtain ⟨x, hx, rfl⟩ := List.mem_map.1 hr
    rw [number x]
    exact h.range x hx
  owned r hr k own := by
    obtain ⟨x, hx, rfl⟩ := List.mem_map.1 hr
    exact h.owned x hx k (slot x k own)

theorem insertPage_rising {r : PageRecord} (h : pages.Pairwise (fun x y => x.number < y.number))
    (free : ∀ x ∈ pages, x.number ≠ r.number) :
    (insertPage r pages).Pairwise (fun x y => x.number < y.number) := by
  induction pages with
  | nil => exact List.pairwise_singleton ..
  | cons x rest ih =>
    obtain ⟨above, rising⟩ := List.pairwise_cons.1 h
    unfold insertPage
    split
    · next below => exact List.pairwise_cons.2 ⟨List.forall_mem_cons.2 ⟨below, fun y hy => below.trans (above y hy)⟩, h⟩
    · next notBelow =>
      refine List.pairwise_cons.2 ⟨fun y hy => ?_, ih rising fun y hy => free y (List.mem_cons_of_mem x hy)⟩
      rcases mem_insertPage hy with rfl | old
      · have other := free x (List.mem_cons_self ..)
        omega
      · exact above y old

/-- A page that was free is allocated to an entry of the table. -/
theorem PagesSound.insert {r : PageRecord} (h : PagesSound pages slots) (free : ∀ x ∈ pages, x.number ≠ r.number)
    (range : r.number < Config.pathPages) (owned : ∀ k, r.slot = some k → k ∈ slots) :
    PagesSound (insertPage r pages) slots where
  rising := insertPage_rising h.rising free
  range x hx := (mem_insertPage hx).elim (· ▸ range) (h.range x)
  owned x hx := (mem_insertPage hx).elim (· ▸ owned) (h.owned x)

end

/-! ## Free pages and occupancies (R137, R139) -/

theorem mem_freePages {s : State} {n : Nat} :
    n ∈ s.freePages ↔ n < Config.pathPages ∧ ∀ r ∈ s.stb.pages, r.number ≠ n := by
  simp [State.freePages]

theorem freePages_nodup (s : State) : s.freePages.Nodup :=
  List.nodup_range.filter _

/-- Every page numbered 0 to 254 is free or allocated, and an allocated one is counted in the occupancy of one path. -/
theorem PagesInv.pages_counted {s : State} (h : PagesInv s) :
    s.occupancy .a + s.occupancy .b + s.freePages.length = Config.pathPages := by
  have sound := (pagesInv_iff s).1 h
  have allocated : s.occupancy .a + s.occupancy .b = s.stb.pages.length := by
    have other (r : PageRecord) : (r.path == .b) = !(r.path == .a) := by cases r.path <;> rfl
    simp only [State.occupancy, other]
    exact (List.length_eq_length_filter_add _).symm
  have numbers : (s.stb.pages.map PageRecord.number).Nodup :=
    List.pairwise_map.2 (sound.rising.imp fun lt => lt.ne)
  have disjoint : (s.stb.pages.map PageRecord.number).Disjoint s.freePages := fun n taken free => by
    obtain ⟨r, hr, rfl⟩ := List.mem_map.1 taken
    exact (mem_freePages.1 free).2 r hr rfl
  have all : (s.stb.pages.map PageRecord.number ++ s.freePages).Perm (List.range Config.pathPages) := by
    refine (List.perm_ext_iff_of_nodup (numbers.append (freePages_nodup s) disjoint) List.nodup_range).2 fun n => ?_
    rw [List.mem_append, List.mem_map, mem_freePages, List.mem_range]
    refine ⟨?_, fun range => ?_⟩
    · rintro (⟨r, hr, rfl⟩ | ⟨range, _⟩)
      · exact sound.range r hr
      · exact range
    · by_cases taken : ∃ r ∈ s.stb.pages, r.number = n
      · exact .inl taken
      · exact .inr ⟨range, fun r hr same => taken ⟨r, hr, same⟩⟩
  rw [allocated]
  simpa using all.length_eq

/-! ## Keeping the buffer -/

/-- Going from `s` to `t` the canonical form of the cells is kept, and so is what is asked of the pages. -/
structure KeepsBuffer (s t : State) : Prop where
  mem : memoryWf s.mem = true → memoryWf t.mem = true
  pages : PagesInv s → PagesInv t

theorem KeepsBuffer.refl (s : State) : KeepsBuffer s s :=
  ⟨id, id⟩

theorem KeepsBuffer.trans {s t u : State} (h : KeepsBuffer s t) (k : KeepsBuffer t u) : KeepsBuffer s u :=
  ⟨fun wf => k.mem (h.mem wf), fun inv => k.pages (h.pages inv)⟩

/-- A change of the pages or of the slots in the table, with the cells as they were. -/
theorem KeepsBuffer.of_pages {s t : State}
    (pages : PagesSound s.stb.pages (s.ift.map Entry.slot) → PagesSound t.stb.pages (t.ift.map Entry.slot))
    (mem : t.mem = s.mem := by simp) : KeepsBuffer s t :=
  ⟨fun wf => mem ▸ wf, fun inv => (pagesInv_iff t).2 (pages ((pagesInv_iff s).1 inv))⟩

/-- A change of the cells, with the table and the pages as they were. -/
theorem KeepsBuffer.of_mem {s t : State} (mem : memoryWf s.mem = true → memoryWf t.mem = true)
    (ift : t.ift = s.ift := by simp) (stb : t.stb = s.stb := by simp) : KeepsBuffer s t :=
  ⟨mem, fun inv => (pagesInv_iff t).2 (by rw [ift, stb]; exact (pagesInv_iff s).1 inv)⟩

/-- The buffer does not see the rest of the state. -/
theorem KeepsBuffer.of_frame {s t : State} (mem : t.mem = s.mem := by simp) (ift : t.ift = s.ift := by simp)
    (pages : t.stb.pages = s.stb.pages := by simp) : KeepsBuffer s t :=
  .of_pages (fun h => by rwa [ift, pages]) mem

/-- A change of OWC's record. -/
theorem owc_buffer (o : Owc) (s : State) : KeepsBuffer s { s with owc := o } :=
  .of_frame rfl rfl rfl

/-- A change of OWC's record after which the roles are set afresh. -/
theorem refreshRoles_buffer (o : Owc) (s : State) : KeepsBuffer s (refreshRoles { s with owc := o }) :=
  .of_frame rfl rfl rfl

theorem forSlots_buffer {op : Nat → State → State} (h : ∀ k s, KeepsBuffer s (op k s)) (l : List Nat) (s : State) :
    KeepsBuffer s (forSlots op l s) :=
  forSlots_keeps (P := KeepsBuffer s) (fun k u kept => kept.trans (h k u)) l (.refl s)

theorem onEntry_buffer {k : Nat} {f : Entry → Entry} (s : State) (slot : ∀ e, (f e).slot = e.slot := by intro; rfl) :
    KeepsBuffer s (s.onEntry k f) := by
  refine .of_pages fun sound => ?_
  have same : (s.onEntry k f).ift.map Entry.slot = s.ift.map Entry.slot := by
    rw [State.onEntry_ift, List.map_map]
    refine List.map_congr_left fun x _ => ?_
    rw [Function.comp_apply]
    split
    · exact slot x
    · rfl
  rw [same]
  exact sound

theorem freeWhere_buffer (test : PageRecord → Bool) (s : State) : KeepsBuffer s (s.freeWhere test) :=
  .of_pages fun sound => sound.sublist List.filter_sublist

theorem freeRun_buffer (slot offset length : Nat) (s : State) : KeepsBuffer s (s.freeRun slot offset length) :=
  freeWhere_buffer _ s

theorem markPages_buffer (slot offset length : Nat) (st : PageState) (s : State) :
    KeepsBuffer s (s.markPages slot offset length st) :=
  .of_pages fun sound => sound.map (fun r => by split <;> rfl) fun r k own => by
    split at own <;> exact own

theorem detachPage_buffer (page : Nat) (s : State) : KeepsBuffer s (detachPage page s) :=
  .of_pages fun sound => sound.map (fun r => by split <;> rfl) fun r k own => by
    split at own
    · cases own
    · exact own

theorem withdrawRequest_buffer (slot : Nat) (s : State) : KeepsBuffer s (withdrawRequest slot s) :=
  .of_frame rfl rfl rfl

/-- A page of the free list is allocated to an entry of the table. -/
theorem allocate_buffer {r : PageRecord} {s : State} (free : r.number ∈ s.freePages)
    (owned : ∀ k, r.slot = some k → k ∈ s.ift.map Entry.slot) : KeepsBuffer s (s.allocate r) := by
  obtain ⟨range, fresh⟩ := mem_freePages.1 free
  exact .of_pages fun sound => sound.insert fresh range owned

/-- Free pages are granted one by one to an entry of the table (R146). -/
theorem allocateRun_buffer {slot : Nat} {p : Path} {offset : Nat} {l : List Nat} {s : State} (distinct : l.Nodup)
    (free : ∀ n ∈ l, n ∈ s.freePages) (owned : slot ∈ s.ift.map Entry.slot) :
    KeepsBuffer s (allocateRun slot p offset l s) := by
  induction l generalizing offset s with
  | nil => exact .refl s
  | cons n rest ih =>
    obtain ⟨fresh, distinct⟩ := List.nodup_cons.1 distinct
    obtain ⟨freeN, freeRest⟩ := List.forall_mem_cons.1 free
    refine (allocate_buffer freeN fun k own => Option.some.inj own ▸ owned).trans (ih distinct (fun m hm => ?_) owned)
    obtain ⟨range, unused⟩ := mem_freePages.1 (freeRest m hm)
    refine mem_freePages.2 ⟨range, fun r hr => ?_⟩
    rcases mem_insertPage hr with rfl | old
    · exact fun same : n = m => fresh (same ▸ hm)
    · exact unused r old

theorem addEntry_buffer (e : Entry) (s : State) : KeepsBuffer s (addEntry e s) :=
  .of_pages fun sound => sound.of_subset (by simp [addEntry])

/-- The pages of an entry leave with it (R129). -/
theorem dropEntry_buffer (k : Nat) (s : State) : KeepsBuffer s (dropEntry k s) := by
  refine .of_pages fun sound => ⟨?_, ?_, fun r hr j own => ?_⟩
  · exact sound.rising.sublist List.filter_sublist
  · exact fun r hr => sound.range r (List.mem_filter.1 hr).1
  · obtain ⟨old, kept⟩ := List.mem_filter.1 hr
    have other : j ≠ k := fun same => by simp [own, same] at kept
    obtain ⟨e, he, rfl⟩ := List.mem_map.1 (sound.owned r old j own)
    exact List.mem_map.2 ⟨e.unblock k, List.mem_map_of_mem (List.mem_filter.2 ⟨he, by simpa using other⟩), by simp⟩

end Sys2Proof.Machine
end

section
/-! The staging buffer: grants, gifts, reports, ends and completions keep its canonical form and its pages (R137, R138). -/

namespace Sys2Proof.Machine

set_option Elab.async false

/-! ## Grants and gifts (R121, R145, R146, R162) -/

theorem makeGrant_buffer (g : GrantRequest) (s : State) : KeepsBuffer s (makeGrant g s) := by
  cases found : s.entry? g.slot with
  | none =>
    rw [makeGrant, found]
    exact withdrawRequest_buffer _ s
  | some e =>
    have owned : g.slot ∈ s.ift.map Entry.slot := (entry?_isSome_iff s _).1 (by simp [found])
    have tested (t : State) : KeepsBuffer t (testHold g.path t) := .of_frame
    rw [makeGrant_eq found]
    exact (allocateRun_buffer ((freePages_nodup s).sublist (List.take_sublist ..)) (fun _ => List.mem_of_mem_take)
      owned).trans <| (onEntry_buffer _).trans <| (withdrawRequest_buffer _ _).trans (tested _)

theorem walkFrom_buffer (l : List GrantRequest) (full : Both Bool) (s : State) : KeepsBuffer s (walkFrom l full s) := by
  induction l generalizing full s with
  | nil => exact .refl s
  | cons g rest ih =>
    unfold walkFrom
    split
    · exact ih full s
    · split
      · exact ih _ s
      · split
        · exact .refl s
        · exact (makeGrant_buffer g s).trans (ih full _)

theorem walkGrants_buffer (s : State) : KeepsBuffer s (walkGrants s) :=
  KeepsBuffer.trans (.of_frame (by simp) (placeRequests_ift s)) (walkFrom_buffer _ _ _)

theorem issueSegment_buffer (driveSlot : Nat) (e : Entry) (run : Run) (s : State) :
    KeepsBuffer s (issueSegment driveSlot e run s) := by
  have taken (holder : Holder) (request : DriveRequest) : KeepsBuffer s (s.takeSlot driveSlot holder request) :=
    .of_frame rfl rfl rfl
  exact (taken _ _).trans <| (markPages_buffer ..).trans (onEntry_buffer _ fun x => by simp)

theorem arbiterRuns_buffer (n : Nat) (s : State) : KeepsBuffer s (arbiterRuns n s) := by
  induction n generalizing s with
  | zero => exact .refl s
  | succ n ih =>
    unfold arbiterRuns
    split
    · next gift =>
      obtain ⟨_, k, e, run, _, _, _, rfl⟩ := arbiterGift_eq_some_iff.1 gift
      exact (issueSegment_buffer k e run s).trans <| (walkGrants_buffer _).trans (ih _)
    · exact .refl s

theorem runArbiter_buffer (s : State) : KeepsBuffer s (runArbiter s) :=
  arbiterRuns_buffer _ s

theorem follow_buffer (before s : State) : KeepsBuffer s (follow before s) := by
  have tested : KeepsBuffer s (testGoAfter before .b (testGoAfter before .a s)) := .of_frame
  have offered (t : State) : KeepsBuffer t (offerReadData .b (offerReadData .a t)) := .of_frame
  exact tested.trans <| (walkGrants_buffer _).trans <| (runArbiter_buffer _).trans (offered _)

/-! ## Ends and reports (R126, R128) -/

theorem endEntry_buffer (slot : Nat) (st : EndStatus) (s : State) : KeepsBuffer s (endEntry slot st s) :=
  (freeWhere_buffer _ s).trans <| (onEntry_buffer _).trans (withdrawRequest_buffer _ _)

theorem decideEnd_buffer (st : EndStatus) (slot : Nat) (s : State) : KeepsBuffer s (decideEnd st slot s) := by
  unfold decideEnd
  split
  · exact .refl s
  · split
    · exact .refl s
    · exact endEntry_buffer slot st s

theorem discardFetched_buffer (slot : Nat) (s : State) : KeepsBuffer s (discardFetched slot s) :=
  freeWhere_buffer _ s

theorem finalReply_buffer (e : Entry) (status : Status) (s : State) : KeepsBuffer s (finalReply e status s) := by
  have offered (frame : OutFrame) : KeepsBuffer s (s.offer e.origin (.iftFinal e.slot) frame) := .of_frame
  unfold finalReply
  dsimp only
  split
  · exact (offered _).trans (onEntry_buffer _)
  · exact (offered _).trans (dropEntry_buffer _ _)

theorem reportOrphan_buffer (e : Entry) (outcome : Outcome) (s : State) : KeepsBuffer s (reportOrphan e outcome s) :=
  .of_frame

theorem makeReport_buffer (e : Entry) (s : State) : KeepsBuffer s (makeReport e s) := by
  have removed (outcome : Outcome) : KeepsBuffer s (dropEntry e.slot (reportOrphan e outcome s)) :=
    (reportOrphan_buffer e outcome s).trans (dropEntry_buffer _ _)
  unfold makeReport
  split
  · exact (reportOrphan_buffer e _ s).trans <| (onEntry_buffer _).trans (finalReply_buffer _ _ _)
  · split
    · split
      · exact removed _
      · split
        · exact dropEntry_buffer _ s
        · exact removed _
    · split
      · exact removed _
      · split
        · exact finalReply_buffer _ _ s
        · exact .refl s

theorem reportSlot_buffer (slot : Nat) (s : State) : KeepsBuffer s (reportSlot slot s) := by
  unfold reportSlot
  split
  · exact .refl s
  · split
    · exact (discardFetched_buffer slot s).trans (makeReport_buffer _ _)
    · exact .refl s

theorem reportAll_buffer (s : State) : KeepsBuffer s (reportAll s) :=
  forSlots_buffer reportSlot_buffer _ s

/-! ## Commits and the end of an event (R53, R80) -/

/-- A commit writes page 255 alone (R53). -/
theorem beginCommit_buffer (purpose : Purpose) (c : Contents) (s : State) : KeepsBuffer s (beginCommit purpose c s) :=
  .of_mem fun wf => by simpa [beginCommit] using memoryWf_fillOwnershipPage c wf

theorem beginTransition_buffer (purpose : Purpose) (s : State) : KeepsBuffer s (beginTransition purpose s) := by
  unfold beginTransition
  split
  · exact owc_buffer _ s
  · exact beginCommit_buffer _ _ s

theorem beginWaiting_buffer (s : State) : KeepsBuffer s (beginWaiting s) := by
  unfold beginWaiting
  split
  · split
    · exact .refl s
    · exact beginCommit_buffer _ _ s
  · exact .refl s

theorem checkDrainEnd_buffer (s : State) : KeepsBuffer s (checkDrainEnd s) := by
  unfold checkDrainEnd
  split
  · split
    · unfold endDrain
      exact (refreshRoles_buffer _ s).trans (beginTransition_buffer _ _)
    · exact .refl s
  · exact .refl s

theorem conclude_buffer (before s : State) : KeepsBuffer s (conclude before s) :=
  (reportAll_buffer s).trans <| (checkDrainEnd_buffer _).trans (follow_buffer before _)

theorem enterWaiting_buffer (p : Path) (s : State) : KeepsBuffer s (enterWaiting p s) := by
  have entered : KeepsBuffer s (s.onPif p Pif.enterWaiting) := .of_frame
  unfold enterWaiting
  dsimp only
  split
  · exact entered.trans (dropEntry_buffer _ _)
  · exact entered

/-! ## Completions (R117, R122 to R126) -/

theorem countZeroProgress_buffer (slot : Nat) (s : State) : KeepsBuffer s (countZeroProgress slot s) := by
  unfold countZeroProgress
  split
  · exact .refl s
  · split
    · exact onEntry_buffer s
    · exact decideEnd_buffer _ slot s

theorem dropOutstanding_buffer (slot driveSlot : Nat) (s : State) : KeepsBuffer s (dropOutstanding slot driveSlot s) :=
  onEntry_buffer s

theorem placeBlocks_buffer (slot offset : Nat) (l : List (List Byte)) (s : State) :
    KeepsBuffer s (placeBlocks slot offset l s) :=
  .of_mem placeBlocks_memoryWf (placeBlocks_ift ..) (placeBlocks_stb ..)

theorem countDone_buffer (e : Entry) (offset done : Nat) (blocks : List (List Byte)) (s : State) :
    KeepsBuffer s (countDone e offset done blocks s) := by
  unfold countDone
  split
  · exact .refl s
  · exact (freeRun_buffer _ _ _ s).trans (onEntry_buffer _)
  · dsimp only
    split
    · exact (onEntry_buffer s).trans <| (placeBlocks_buffer _ _ _ _).trans (markPages_buffer _ _ _ _ _)
    · exact (onEntry_buffer s).trans (freeRun_buffer _ _ _ _)

theorem returnUndone_buffer (e : Entry) (offset length : Nat) (s : State) :
    KeepsBuffer s (returnUndone e offset length s) := by
  unfold returnUndone
  split
  · exact .refl s
  · dsimp only
    split
    · exact (onEntry_buffer s).trans <| (markPages_buffer _ _ _ _ _).trans (onEntry_buffer _)
    · exact (onEntry_buffer s).trans (freeRun_buffer _ _ _ _)

theorem finishIfDone_buffer (slot : Nat) (s : State) : KeepsBuffer s (finishIfDone slot s) := by
  unfold finishIfDone
  split
  · exact .refl s
  · split
    · exact endEntry_buffer slot _ s
    · exact .refl s

theorem completeBlocks_buffer (e : Entry) (offset length : Nat) (cls : CompletionClass) (done : Nat)
    (blocks : List (List Byte)) (s : State) : KeepsBuffer s (completeBlocks e offset length cls done blocks s) := by
  cases cls with
  | good => exact (countDone_buffer e offset length blocks s).trans (finishIfDone_buffer _ _)
  | partialDone =>
    have returned := (countDone_buffer e offset done blocks s).trans (returnUndone_buffer e (offset + done) (length - done) _)
    unfold completeBlocks
    dsimp only
    split
    · exact returned.trans (countZeroProgress_buffer _ _)
    · exact returned
  | media =>
    have ended := decideEnd_buffer .mediaError e.slot s
    unfold completeBlocks
    dsimp only
    split
    · exact ended
    · exact ended.trans <| (countDone_buffer _ _ _ _ _).trans (returnUndone_buffer _ _ _ _)

theorem completeFlush_buffer (e : Entry) (cls : CompletionClass) (s : State) : KeepsBuffer s (completeFlush e cls s) := by
  cases cls with
  | good => exact (onEntry_buffer s).trans (finishIfDone_buffer _ _)
  | partialDone => exact countZeroProgress_buffer _ s
  | media => exact decideEnd_buffer _ _ s

theorem takeCompletion_buffer (slot driveSlot offset length : Nat) (cls : CompletionClass) (done : Nat)
    (blocks : List (List Byte)) (s : State) :
    KeepsBuffer s (takeCompletion slot driveSlot offset length cls done blocks s) := by
  have dropped := dropOutstanding_buffer slot driveSlot s
  unfold takeCompletion
  dsimp only
  split
  · exact dropped
  · split
    · exact dropped.trans (completeFlush_buffer _ _ _)
    · exact dropped.trans (completeBlocks_buffer _ _ _ _ _ _ _)

/-! ## Aborts and the drive's failure (R124, R174) -/

theorem abortSegments_buffer (slot : Nat) (l : List Segment) (s : State) : KeepsBuffer s (abortSegments slot l s) := by
  induction l generalizing s with
  | nil => exact .refl s
  | cons g rest ih =>
    have dropped := dropOutstanding_buffer slot g.driveSlot s
    unfold abortSegments
    dsimp only
    split
    · exact dropped.trans (ih _)
    · exact dropped.trans <| (returnUndone_buffer _ _ _ _).trans (ih _)

theorem abortEntry_buffer (slot : Nat) (s : State) : KeepsBuffer s (abortEntry slot s) := by
  unfold abortEntry
  split
  · exact .refl s
  · split
    · exact .refl s
    · exact (abortSegments_buffer slot _ s).trans (countZeroProgress_buffer slot _)

theorem failSegments_buffer (slot : Nat) (l : List Segment) (s : State) : KeepsBuffer s (failSegments slot l s) := by
  induction l generalizing s with
  | nil => exact .refl s
  | cons g rest ih =>
    exact (dropOutstanding_buffer slot _ s).trans <| (onEntry_buffer _).trans <| (freeRun_buffer _ _ _ _).trans (ih _)

theorem failEntry_buffer (slot : Nat) (s : State) : KeepsBuffer s (failEntry slot s) := by
  unfold failEntry
  split
  · exact .refl s
  · exact (failSegments_buffer slot _ s).trans (decideEnd_buffer _ slot _)

/-! ## Fencing and drains (R71 to R78, R80) -/

theorem fenceEntry_buffer (slot : Nat) (s : State) : KeepsBuffer s (fenceEntry slot s) := by
  rcases fenceEntry_cases slot s with same | ⟨e, _, _, dropped⟩ | ⟨e, found, reported, acked⟩
  · rw [same]
    exact .refl s
  · have kept : KeepsBuffer s (s.onPif e.origin (Pif.keepReply slot)) := .of_frame
    rw [dropped]
    exact kept.trans (dropEntry_buffer slot _)
  · rw [fenceEntry_open found reported acked]
    have ended : KeepsBuffer s ((endEntry slot .fenced s).onEntry slot
        (fun x => { x with fencedOutcome := some e.fencingOutcome })) :=
      (endEntry_buffer slot _ s).trans (onEntry_buffer _)
    dsimp only
    split
    · exact ended.trans (discardFetched_buffer slot _)
    · exact ended

theorem withdrawPathReadData_buffer (p : Path) (s : State) : KeepsBuffer s (withdrawPathReadData p s) := by
  have withdrawn (t : State) : KeepsBuffer t (t.onPif p Pif.withdrawReadData) := .of_frame
  unfold withdrawPathReadData
  dsimp only
  split
  · exact (detachPage_buffer _ s).trans (withdrawn _)
  · exact withdrawn s

theorem fence_buffer (p : Path) (s : State) : KeepsBuffer s (fence p s) := by
  have answered (l : List QueuedFrame) (t : State) : KeepsBuffer t (l.foldl (answerFenced p) t) := by
    induction l generalizing t with
    | nil => exact .refl t
    | cons x rest ih => exact KeepsBuffer.trans .of_frame (ih _)
  have emptied : KeepsBuffer s ((setRole p .fenced s).onPif p Pif.emptyReceive) := .of_frame rfl rfl rfl
  exact emptied.trans <| (answered _ _).trans <| (withdrawPathReadData_buffer p _).trans <|
    (enterWaiting_buffer p _).trans <| (forSlots_buffer fenceEntry_buffer _ _).trans (reportAll_buffer _)

theorem beginFencedDrain_buffer (cause : DrainCause) (owner : Path) (s : State) :
    KeepsBuffer s (beginFencedDrain cause owner s) := by
  have timed (t : State) : KeepsBuffer t (refreshRoles (startDrainTimer t)) := .of_frame rfl rfl rfl
  unfold beginFencedDrain
  exact (owc_buffer _ s).trans <| (fence_buffer owner _).trans <| (timed _).trans (conclude_buffer s _)

theorem beginReleaseDrain_buffer (cause : DrainCause) (releaser : Path) (successor : Option Path) (s : State) :
    KeepsBuffer s (beginReleaseDrain cause releaser successor s) := by
  have recorded (o : Owc) : KeepsBuffer s (refreshRoles (startDrainTimer { s with owc := o })) := .of_frame rfl rfl rfl
  unfold beginReleaseDrain
  exact (recorded _).trans (conclude_buffer s _)

theorem ownerLost_buffer (p : Path) (s : State) : KeepsBuffer s (ownerLost p s) := by
  unfold ownerLost
  split
  · split
    · exact beginFencedDrain_buffer _ p s
    · exact refreshRoles_buffer _ s
  · exact .refl s

end Sys2Proof.Machine
end

section
/-! The staging buffer: OWC's and DPT's courses keep its canonical form and its pages (R137, R138). -/

namespace Sys2Proof.Machine

set_option Elab.async false

/-! ## Health (R25, R26, R36, R37) -/

theorem raiseIn_buffer (p : Path) (flag : Flag) (s : State) : KeepsBuffer s (raiseIn p flag s) :=
  .of_frame

theorem raiseBoth_buffer (flag : Flag) (s : State) : KeepsBuffer s (raiseBoth flag s) :=
  .of_frame

theorem reportHealth_buffer (p : Path) (old new : Health) (s : State) : KeepsBuffer s (reportHealth p old new s) := by
  unfold reportHealth
  cases new with
  | lost =>
    dsimp only
    split
    · exact (ownerLost_buffer p s).trans (raiseIn_buffer _ _ _)
    · exact ownerLost_buffer p s
  | healthy => exact .of_frame
  | doubtful => exact .of_frame

theorem reportChange_buffer (p : Path) (old : Health) (s : State) : KeepsBuffer s (reportChange p old s) := by
  unfold reportChange
  split
  · exact .refl s
  · exact reportHealth_buffer p old _ s

theorem reevaluate_buffer (p : Path) (s : State) : KeepsBuffer s (reevaluate p s) := by
  have judged : KeepsBuffer s (judgeHealth p s) := .of_frame
  exact judged.trans (reportChange_buffer p _ _)

theorem reevaluateBoth_buffer (s : State) : KeepsBuffer s (reevaluateBoth s) := by
  have judged : KeepsBuffer s (judgeHealth .b (judgeHealth .a s)) := .of_frame
  exact judged.trans <| (reportChange_buffer .a _ _).trans (reportChange_buffer .b _ _)

theorem applyScore_buffer (p : Path) (score : Nat) (s : State) : KeepsBuffer s (applyScore p score s) := by
  have scored : KeepsBuffer s (s.onHmon p (fun h => { h with score := score })) := .of_frame
  unfold applyScore
  split
  · exact .refl s
  · exact scored.trans (reevaluate_buffer p _)

theorem linkError_buffer (p : Path) (s : State) : KeepsBuffer s (linkError p s) :=
  (applyScore_buffer p _ s).trans (raiseIn_buffer p .linkError _)

/-! ## A policy's take-effect, FROZEN and the load (R59 to R65) -/

theorem takeEffect_buffer (r : PolicyRecord) (s : State) : KeepsBuffer s (takeEffect r s) := by
  have tested (t : State) : KeepsBuffer t (testThresholds .b (testThresholds .a t)) := .of_frame
  exact (refreshRoles_buffer _ s).trans <| (reevaluateBoth_buffer _).trans <| (tested _).trans (follow_buffer _ _)

theorem loadBad_buffer (s : State) : KeepsBuffer s (loadBad s) := by
  have told (r : HistoryRecord) (t : State) : KeepsBuffer t
      (sendNotices (raiseBoth .frozen (raiseBoth .blockBad (addHistory r t)))) := .of_frame
  exact (takeEffect_buffer _ s).trans <| (refreshRoles_buffer _ _).trans (told _ _)

theorem reportIfOwnerLost_buffer (s : State) : KeepsBuffer s (reportIfOwnerLost s) := by
  unfold reportIfOwnerLost
  split
  · split
    · exact ownerLost_buffer _ s
    · exact .refl s
  · exact .refl s

theorem loadGood_buffer (owner : Option Path) (epoch : Word) (count : CommitCount) (r : PolicyRecord) (s : State) :
    KeepsBuffer s (loadGood owner epoch count r s) := by
  have told (h : HistoryRecord) (t : State) : KeepsBuffer t (sendNotices (addHistory h t)) := .of_frame
  exact (takeEffect_buffer r s).trans <| (refreshRoles_buffer _ _).trans <| (told _ _).trans (reportIfOwnerLost_buffer _)

theorem completeLoad_buffer (s : State) : KeepsBuffer s (completeLoad s) := by
  unfold completeLoad
  split
  · exact loadGood_buffer _ _ _ _ s
  · exact loadGood_buffer _ _ _ _ s
  · exact loadBad_buffer s

theorem attemptFailed_buffer (op : BlockOp) (s : State) : KeepsBuffer s (attemptFailed op s) := by
  unfold attemptFailed
  split
  · exact .of_frame
  · cases op with
    | load => exact loadBad_buffer s
    | commit => exact .of_frame

/-! ## The success of a commit (R54) -/

theorem policyStep_buffer (purpose : Purpose) (s : State) : KeepsBuffer s (policyStep purpose s) := by
  unfold policyStep
  split
  · split
    · exact (owc_buffer _ s).trans (takeEffect_buffer _ _)
    · exact .refl s
  · exact .refl s

theorem commitSuccess_buffer (purpose : Purpose) (c : Contents) (s : State) :
    KeepsBuffer s (commitSuccess purpose c s) := by
  have told (t : State) : KeepsBuffer t (replyFor purpose c (sendNotices (historyStep s.owc purpose c t))) := .of_frame
  have put := (refreshRoles_buffer (s.owc.succeed purpose c) s).trans <| (policyStep_buffer purpose _).trans <|
    (told _).trans (beginWaiting_buffer _)
  unfold commitSuccess
  dsimp only
  split
  · exact put
  · exact put.trans (reportIfOwnerLost_buffer _)

theorem operationSucceeded_buffer (op : BlockOp) (s : State) : KeepsBuffer s (operationSucceeded op s) := by
  unfold operationSucceeded
  split
  · split
    · exact completeLoad_buffer s
    · exact .refl s
  · split
    · exact commitSuccess_buffer _ _ s
    · exact .refl s

theorem operationFailed_buffer (op : BlockOp) (s : State) : KeepsBuffer s (operationFailed op s) := by
  unfold operationFailed
  split <;> split
  · exact attemptFailed_buffer _ s
  · exact .refl s
  · exact attemptFailed_buffer _ s
  · exact .refl s

/-! ## The drive (R158, R159, R165 to R175) -/

theorem dpt_buffer (d : Dpt) (s : State) : KeepsBuffer s { s with dpt := d } :=
  .of_frame rfl rfl rfl

theorem beginReset_buffer (s : State) : KeepsBuffer s (beginReset s) := by
  have aborted (l : List Nat) := (dpt_buffer s.dpt.startReset s).trans <|
    (forSlots_buffer abortEntry_buffer l _).trans (conclude_buffer s _)
  unfold beginReset
  dsimp only
  split
  · exact (aborted _).trans <| (operationFailed_buffer _ _).trans (raiseBoth_buffer _ _)
  · exact (aborted _).trans (raiseBoth_buffer _ _)

theorem requestReset_buffer (s : State) : KeepsBuffer s (requestReset s) := by
  unfold requestReset
  split
  · exact beginReset_buffer s
  · exact .refl s

theorem giveUp_buffer (state : DriveState) (cause : DriveCause) (s : State) : KeepsBuffer s (giveUp state cause s) := by
  have told (t : State) : KeepsBuffer t (enterFrozen .drive t) := .of_frame
  unfold giveUp
  exact (dpt_buffer _ s).trans <| (told _).trans <| (forSlots_buffer failEntry_buffer _ _).trans <|
    (conclude_buffer s _).trans (raiseBoth_buffer _ _)

theorem judgeIdentify_buffer (i : Identity) (s : State) : KeepsBuffer s (judgeIdentify i s) := by
  have ready (t : State) : KeepsBuffer t (driveReady t) := .of_frame
  unfold judgeIdentify
  split
  · exact giveUp_buffer _ _ s
  · split
    · exact giveUp_buffer _ _ s
    · exact (dpt_buffer _ s).trans <| (ready _).trans (follow_buffer s _)

theorem identifyFailed_buffer {again : State → State} (h : ∀ t, KeepsBuffer t (again t)) (s : State) :
    KeepsBuffer s (identifyFailed again s) := by
  have counted : KeepsBuffer s (countIdentifyFailure s) := .of_frame
  unfold identifyFailed
  dsimp only
  split
  · exact counted.trans (h _)
  · exact counted.trans (giveUp_buffer _ _ _)

theorem startIdentify_buffer (s : State) : KeepsBuffer s (startIdentify s) :=
  .of_frame

theorem identifyRejected_buffer (status : DriveStatus) (s : State) : KeepsBuffer s (identifyRejected status s) := by
  have again := identifyFailed_buffer startIdentify_buffer s
  cases status with
  | good => exact .refl s
  | partialDone => exact again
  | media => exact again
  | other => exact giveUp_buffer _ _ s

theorem identifyExpired_buffer (s : State) : KeepsBuffer s (identifyExpired s) := by
  unfold identifyExpired
  split
  · exact identifyFailed_buffer beginReset_buffer s
  · exact .refl s

theorem freed_buffer (status : DriveStatus) (slot : Nat) (s : State) :
    KeepsBuffer s (raiseMedia status (s.freeSlot slot)) :=
  .of_frame

/-- A load's block fills page 255 (R167). -/
theorem acceptOperation_buffer (slot : Nat) (op : BlockOp) (status : DriveStatus) (done : Nat) (block : List Byte)
    (s : State) : KeepsBuffer s (acceptOperation slot op status done block s) := by
  have freed := freed_buffer status slot s
  have placed (t : State) : KeepsBuffer t { t with mem := fillPage t.mem Config.ownershipPage block } :=
    .of_mem (memoryWf_fillPage _ _) rfl rfl
  unfold acceptOperation
  dsimp only
  split
  · cases op with
    | load => exact freed.trans <| (placed _).trans (operationSucceeded_buffer _ _)
    | commit => exact freed.trans (operationSucceeded_buffer _ _)
  · exact freed.trans (operationFailed_buffer op _)

theorem takeReadyRecord_buffer (slot : Nat) (status : DriveStatus) (done : Nat) (blocks : List (List Byte)) (s : State) :
    KeepsBuffer s (takeReadyRecord slot status done blocks s) := by
  unfold takeReadyRecord
  split
  · exact giveUp_buffer _ _ s
  · split
    · split
      · exact (freed_buffer status slot s).trans <| (takeCompletion_buffer _ _ _ _ _ _ _ _).trans (conclude_buffer s _)
      · exact acceptOperation_buffer _ _ _ _ _ s
      · exact giveUp_buffer _ _ s
    · exact giveUp_buffer _ _ s

theorem takeRecord_buffer (slot : Nat) (status : DriveStatus) (done : Nat) (blocks : List (List Byte)) (s : State) :
    KeepsBuffer s (takeRecord slot status done blocks s) := by
  unfold takeRecord
  cases s.dpt.state with
  | ready => exact takeReadyRecord_buffer slot status done blocks s
  | identifying =>
    dsimp only
    split
    · exact identifyRejected_buffer status s
    · exact .refl s
  | resetting | failed | halted | absent => exact .refl s

theorem takeReservedRecord_buffer (status : DriveStatus) (done : Nat) (block : List Byte) (s : State) :
    KeepsBuffer s (takeReservedRecord status done block s) := by
  unfold takeReservedRecord
  split
  · exact .refl s
  · exact takeRecord_buffer _ _ _ _ s

theorem takeIdentifyRecord_buffer (status : DriveStatus) (done : Nat) (i : Identity) (s : State) :
    KeepsBuffer s (takeIdentifyRecord status done i s) := by
  have freed : KeepsBuffer s (s.freeSlot 0) := .of_frame
  unfold takeIdentifyRecord
  split
  · exact freed.trans (judgeIdentify_buffer i _)
  · exact takeRecord_buffer _ _ _ _ s

theorem slotExpired_buffer (slot : Nat) (s : State) : KeepsBuffer s (slotExpired slot s) := by
  unfold slotExpired
  cases s.dpt.state with
  | ready =>
    dsimp only
    split
    · exact beginReset_buffer s
    · exact .refl s
  | identifying =>
    dsimp only
    split
    · exact identifyExpired_buffer s
    · exact .refl s
  | resetting | failed | halted | absent => exact .refl s

theorem resetExpired_buffer (s : State) : KeepsBuffer s (resetExpired s) := by
  unfold resetExpired
  split
  · exact giveUp_buffer _ _ s
  · exact .refl s

theorem presentFalls_buffer (s : State) : KeepsBuffer s (presentFalls s) := by
  unfold presentFalls
  dsimp only
  split
  · exact dpt_buffer _ s
  · exact (dpt_buffer _ s).trans (giveUp_buffer _ _ _)

end Sys2Proof.Machine
end

section
/-! The staging buffer: the events of the links, the resets and the heads taken keep its canonical form and its pages, and so
does every step (R137, R138). -/

namespace Sys2Proof.Machine

set_option Elab.async false

/-! ## Inbound frames -/

/-- The page that a block is staged in was free, and its entry stands in the table (R139, R142). -/
theorem stageBlock_buffer {e : Entry} {s : State} (data : List Byte) (member : e ∈ s.ift)
    (free : s.freePages.isEmpty = false) : KeepsBuffer s (stageBlock e data s) := by
  have page : s.freePages.headD 0 ∈ s.freePages := by
    cases h : s.freePages with
    | nil => simp [h] at free
    | cons n _ => simp
  have owned (k : Nat) (own : some e.slot = some k) : k ∈ s.ift.map Entry.slot :=
    Option.some.inj own ▸ List.mem_map_of_mem member
  have allocated := allocate_buffer (r := ⟨s.freePages.headD 0, e.origin, some e.slot, e.staged, .staged⟩) page owned
  have filled (t : State) : KeepsBuffer t { t with mem := fillPage t.mem (s.freePages.headD 0) data } :=
    .of_mem (memoryWf_fillPage _ _) rfl rfl
  have tested (t : State) : KeepsBuffer t (testHold e.origin t) := .of_frame
  have counted (t : State) : KeepsBuffer t (t.onEntry e.slot (fun x => { x with staged := x.staged + 1 })) :=
    onEntry_buffer t
  have offered (frame : OutFrame) (t : State) : KeepsBuffer t (t.offer e.origin .stb frame) := .of_frame
  have acked (t : State) : KeepsBuffer t (acknowledge e t) := (onEntry_buffer t).trans (offered _ _)
  have staged := allocated.trans <| (filled _).trans <| (tested _).trans (counted _)
  unfold stageBlock
  dsimp only
  split
  · exact staged.trans (acked _)
  · exact staged

theorem takeBlock_buffer {e : Entry} {s : State} (offset : Nat) (data : List Byte) (member : e ∈ s.ift) :
    KeepsBuffer s (takeBlock e offset data s) := by
  unfold takeBlock
  split
  · exact decideEnd_buffer _ _ s
  · split
    · next allowed =>
      rw [State.pageAllowed, Bool.and_eq_true, Bool.not_eq_true'] at allowed
      exact stageBlock_buffer data member allowed.2
    · exact decideEnd_buffer _ _ s

theorem takeWriteData_buffer (p : Path) (tag offset : Word) (data : List Byte) (s : State) :
    KeepsBuffer s (takeWriteData p tag offset data s) := by
  unfold takeWriteData
  split
  · exact .refl s
  · split
    · exact linkError_buffer p s
    · next found =>
      split
      · exact .refl s
      · exact (takeBlock_buffer _ data (List.mem_of_find?_eq_some found)).trans (conclude_buffer s _)

theorem answerPulse_buffer (p : Path) (sequence : Byte) (s : State) : KeepsBuffer s (answerPulse p sequence s) := by
  have counted : KeepsBuffer s (s.onHmon p (fun x => { x with pulseCounted := true })) := .of_frame
  have echoed (frame : OutFrame) (t : State) : KeepsBuffer t (t.onPif p (Pif.placeEcho frame)) := .of_frame
  have taken : KeepsBuffer s (takePulse p s) := by
    unfold takePulse
    dsimp only
    split
    · exact .refl s
    · exact counted.trans (applyScore_buffer p _ _)
  exact taken.trans (echoed _ _)

theorem routeFrame_buffer (p : Path) (frame : InFrame) (s : State) : KeepsBuffer s (routeFrame p frame s) := by
  have held : KeepsBuffer s (takeHold p s) := .of_frame
  have released : KeepsBuffer s (takeGo p s) := .of_frame
  have arrived (q : QueuedFrame) : KeepsBuffer s (arrive p q s) := .of_frame
  cases frame with
  | pulse epoch sequence => exact answerPulse_buffer p sequence s
  | writeData tag offset data => exact takeWriteData_buffer p tag offset data s
  | hold => exact held
  | go => exact released
  | queued q => exact arrived q

theorem clearAssembler_buffer (p : Path) (s : State) : KeepsBuffer s (s.onPif p Pif.clearAssembler) :=
  .of_frame

theorem frameCompletes_buffer (p : Path) (frame : InFrame) (s : State) : KeepsBuffer s (frameCompletes p frame s) := by
  unfold frameCompletes
  split
  · exact (clearAssembler_buffer p s).trans (routeFrame_buffer p frame _)
  · cases frame with
    | writeData tag offset data => exact takeWriteData_buffer p tag offset data s
    | pulse | hold | go | queued => exact .refl s

theorem discardFrame_buffer (p : Path) (s : State) : KeepsBuffer s (discardFrame p s) :=
  (clearAssembler_buffer p s).trans (linkError_buffer p _)

theorem completeFrame_buffer (p : Path) (kind : Byte) (length : Nat) (bytes : List Byte) (sum : Word) (s : State) :
    KeepsBuffer s (completeFrame p kind length bytes sum s) := by
  unfold completeFrame
  split
  · split
    · exact (clearAssembler_buffer p s).trans (routeFrame_buffer p _ _)
    · exact discardFrame_buffer p s
  · exact discardFrame_buffer p s

theorem takeMarked_buffer (p : Path) (byte : Byte) (s : State) : KeepsBuffer s (takeMarked p byte s) := by
  have begun (t : State) : KeepsBuffer t (t.onPif p (Pif.beginFrame byte)) := .of_frame
  have truncated := (discardFrame_buffer p s).trans (begun _)
  unfold takeMarked
  split
  · exact begun s
  · exact truncated
  · exact truncated

theorem takeUnmarked_buffer (p : Path) (byte : Byte) (s : State) : KeepsBuffer s (takeUnmarked p byte s) := by
  have assembled (a : Assembler) : KeepsBuffer s (s.onPif p (Pif.assemble a)) := .of_frame
  unfold takeUnmarked
  split
  · exact .refl s
  · exact assembled _
  · unfold takeLength
    dsimp only
    split
    · exact discardFrame_buffer p s
    · exact assembled _
  · unfold takeBody
    split
    · exact assembled _
    · split
      · exact assembled _
      · exact completeFrame_buffer _ _ _ _ _ s

theorem takeCharacter_buffer (p : Path) (marked : Bool) (byte : Byte) (s : State) :
    KeepsBuffer s (takeCharacter p marked byte s) := by
  unfold takeCharacter
  split
  · split
    · exact takeMarked_buffer p byte s
    · exact takeUnmarked_buffer p byte s
  · exact .refl s

theorem takeCharacterIf_buffer (due : Assembler → Bool) (p : Path) (marked : Bool) (byte : Byte) (s : State) :
    KeepsBuffer s (takeCharacterIf due p marked byte s) := by
  unfold takeCharacterIf
  split
  · exact takeCharacter_buffer p marked byte s
  · exact .refl s

theorem gapExpired_buffer (p : Path) (s : State) : KeepsBuffer s (gapExpired p s) := by
  unfold gapExpired
  split
  · exact discardFrame_buffer p s
  · exact .refl s

/-! ## The end of a transmission (R14, R77, R131) -/

theorem reportTransmitted_buffer (tie : Tie) (s : State) : KeepsBuffer s (reportTransmitted tie s) := by
  cases tie with
  | plain => exact .refl s
  | heldPage page => exact freeWhere_buffer _ s
  | block slot age page =>
    have delivered := (freeWhere_buffer (fun r => r.number == page) s).trans
      (onEntry_buffer (k := slot) (f := fun x => { x with delivered := x.delivered + 1 }) _)
    unfold reportTransmitted countDelivered
    dsimp only
    split
    · exact .refl s
    · split
      · split
        · exact delivered.trans (endEntry_buffer slot _ _)
        · exact delivered
      · exact .refl s

theorem frameSent_buffer (p : Path) (s : State) : KeepsBuffer s (frameSent p s) := by
  have finished (x : Sending) : KeepsBuffer s (s.onPif p (Pif.finishSending x)) := .of_frame
  have chosen (t : State) : KeepsBuffer t (t.onPif p Pif.chooseNext) := .of_frame
  unfold frameSent
  split
  · exact .refl s
  · exact (finished _).trans <| (enterWaiting_buffer p _).trans <| (chosen _).trans <|
      (reportTransmitted_buffer _ _).trans (conclude_buffer s _)

/-! ## Resets and carrier -/

/-- After power-on and pin reset no page is allocated and no cell filled (R93, R136). -/
theorem powerUp_buffer (cause : ResetCause) (present : Bool) (s : State) : KeepsBuffer s (powerUp cause present s) := by
  have cleared : KeepsBuffer s (clearAll cause present s) :=
    ⟨fun _ => rfl, fun _ => (pagesInv_iff _).2 ⟨.nil, by simp [clearAll], by simp [clearAll]⟩⟩
  have frozen (t : State) : KeepsBuffer t (raiseBoth .driveFailed (enterFrozen .drive t)) := .of_frame
  unfold powerUp
  dsimp only
  split
  · exact cleared.trans (startIdentify_buffer _)
  · exact cleared.trans (frozen _)

/-- A soft reset frees every page with its entries (R135, R154). -/
theorem softResetWork_buffer (s : State) : KeepsBuffer s (softResetWork s) :=
  .of_pages fun _ => ⟨by simp [softResetWork], by simp [softResetWork], by simp [softResetWork]⟩

theorem softResetDrive_buffer (s : State) : KeepsBuffer s (softResetDrive s) := by
  have cleared := dpt_buffer s.dpt.softClear s
  have reset := cleared.trans (beginReset_buffer _)
  have frozen (t : State) : KeepsBuffer t (enterFrozen .drive t) := .of_frame
  unfold softResetDrive
  dsimp only
  split
  case h_1 => exact cleared.trans (frozen _)
  case h_2 => exact cleared
  all_goals exact reset

theorem softReset_buffer (s : State) : KeepsBuffer s (softReset s) := by
  have links : KeepsBuffer s (softResetLinks s) := .of_frame
  have loading (t : State) : KeepsBuffer t (enterLoading t) := .of_frame
  have recorded (f : Fnu) (t : State) : KeepsBuffer t { t with fnu := f } := .of_frame rfl rfl rfl
  have driven := links.trans <| (softResetWork_buffer _).trans <| (loading _).trans (softResetDrive_buffer _)
  unfold softReset
  dsimp only
  split
  · exact driven.trans <| (recorded _ _).trans (raiseBoth_buffer _ _)
  · exact driven.trans (recorded _ _)

theorem cutEntry_buffer (slot : Nat) (s : State) : KeepsBuffer s (cutEntry slot s) := by
  have marked : KeepsBuffer s (s.onEntry slot (fun x => { x with cut := true })) := onEntry_buffer s
  unfold cutEntry
  split
  · exact .refl s
  · split
    · exact dropEntry_buffer slot s
    · split
      · exact .refl s
      · dsimp only
        split
        · exact marked.trans <| (decideEnd_buffer _ slot _).trans (discardFetched_buffer slot _)
        · split
          · exact marked.trans (decideEnd_buffer _ slot _)
          · exact marked
        · exact marked

theorem carrierLost_buffer (p : Path) (s : State) : KeepsBuffer s (carrierLost p s) := by
  have dropped : KeepsBuffer s (s.onPif p Pif.carrierLost) := .of_frame
  have lost (t : State) : KeepsBuffer t (healthLost p t) := by
    have set : KeepsBuffer t (t.onHmon p (fun _ => Hmon.carrierLost)) := .of_frame
    unfold healthLost
    dsimp only
    split
    · exact set
    · exact set.trans (reportHealth_buffer p _ _ _)
  unfold carrierLost
  split
  · exact dropped.trans <| (lost _).trans <| (forSlots_buffer cutEntry_buffer _ _).trans <|
      (freeWhere_buffer _ _).trans (conclude_buffer s _)
  · exact .refl s

theorem carrierBack_buffer (p : Path) (s : State) : KeepsBuffer s (carrierBack p s) := by
  have back (f : Pif → Pif) (h : Hmon → Hmon) : KeepsBuffer s ((s.onPif p f).onHmon p h) := .of_frame
  unfold carrierBack
  split
  · exact .refl s
  · exact (back _ _).trans (reevaluate_buffer p _)

/-! ## Heads taken (R94 to R96) -/

theorem takeHead_buffer {p : Path} {decision : QueuedFrame → Option (State → State)} (s : State)
    (h : ∀ head act t, decision head = some act → KeepsBuffer t (act t)) : KeepsBuffer s (takeHead p decision s) := by
  have removed : KeepsBuffer s (removeHead p s) := .of_frame
  unfold takeHead
  split
  · split
    · exact .refl s
    · split
      · next decided => exact removed.trans (h _ _ _ decided)
      · exact .refl s
  · exact .refl s

theorem acceptCommand_buffer (p : Path) (c : CommandFields) (op : Op) (slot : Nat) (s : State) :
    KeepsBuffer s (acceptCommand p c op slot s) := by
  have added := addEntry_buffer (newEntry s p c op slot) s
  have asked (producer : Producer) (frame : OutFrame) (t : State) : KeepsBuffer t (t.offer p producer frame) := .of_frame
  have reported (t : State) : KeepsBuffer t (walkGrants (checkDrainEnd (reportSlot slot t))) :=
    (reportSlot_buffer slot t).trans <| (checkDrainEnd_buffer _).trans (walkGrants_buffer _)
  unfold acceptCommand
  dsimp only
  split
  · exact added.trans <| (asked _ _ _).trans (reported _)
  · exact added.trans (reported _)

theorem decideCommand_buffer (p : Path) (c : CommandFields) (s : State) : KeepsBuffer s (decideCommand p c s) := by
  unfold decideCommand
  split
  · exact .of_frame
  · split
    · exact acceptCommand_buffer _ _ _ _ s
    · exact .refl s

theorem decideClaim_buffer (p : Path) (c : ClaimFields) (s : State) : KeepsBuffer s (decideClaim p c s) := by
  have owed (purpose : Purpose) (t : State) : KeepsBuffer t (oweReply p c.tag purpose t) := .of_frame
  unfold decideClaim
  split
  · exact .of_frame
  · exact (refreshRoles_buffer _ s).trans <| (owed _ _).trans (beginTransition_buffer _ _)
  · exact (owed _ s).trans (beginFencedDrain_buffer _ _ _)
  · exact (refreshRoles_buffer _ s).trans <| (owed _ _).trans (beginCommit_buffer _ _ _)

theorem decideRelease_buffer (p : Path) (tag epoch : Word) (flags : Byte) (s : State) :
    KeepsBuffer s (decideRelease p tag epoch flags s) := by
  have owed (purpose : Purpose) : KeepsBuffer s (oweReply p tag purpose s) := .of_frame
  unfold decideRelease
  split
  · exact .of_frame
  · unfold acceptRelease
    split
    · exact (owed _).trans (beginReleaseDrain_buffer _ _ _ _)
    · exact (owed _).trans (beginReleaseDrain_buffer _ _ _ _)

theorem decidePolicy_buffer (p : Path) (tag epoch : Word) (record : PolicyRecord) (s : State) :
    KeepsBuffer s (decidePolicy p tag epoch record s) := by
  have owed (purpose : Purpose) (t : State) : KeepsBuffer t (oweReply p tag purpose t) := .of_frame
  unfold decidePolicy
  split
  · exact .of_frame
  · split
    · exact .of_frame
    · exact (owc_buffer _ s).trans <| (owed _ _).trans (beginCommit_buffer _ _ _)

theorem withRoom_buffer {p : Path} {act : State → State} (s : State) (h : KeepsBuffer s (act s)) :
    KeepsBuffer s (withRoom p act s) := by
  unfold withRoom
  split
  · exact h
  · exact .refl s

theorem decideDeviceReset_buffer (p : Path) (tag epoch : Word) (s : State) :
    KeepsBuffer s (decideDeviceReset p tag epoch s) := by
  have deciding (d : Option (Path × Word)) (t : State) : KeepsBuffer t (setDeciding d t) := .of_frame
  unfold decideDeviceReset
  refine .trans (deciding (some (p, tag)) s) (.trans ?_ (deciding none _))
  split
  · exact withRoom_buffer _ .of_frame
  · exact softReset_buffer _

theorem commandRow_buffer (p : Path) (test : Byte → Byte → Bool) (s : State) :
    KeepsBuffer s (takeHead p (commandWhere p test) s) := by
  refine takeHead_buffer s fun head act t decided => ?_
  unfold commandWhere at decided
  split at decided
  · obtain ⟨_, ⟨⟩⟩ := Option.ite_none_right_eq_some.1 decided
    exact decideCommand_buffer p _ t
  · cases decided

/-- The decisions of FNU on INSPECT, CLEAR and NOTIFY_MASK (R180 to R191). -/
def unitDecisions (p : Path) : List (QueuedFrame → Option (State → State)) :=
  [inspectSetHead p, inspectNextHead p, inspectBadHead p, clearFlagsHead p, clearOrphansHead p, clearBadHead p,
    notifyMaskHead p]

theorem unitRow_buffer {p : Path} {decision : QueuedFrame → Option (State → State)} (unit : decision ∈ unitDecisions p)
    (s : State) : KeepsBuffer s (takeHead p decision s) := by
  refine takeHead_buffer s fun head act t decided => ?_
  obtain ⟨answer, rfl, kept⟩ : ∃ answer, act = withRoom p answer ∧ KeepsBuffer t (answer t) := by
    simp only [unitDecisions, List.mem_cons, List.not_mem_nil, or_false] at unit
    rcases unit with rfl | rfl | rfl | rfl | rfl | rfl | rfl
    all_goals
      simp only [inspectSetHead, inspectNextHead, inspectBadHead, clearFlagsHead, clearOrphansHead, clearBadHead,
        notifyMaskHead] at decided
      split at decided
      · simp only [Option.ite_none_right_eq_some, Option.ite_none_left_eq_some, Option.some.injEq] at decided
        obtain ⟨_, rfl⟩ := decided
        exact ⟨_, rfl, .of_frame⟩
      · cases decided
  exact withRoom_buffer t kept

theorem claimRow_buffer (p : Path) (test : Byte → Bool) (s : State) :
    KeepsBuffer s (takeHead p (claimWhere p test) s) := by
  refine takeHead_buffer s fun head act t decided => ?_
  unfold claimWhere at decided
  split at decided
  · obtain ⟨_, ⟨⟩⟩ := Option.ite_none_right_eq_some.1 decided
    exact decideClaim_buffer p _ t
  · cases decided

theorem releaseRow_buffer (p : Path) (handover : Bool) (s : State) :
    KeepsBuffer s (takeHead p (releaseWhere p handover) s) := by
  refine takeHead_buffer s fun head act t decided => ?_
  unfold releaseWhere at decided
  split at decided
  · obtain ⟨_, ⟨⟩⟩ := Option.ite_none_right_eq_some.1 decided
    exact decideRelease_buffer p _ _ _ t
  · cases decided

theorem rejoinRow_buffer (p : Path) (s : State) : KeepsBuffer s (takeHead p (rejoinHead p) s) := by
  refine takeHead_buffer s fun head act t decided => ?_
  unfold rejoinHead at decided
  split at decided
  · cases decided
    exact .of_frame
  · cases decided

theorem policyRow_buffer (p : Path) (s : State) : KeepsBuffer s (takeHead p (policyHead p) s) := by
  refine takeHead_buffer s fun head act t decided => ?_
  unfold policyHead at decided
  split at decided
  · cases decided
    exact decidePolicy_buffer p _ _ _ t
  · cases decided

theorem deviceResetRow_buffer (p : Path) (s : State) : KeepsBuffer s (takeHead p (deviceResetHead p) s) := by
  refine takeHead_buffer s fun head act t decided => ?_
  unfold deviceResetHead at decided
  split at decided
  · cases decided
    exact decideDeviceReset_buffer p _ _ t
  · cases decided

/-! ## Timers and the part's own steps -/

theorem windowExpires_buffer (p : Path) (s : State) : KeepsBuffer s (windowExpires p s) := by
  have next (t : State) : KeepsBuffer t (nextWindow p t) := .of_frame
  unfold windowExpires
  split
  · exact (applyScore_buffer p _ s).trans (next _)
  · exact .refl s

theorem graceExpires_buffer (s : State) : KeepsBuffer s (graceExpires s) := by
  unfold graceExpires
  split
  · split
    · exact beginFencedDrain_buffer _ _ s
    · exact .refl s
  · exact .refl s

theorem enterStage_buffer (stage : DrainStage) (s : State) : KeepsBuffer s (enterStage stage s) :=
  .of_frame rfl rfl rfl

theorem stage1Expires_buffer (s : State) : KeepsBuffer s (stage1Expires s) := by
  unfold stage1Expires
  split
  · exact (fence_buffer _ s).trans <| (enterStage_buffer .fenced _).trans <|
      (refreshRoles_buffer _ _).trans (conclude_buffer s _)
  · exact .refl s

theorem stage2Expires_buffer (s : State) : KeepsBuffer s (stage2Expires s) := by
  unfold stage2Expires
  split
  · dsimp only
    split
    · exact (requestReset_buffer s).trans <| (enterStage_buffer _ _).trans (conclude_buffer _ _)
    · exact requestReset_buffer s
  · exact .refl s

theorem stage3Expires_buffer (s : State) : KeepsBuffer s (stage3Expires s) := by
  unfold stage3Expires
  split
  · have ended (l : List Nat) := (owc_buffer { s.owc with drainTimer := none } s).trans <|
      (forSlots_buffer (decideEnd_buffer .driveStall) l _).trans (conclude_buffer s _)
    dsimp only
    split
    · exact (ended _).trans (requestReset_buffer _)
    · exact ended _
  · exact .refl s

theorem removeDue_buffer (slot : Nat) (s : State) : KeepsBuffer s (removeDue slot s) :=
  (reportSlot_buffer slot s).trans <| (checkDrainEnd_buffer _).trans (follow_buffer s _)

theorem beginDueLoad_buffer (s : State) : KeepsBuffer s (beginDueLoad s) := by
  unfold beginDueLoad
  split
  · exact .of_frame
  · exact .refl s

/-! ## Every step -/

theorem KeepsBuffer.of_next {s t u : State} (k : KeepsBuffer s u)
    (h : (.next u : Host.Outcome State Fault Refusal) = .next t) : KeepsBuffer s t := by
  cases h
  exact k

theorem exec_buffer {c : Instr} {s t : State} (h : exec c s = .next t) : KeepsBuffer s t := by
  cases c with
  | powerOnReset drivePresent => exact (powerUp_buffer .power drivePresent s).of_next h
  | pinReset => exact (powerUp_buffer .pin s.dpt.present s).of_next h
  | carrierLoss p => exact (carrierLost_buffer p s).of_next h
  | carrierReturn p => exact (carrierBack_buffer p s).of_next h
  | truncation p kind => exact (takeCharacterIf_buffer _ p true kind s).of_next h
  | overLength p low => exact (takeCharacterIf_buffer _ p false low s).of_next h
  | gapTimeout p => exact (gapExpired_buffer p s).of_next h
  | checkFailure p low => exact (takeCharacterIf_buffer _ p false low s).of_next h
  | unknownKind p low => exact (takeCharacterIf_buffer _ p false low s).of_next h
  | pulse p epoch sequence => exact (frameCompletes_buffer p (.pulse epoch sequence) s).of_next h
  | hold p => exact (frameCompletes_buffer p .hold s).of_next h
  | go p => exact (frameCompletes_buffer p .go s).of_next h
  | writeData p tag offset data => exact (frameCompletes_buffer p (.writeData tag offset data) s).of_next h
  | receiveQueueArrival p frame => exact (frameCompletes_buffer p (.queued frame) s).of_next h
  | commandRead p => exact (commandRow_buffer p _ s).of_next h
  | commandWrite p => exact (commandRow_buffer p _ s).of_next h
  | commandWritePosted p => exact (commandRow_buffer p _ s).of_next h
  | commandFlush p => exact (commandRow_buffer p _ s).of_next h
  | commandBadOp p => exact (commandRow_buffer p _ s).of_next h
  | claim p => exact (claimRow_buffer p _ s).of_next h
  | forcedClaim p => exact (claimRow_buffer p _ s).of_next h
  | overrideClaim p => exact (claimRow_buffer p _ s).of_next h
  | release p => exact (releaseRow_buffer p false s).of_next h
  | releaseHandover p => exact (releaseRow_buffer p true s).of_next h
  | rejoin p => exact (rejoinRow_buffer p s).of_next h
  | policy p => exact (policyRow_buffer p s).of_next h
  | inspectSet p => exact (unitRow_buffer (p := p) (by simp [unitDecisions]) s).of_next h
  | inspectNext p => exact (unitRow_buffer (p := p) (by simp [unitDecisions]) s).of_next h
  | clearFaultFlags p => exact (unitRow_buffer (p := p) (by simp [unitDecisions]) s).of_next h
  | clearOrphanList p => exact (unitRow_buffer (p := p) (by simp [unitDecisions]) s).of_next h
  | notifyMask p => exact (unitRow_buffer (p := p) (by simp [unitDecisions]) s).of_next h
  | deviceReset p => exact (deviceResetRow_buffer p s).of_next h
  | waitingFrameEntry p => exact ((enterWaiting_buffer p s).trans (conclude_buffer s _)).of_next h
  | frameTransmitted p => exact (frameSent_buffer p s).of_next h
  | readDataOffer p => exact (.of_frame : KeepsBuffer s (offerReadData p s)).of_next h
  | pulseWindowExpiry p => exact (windowExpires_buffer p s).of_next h
  | graceExpiry => exact (graceExpires_buffer s).of_next h
  | drainStage1Expiry => exact (stage1Expires_buffer s).of_next h
  | drainStage2Expiry => exact (stage2Expires_buffer s).of_next h
  | drainStage3Expiry => exact (stage3Expires_buffer s).of_next h
  | drainEnd => exact (checkDrainEnd_buffer s).of_next h
  | waitingTransition => exact (beginWaiting_buffer s).of_next h
  | loadBegin => exact (beginDueLoad_buffer s).of_next h
  | reservedOperationIssue => exact (.of_frame : KeepsBuffer s (issueReserved s)).of_next h
  | segmentIssue => exact (runArbiter_buffer s).of_next h
  | readGrant => exact ((walkGrants_buffer s).trans (runArbiter_buffer _)).of_next h
  | pathSlotCompletion slot status done blocks => exact (takeRecord_buffer slot status done.toNat blocks s).of_next h
  | entryRemoval slot => exact (removeDue_buffer slot s).of_next h
  | reservedSlotCompletion status done block => exact (takeReservedRecord_buffer status done.toNat block s).of_next h
  | identifyCompletion status done capacity blockSize depth =>
    exact (takeIdentifyRecord_buffer status done.toNat _ s).of_next h
  | identifyTimeout => exact (identifyExpired_buffer s).of_next h
  | slotTimeout slot => exact (slotExpired_buffer slot s).of_next h
  | readyIndication => exact (.of_frame : KeepsBuffer s (takeReadyIndication s)).of_next h
  | resetTimeout => exact (resetExpired_buffer s).of_next h
  | drvPresentFall => exact (presentFalls_buffer s).of_next h
  | drvPresentRise => exact (.of_frame : KeepsBuffer s (presentRises s)).of_next h
  | linkCharacter p marked byte => exact (takeCharacter_buffer p marked byte s).of_next h
  | inspectBadMode p => exact (unitRow_buffer (p := p) (by simp [unitDecisions]) s).of_next h
  | clearBadTarget p => exact (unitRow_buffer (p := p) (by simp [unitDecisions]) s).of_next h

theorem step_buffer {s t : State} (h : step s = .next t) : KeepsBuffer s t := by
  unfold step at h
  split at h
  · exact (KeepsBuffer.refl s).of_next h
  · next c rest _ =>
    have queued : KeepsBuffer s (s.withPending rest) := .of_frame
    exact queued.trans (exec_buffer h)

/-- Settles O7: each operation keeps the canonical form and the pages; the free pages and the allocated ones are all 255. -/
theorem stepKeepsBuffer : Obligations.StepKeepsBuffer :=
  ⟨fun _ _ wf h => (step_buffer h).mem wf, fun _ _ inv h => (step_buffer h).pages inv, fun _ => PagesInv.pages_counted⟩

end Sys2Proof.Machine
end

section
/-! The HOLD and GO thresholds (R149), and the tests at them (R16, R150, R151). -/

namespace Sys2Proof.Machine

set_option Elab.async false

/-! ## The thresholds (R149) -/

theorem holdHi_add_effectiveMargin (r : PolicyRecord) (p : Path) : holdHi r p + effectiveMargin r p = quotaOf r p :=
  Nat.sub_add_cancel ((Nat.min_le_right _ _).trans (Nat.sub_le _ _))

/-- The effective margin is at least 1 and below the quota, where the quota and the margin are in R52's ranges. -/
theorem effectiveMargin_range {r : PolicyRecord} {p : Path} (quota : 16 ≤ quotaOf r p) (margin : 1 ≤ r.holdMargin.toNat) :
    1 ≤ effectiveMargin r p ∧ effectiveMargin r p < quotaOf r p := by
  unfold effectiveMargin
  omega

/-! ## A frame for the flow position (R16) -/

/-- From `f` to `g` a path interface has taken a HOLD or a GO in: the part-hold flag is set or cleared with it, and on a busy
link the frame waits in the flow position. -/
def Pif.FlowAsked (frame : OutFrame) (flag : Bool) (f g : Pif) : Prop :=
  FlowPlaced g frame ∧
    g = { f with
      partHold := flag, flowWaiting := g.flowWaiting, heldServer := g.heldServer, sending := g.sending } ∧
    (f.sending.isSome = true → g.flowWaiting = some frame ∧ g.sending = f.sending ∧ g.heldServer = f.heldServer)

section
variable {f : Pif}

theorem Pif.placeFlow_busy (frame : OutFrame) (busy : f.sending.isSome = true) :
    f.placeFlow frame = { f with flowWaiting := some frame } := by
  have sending : f.sending ≠ none := Option.isSome_iff_ne_none.1 busy
  simp [Pif.placeFlow, Pif.chooseNext, sending]

theorem Pif.placeFlow_free (frame : OutFrame) (up : f.link = .up) (free : f.sending = none) :
    f.placeFlow frame =
      { f with
        flowWaiting := none, heldServer := decide (frame = .hold)
        sending := some { source := .flow, item := { frame := frame, tie := .plain } } } := by
  simp [Pif.placeFlow, Pif.chooseNext, up, free]

theorem Pif.placeFlow_asked (frame : OutFrame) (flag : Bool) (up : f.link = .up) :
    f.FlowAsked frame flag ({ f with partHold := flag }.placeFlow frame) := by
  by_cases free : f.sending = none
  · rw [Pif.placeFlow_free (f := { f with partHold := flag }) frame up free]
    exact ⟨.inr rfl, rfl, by simp [free]⟩
  · rw [Pif.placeFlow_busy (f := { f with partHold := flag }) frame (Option.isSome_iff_ne_none.2 free)]
    exact ⟨.inl rfl, rfl, fun _ => ⟨rfl, rfl, rfl⟩⟩

/-- A GO stays where no HOLD was replaced, or where the server still holds by an earlier one (R151). -/
theorem Pif.askGo_eq_sendGo (stays : f.flowWaiting ≠ some .hold ∨ f.heldServer = true) : f.askGo = f.sendGo := by
  unfold Pif.askGo
  rw [if_neg]
  rintro ⟨replaced, seen⟩
  rcases stays with other | held
  · exact other replaced
  · simp [held] at seen

theorem Pif.askGo_asked (up : f.link = .up)
    (stays : f.flowWaiting ≠ some .hold ∨ f.heldServer = true ∨ f.sending = none) : f.FlowAsked .go false f.askGo := by
  have sent : f.FlowAsked .go false f.sendGo := Pif.placeFlow_asked .go false up
  by_cases waits : f.flowWaiting ≠ some .hold ∨ f.heldServer = true
  · rwa [Pif.askGo_eq_sendGo waits]
  · have free : f.sending = none := (or_assoc.2 stays).resolve_left waits
    have begun : f.sendGo.withdrawGo = f.sendGo := by
      rw [Pif.withdrawGo, Pif.sendGo, Pif.placeFlow_free (f := { f with partHold := false }) .go up free]
      rfl
    unfold Pif.askGo
    split
    · rwa [begun]
    · exact sent

/-- Of a HOLD not yet begun on a busy link and the GO that replaces it, neither stands in the flow position (R151,
notes/assumptions/38.md). -/
theorem Pif.askGo_withdrawn (waiting : f.flowWaiting = some .hold) (unseen : f.heldServer = false)
    (busy : f.sending.isSome = true) : f.askGo = { f with partHold := false, flowWaiting := none } := by
  rw [Pif.askGo, if_pos ⟨waiting, unseen⟩, Pif.sendGo, Pif.placeFlow_busy (f := { f with partHold := false }) .go busy]
  rfl

end

/-! ## The tests (R150, R151) -/

section
variable {p : Path} {s : State}

theorem testHold_eq_sendHold (up : (s.pif.get p).link = .up) (clear : (s.pif.get p).partHold = false)
    (high : holdHi s.owc.policy p ≤ s.occupancy p) : testHold p s = s.onPif p Pif.sendHold := by
  simp [testHold, State.linkUp, up, clear, high]

theorem testHold_eq_self
    (h : (s.pif.get p).link = .down ∨ (s.pif.get p).partHold = true ∨ s.occupancy p < holdHi s.owc.policy p) :
    testHold p s = s := by
  rw [testHold, if_neg]
  rcases h with down | held | low
  · simp [State.linkUp, down]
  · simp [held]
  · simp [low]

/-- At hold_hi the part-hold flag is set after the test, and a HOLD placed where it was clear (R150). -/
theorem testHold_holds (up : (s.pif.get p).link = .up) (high : holdHi s.owc.policy p ≤ s.occupancy p) :
    ((testHold p s).pif.get p).partHold = true ∧
      ((s.pif.get p).partHold = false → FlowPlaced ((testHold p s).pif.get p) .hold) := by
  cases flag : (s.pif.get p).partHold with
  | true =>
    rw [testHold_eq_self (.inr (.inl flag))]
    exact ⟨flag, nofun⟩
  | false =>
    rw [testHold_eq_sendHold up flag high, State.onPif_get_same]
    obtain ⟨asked, kept, _⟩ := Pif.placeFlow_asked (f := s.pif.get p) .hold true up
    exact ⟨congrArg Pif.partHold kept, fun _ => asked⟩

theorem testGo_eq_askGo (up : (s.pif.get p).link = .up) (held : (s.pif.get p).partHold = true)
    (low : s.occupancy p ≤ holdLo s.owc.policy p) : testGo p s = s.onPif p Pif.askGo := by
  simp [testGo, State.linkUp, up, held, low]

theorem testGo_eq_self
    (h : (s.pif.get p).link = .down ∨ (s.pif.get p).partHold = false ∨ holdLo s.owc.policy p < s.occupancy p) :
    testGo p s = s := by
  rw [testGo, if_neg]
  rcases h with down | clear | high
  · simp [State.linkUp, down]
  · simp [clear]
  · simp [high]

end

/-- Settles O16: the arithmetic of the thresholds, and each test by what it asks for. -/
theorem stagingThresholds : Obligations.StagingThresholds := by
  refine ⟨fun r p quota margin => ?_, fun p s before => ?_⟩
  · have sum := holdHi_add_effectiveMargin r p
    obtain ⟨low, high⟩ := effectiveMargin_range quota margin
    refine ⟨rfl, sum, by omega, by omega, rfl, fun whole => ?_⟩
    have one : holdHi r p = 1 := by omega
    exact ⟨one, by rw [holdLo, one]⟩
  · intro f asks
    have asked {g : Pif → Pif} {frame : OutFrame} {flag : Bool} (h : f.FlowAsked frame flag (g f)) :
        asks (s.onPif p g) frame flag := by
      have got : (s.onPif p g).pif.get p = g f := State.onPif_get_same p g s
      obtain ⟨placed, kept, busy⟩ := h
      refine ⟨?_, got ▸ placed, got ▸ kept, got ▸ busy⟩
      rw [got]
      rfl
    refine ⟨fun up clear high => ?_, testHold_eq_self, fun up held low stays => ?_,
      fun up held low waiting unseen busy => ?_, testGo_eq_self, fun fell => if_pos fell, fun kept => if_neg kept.not_gt⟩
    · rw [testHold_eq_sendHold up clear high]
      exact asked (Pif.placeFlow_asked .hold true up)
    · rw [testGo_eq_askGo up held low]
      exact asked (Pif.askGo_asked up stays)
    · rw [testGo_eq_askGo up held low, State.onPif, Pif.askGo_withdrawn waiting unseen busy]
      rfl

end Sys2Proof.Machine
end

section
/-! A path with the part-hold flag set keeps it, with the HOLD placed, through the grants, the gifts and the READ_DATA of an
event: no page is freed in them, so that no GO is asked for (R13, R16, R150, R151). -/

namespace Sys2Proof.Machine

set_option Elab.async false

/-! ## A frame in the flow position -/

/-- The flow frame goes before every other frame (R13). -/
theorem FlowPlaced.chooseNext {f g : Pif} {frame : OutFrame} (h : FlowPlaced f frame)
    (waiting : g.flowWaiting = f.flowWaiting) (sending : g.sending = f.sending) : FlowPlaced g.chooseNext frame := by
  have placed : FlowPlaced g frame := by rwa [FlowPlaced, waiting, sending]
  unfold Pif.chooseNext
  split
  · next idle =>
    obtain ⟨_, free⟩ := idle
    have waits : g.flowWaiting = some frame := placed.resolve_right (by simp [free])
    rw [waits]
    exact .inr rfl
  · exact placed

theorem FlowPlaced.offer {f : Pif} {frame : OutFrame} (h : FlowPlaced f frame) (producer : Producer) (x : TxItem) :
    FlowPlaced (f.offer producer x) frame := by
  unfold Pif.offer
  split
  · exact h
  · split
    · exact h.chooseNext rfl rfl
    · exact h

/-! ## The part-hold flag set -/

section
variable {p : Path}

theorem makeGrant_pif_of_held {s : State} (g : GrantRequest) (held : (s.pif.get p).partHold = true) :
    (makeGrant g s).pif.get p = s.pif.get p := by
  cases found : s.entry? g.slot with
  | none =>
    rw [makeGrant, found]
    rfl
  | some e =>
    rw [makeGrant_eq found]
    by_cases own : g.path = p
    · rw [own, testHold_eq_self (.inr (.inl (by simpa using held)))]
      simp
    · unfold testHold
      split
      · rw [State.onPif_pif, Both.get_set_ne _ _ (Ne.symm own)]
        simp
      · simp

theorem walkFrom_pif_of_held {s : State} (l : List GrantRequest) (full : Both Bool) (held : (s.pif.get p).partHold = true) :
    (walkFrom l full s).pif.get p = s.pif.get p := by
  induction l generalizing full s with
  | nil => rfl
  | cons g rest ih =>
    unfold walkFrom
    split
    · exact ih full held
    · split
      · exact ih _ held
      · split
        · rfl
        · have same := makeGrant_pif_of_held g held
          exact (ih full (by rwa [same])).trans same

theorem walkGrants_pif_of_held {s : State} (held : (s.pif.get p).partHold = true) :
    (walkGrants s).pif.get p = s.pif.get p := by
  have placed : (placeRequests s).pif.get p = s.pif.get p := by simp
  exact (walkFrom_pif_of_held _ _ (by rwa [placed])).trans placed

theorem arbiterRuns_pif_of_held {s : State} (n : Nat) (held : (s.pif.get p).partHold = true) :
    (arbiterRuns n s).pif.get p = s.pif.get p := by
  induction n generalizing s with
  | zero => rfl
  | succ n ih =>
    unfold arbiterRuns
    split
    · next gift =>
      obtain ⟨_, k, e, run, _, _, _, rfl⟩ := arbiterGift_eq_some_iff.1 gift
      have issued : (issueSegment k e run s).pif.get p = s.pif.get p := by simp
      have same := (walkGrants_pif_of_held (by rwa [issued])).trans issued
      exact (ih (by rwa [same])).trans same
    · rfl

theorem offerReadData_flowPlaced {s : State} {frame : OutFrame} (q : Path) (h : FlowPlaced (s.pif.get p) frame) :
    FlowPlaced ((offerReadData q s).pif.get p) frame := by
  unfold offerReadData
  split
  · exact h
  · split
    · exact h
    · split
      · exact h
      · rw [State.onPif_pif, Both.get_set]
        split
        · next own => exact FlowPlaced.offer (own ▸ h) _ _
        · exact h

/-- Where no occupancy fell, what follows an event leaves the part-hold flag set, and the HOLD placed. -/
theorem follow_held {before s : State} (kept : ∀ q, before.occupancy q ≤ s.occupancy q)
    (held : (s.pif.get p).partHold = true) :
    ((follow before s).pif.get p).partHold = true ∧
      (FlowPlaced (s.pif.get p) .hold → FlowPlaced ((follow before s).pif.get p) .hold) := by
  have untested : testGoAfter before .b (testGoAfter before .a s) = s := by
    rw [testGoAfter, testGoAfter, if_neg (kept .a).not_gt, if_neg (kept .b).not_gt]
  have granted := walkGrants_pif_of_held held
  have given : (runArbiter (walkGrants s)).pif.get p = s.pif.get p :=
    (arbiterRuns_pif_of_held _ (by rwa [granted])).trans granted
  unfold follow
  rw [untested]
  exact ⟨by simp [given, held],
    fun placed => offerReadData_flowPlaced .b (offerReadData_flowPlaced .a (by rwa [given]))⟩

end

end Sys2Proof.Machine
end

section
/-! Write data that is staged (R138, R140 to R143, R147, R150): the block in its page, the page's record, the entry, HOLD and the
acknowledgement, from the moment of staging to the end of the event. -/

namespace Sys2Proof.Machine

set_option Elab.async false

/-! ## The block staged (R142, R143) -/

/-- The record of the page that an entry's next block is staged in (R138). -/
def Entry.stagedPage (page : Nat) (e : Entry) : PageRecord :=
  { number := page, path := e.origin, slot := some e.slot, offset := e.staged, state := .staged }

/-- The entry with one more block staged, which acknowledges a posted write at its last (R142, R143). -/
def Entry.oneStaged (e : Entry) : Entry :=
  { e with staged := e.staged + 1, acked := e.acked || (e.posted && decide (e.staged + 1 = e.count)) }

/-- The state with an entry's next block in the lowest free page, before HOLD is tested (R142). -/
def blockPlaced (e : Entry) (data : List Byte) (s : State) : State :=
  { s.allocate (e.stagedPage (s.freePages.headD 0)) with mem := fillPage s.mem (s.freePages.headD 0) data }

@[simp] theorem blockPlaced_frame (e : Entry) (data : List Byte) (s : State) :
    (blockPlaced e data s).pif = s.pif ∧ (blockPlaced e data s).owc = s.owc ∧ (blockPlaced e data s).ift = s.ift :=
  ⟨rfl, rfl, rfl⟩

section
variable {e : Entry} {data : List Byte} {s : State}

theorem blockPlaced_occupancy (q : Path) :
    (blockPlaced e data s).occupancy q = s.occupancy q + if e.origin = q then 1 else 0 := by
  rw [occupancy_eq_countP, occupancy_eq_countP]
  refine ((insertPage_perm _ _).countP_eq _).trans ?_
  rw [List.countP_cons]
  simp [Entry.stagedPage]

theorem stageBlock_eq : stageBlock e data s =
    if e.posted = true ∧ e.staged + 1 = e.count then
      acknowledge e
        ((testHold e.origin (blockPlaced e data s)).onEntry e.slot (fun x => { x with staged := x.staged + 1 }))
    else (testHold e.origin (blockPlaced e data s)).onEntry e.slot (fun x => { x with staged := x.staged + 1 }) :=
  rfl

theorem stageBlock_mem : (stageBlock e data s).mem = fillPage s.mem (s.freePages.headD 0) data := by
  rw [stageBlock_eq]
  split <;> simp [blockPlaced]

theorem stageBlock_stb : (stageBlock e data s).stb = (blockPlaced e data s).stb := by
  rw [stageBlock_eq]
  split <;> simp

theorem stageBlock_pages_perm :
    (stageBlock e data s).stb.pages.Perm (e.stagedPage (s.freePages.headD 0) :: s.stb.pages) :=
  stageBlock_stb ▸ insertPage_perm _ _

theorem stageBlock_occupancy (q : Path) : s.occupancy q ≤ (stageBlock e data s).occupancy q := by
  rw [occupancy_congr (congrArg Stb.pages stageBlock_stb), blockPlaced_occupancy]
  exact Nat.le_add_right _ _

theorem stageBlock_ift : (stageBlock e data s).ift =
    (s.onEntry e.slot (fun x =>
      { x with staged := x.staged + 1, acked := x.acked || (e.posted && decide (e.staged + 1 = e.count)) })).ift := by
  rw [stageBlock_eq]
  split
  · next last =>
    simp only [acknowledge, State.offer_frame, State.onEntry_ift, testHold_frame, blockPlaced_frame,
      List.map_map]
    congr 1
    funext x
    by_cases own : x.slot = e.slot <;> simp [own, last]
  · next more =>
    have none : (e.posted && decide (e.staged + 1 = e.count)) = false := by simpa using more
    simp [State.onEntry_ift, none]

theorem stageBlock_entry?_same (found : s.entry? e.slot = some e) :
    (stageBlock e data s).entry? e.slot = some e.oneStaged :=
  (entry?_congr stageBlock_ift _).trans (entry?_onEntry_same (f := fun x =>
    { x with staged := x.staged + 1, acked := x.acked || (e.posted && decide (e.staged + 1 = e.count)) })
    (fun _ => rfl) found)

theorem stageBlock_entry?_ne {k : Nat} (other : k ≠ e.slot) : (stageBlock e data s).entry? k = s.entry? k :=
  (entry?_congr stageBlock_ift _).trans (entry?_onEntry_ne (f := fun x =>
    { x with staged := x.staged + 1, acked := x.acked || (e.posted && decide (e.staged + 1 = e.count)) })
    s (fun _ => rfl) other)

/-- HOLD is placed where the occupancy comes to hold_hi with the part-hold flag clear (R150). -/
theorem stageBlock_held (up : (s.pif.get e.origin).link = .up)
    (high : holdHi s.owc.policy e.origin ≤ s.occupancy e.origin + 1) :
    ((stageBlock e data s).pif.get e.origin).partHold = true ∧
      ((s.pif.get e.origin).partHold = false → FlowPlaced ((stageBlock e data s).pif.get e.origin) .hold) := by
  have tested := testHold_holds (s := blockPlaced e data s) (p := e.origin) up
    (by simpa [blockPlaced_occupancy] using high)
  rw [stageBlock_eq]
  split
  · refine ⟨by simpa using tested.1, fun clear => ?_⟩
    rw [acknowledge, State.offer, State.onPif_get_same]
    exact FlowPlaced.offer (tested.2 clear) _ _
  · exact tested

theorem stageBlock_carries (up : (s.pif.get e.origin).link = .up) (posted : e.posted = true)
    (last : e.staged + 1 = e.count) :
    Carries ((stageBlock e data s).pif.get e.origin) (.reply e.tag .posted (BitVec.ofNat 16 e.count) s.owc.epoch) := by
  rw [stageBlock_eq, if_pos ⟨posted, last⟩, acknowledge, State.offer, State.onPif_get_same]
  have carried (f : Pif) (link : f.link = .up) (epoch : Word) (same : epoch = s.owc.epoch) :
      Carries (f.offer .stb { frame := .reply e.tag .posted (BitVec.ofNat 16 e.count) epoch, tie := .plain })
        (.reply e.tag .posted (BitVec.ofNat 16 e.count) s.owc.epoch) := same ▸ carries_offer _ _ link
  exact carried _ (by simpa using up) _ (by simp)

theorem stageBlock_isFetched (k offset : Nat) : (stageBlock e data s).isFetched k offset = s.isFetched k offset := by
  rw [State.isFetched, stageBlock_pages_perm.any_eq, List.any_cons]
  simp [Entry.stagedPage, State.isFetched]

/-- A block staged brings no report due (R126). -/
theorem stageBlock_reportAll (made : ReportsMade s) (found : s.entry? e.slot = some e) (living : e.phase ≠ .ending) :
    reportAll (stageBlock e data s) = stageBlock e data s := by
  refine forSlots_fixed (fun k => reportSlot_of_not_due fun x hx => ?_) _
  by_cases own : k = e.slot
  · rw [own, stageBlock_entry?_same found] at hx
    obtain rfl := Option.some.inj hx
    exact reportDue_of_not_ending living
  · rw [stageBlock_entry?_ne own] at hx
    rw [← made x (mem_of_entry? hx).1]
    exact reportDue_congr (by simp [State.role]) (stageBlock_isFetched x.slot)

end

/-! ## The pages of an entry that has not ended, through the reports of others (R126, R128, R129) -/

/-- From `s` to `t` no page is freed but those of the entry in one slot. -/
def SparesPages (k : Nat) (s t : State) : Prop :=
  ∀ r ∈ s.stb.pages, r.slot ≠ some k → r ∈ t.stb.pages

theorem SparesPages.trans {k : Nat} {s t u : State} (h : SparesPages k s t) (g : SparesPages k t u) :
    SparesPages k s u :=
  fun r hr other => g r (h r hr other) other

theorem SparesPages.of_frame {k : Nat} {s t : State} (stb : t.stb = s.stb := by simp) : SparesPages k s t :=
  fun _ hr _ => stb ▸ hr

theorem SparesPages.freeWhere {k : Nat} {test : PageRecord → Bool} (s : State)
    (own : ∀ r, test r = true → r.slot = some k) : SparesPages k s (s.freeWhere test) :=
  fun r hr other => List.mem_filter.2 ⟨hr, by simpa using fun accepted => other (own r accepted)⟩

theorem discardFetched_spares (k : Nat) (s : State) : SparesPages k s (discardFetched k s) :=
  .freeWhere s fun r => by simp +contextual

theorem dropEntry_spares (k : Nat) (s : State) : SparesPages k s (dropEntry k s) :=
  .freeWhere s fun r => by simp

theorem finalReply_spares (e : Entry) (status : Status) (s : State) : SparesPages e.slot s (finalReply e status s) := by
  have offered (frame : OutFrame) : SparesPages e.slot s (s.offer e.origin (.iftFinal e.slot) frame) := .of_frame
  unfold finalReply
  dsimp only
  split
  · exact .of_frame
  · exact (offered _).trans (dropEntry_spares _ _)

theorem makeReport_spares (e : Entry) (s : State) : SparesPages e.slot s (makeReport e s) := by
  have recorded (outcome : Outcome) : SparesPages e.slot s (reportOrphan e outcome s) := .of_frame
  have marked (f : Entry → Entry) (t : State) : SparesPages e.slot t (t.onEntry e.slot f) := .of_frame
  have removed (outcome : Outcome) := (recorded outcome).trans (dropEntry_spares e.slot _)
  unfold makeReport
  split
  · exact (recorded _).trans <| (marked _ _).trans (finalReply_spares _ _ _)
  · split
    · split
      · exact removed _
      · split
        · exact dropEntry_spares _ s
        · exact removed _
    · split
      · exact removed _
      · split
        · exact finalReply_spares _ _ s
        · exact .of_frame rfl

theorem reportSlot_spares (k : Nat) (s : State) : SparesPages k s (reportSlot k s) := by
  unfold reportSlot
  split
  · exact .of_frame rfl
  · next e found =>
    obtain rfl := (mem_of_entry? found).2
    split
    · exact (discardFetched_spares _ s).trans (makeReport_spares _ _)
    · exact .of_frame rfl

theorem reportSlot_page_living {j k : Nat} {s : State} {e : Entry} {r : PageRecord} (found : s.entry? k = some e)
    (living : e.phase ≠ .ending) (hr : r ∈ s.stb.pages) (own : r.slot = some k) : r ∈ (reportSlot j s).stb.pages := by
  by_cases same : j = k
  · rw [reportSlot_of_not_due fun x hx => ?_]
    · exact hr
    · rw [same, found] at hx
      obtain rfl := Option.some.inj hx
      exact reportDue_of_not_ending living
  · exact reportSlot_spares j s r hr fun other => same (Option.some.inj (other.symm.trans own))

theorem reportAll_page_living {k : Nat} {s : State} {e : Entry} {r : PageRecord} (found : s.entry? k = some e)
    (living : e.phase ≠ .ending) (hr : r ∈ s.stb.pages) (own : r.slot = some k) : r ∈ (reportAll s).stb.pages := by
  have kept := forSlots_keeps (op := reportSlot)
    (P := fun u => (∃ x, u.entry? k = some x ∧ x.phase ≠ .ending) ∧ r ∈ u.stb.pages) (fun j u held => ?_)
    (s.slotsWhere (fun _ => true)) ⟨⟨e, found, living⟩, hr⟩
  · exact kept.2
  · obtain ⟨⟨x, there, still⟩, page⟩ := held
    obtain ⟨y, later, _, _, rfl, ending⟩ := reportSlot_entry?_living (j := j) there still
    exact ⟨⟨_, later, fun h => still (ending.1 h)⟩, reportSlot_page_living there still page own⟩

theorem follow_supplies (before s : State) : Supplies s (follow before s) := by
  have tested : Supplies s (testGoAfter before .b (testGoAfter before .a s)) := .of_frame
  have offered (t : State) : Supplies t (offerReadData .b (offerReadData .a t)) := .of_frame
  exact tested.trans <| (walkGrants_supplies _).trans <| (arbiterRuns_supplies _ _).trans (offered _)

/-! ## The end of the event -/

section
variable {e : Entry} {data : List Byte} {page : Nat} {before s : State}

/-- The page is still the entry's at the end of the event: STAGED, or AT_DRIVE with a segment issued at once (R147). -/
theorem conclude_stageBlock_page (lowest : s.freePages.headD 0 = page) (found : s.entry? e.slot = some e)
    (living : e.phase ≠ .ending) :
    ∃ r ∈ (conclude before (stageBlock e data s)).stb.pages, r.number = page ∧ r.path = e.origin ∧
      r.slot = some e.slot ∧ r.offset = e.staged ∧ (r.state = .staged ∨ r.state = .atDrive) := by
  have staged : e.stagedPage page ∈ (stageBlock e data s).stb.pages :=
    stageBlock_pages_perm.mem_iff.2 (lowest ▸ List.mem_cons_self ..)
  have reported := reportAll_page_living (stageBlock_entry?_same found) living staged rfl
  have supplied := (follow_supplies before (checkDrainEnd (reportAll (stageBlock e data s)))).pages
    (e.stagedPage page) (by simpa using reported)
  rcases supplied with there | ⟨_, there⟩
  · exact ⟨_, there, rfl, rfl, rfl, rfl, .inl rfl⟩
  · exact ⟨_, there, rfl, rfl, rfl, rfl, .inr rfl⟩

/-- The entry counts the block, and is acknowledged at the last of a posted write (R142, R143). -/
theorem conclude_stageBlock_entry (found : s.entry? e.slot = some e) (living : e.phase ≠ .ending)
    (acked : e.acked = false) :
    ∃ x, (conclude before (stageBlock e data s)).entry? e.slot = some x ∧ x.staged = e.staged + 1 ∧ x.tag = e.tag ∧
      x.committed = e.committed ∧ x.acked = (e.posted && decide (e.staged + 1 = e.count)) := by
  obtain ⟨y, reported, blockers, phase, rfl, _⟩ := reportAll_entry?_living (stageBlock_entry?_same (data := data) found) living
  have checked := (entry?_congr (t := checkDrainEnd (reportAll (stageBlock e data s))) (by simp) e.slot).trans reported
  obtain ⟨x, there, standing⟩ := entry?_standing (follow_standing before _) checked
  have counted : x.standing.staged = e.staged + 1 ∧ x.standing.tag = e.tag ∧ x.standing.committed = e.committed ∧
      x.standing.acked = (e.acked || (e.posted && decide (e.staged + 1 = e.count))) := by
    rw [standing]
    exact ⟨rfl, rfl, rfl, rfl⟩
  rw [acked, Bool.false_or] at counted
  exact ⟨x, there, counted⟩

/-- With no report due no page is freed at the event, so that the HOLD stands at its end (R150). -/
theorem conclude_stageBlock_held (made : ReportsMade s) (found : s.entry? e.slot = some e) (living : e.phase ≠ .ending)
    (same : before.stb = s.stb) (up : (s.pif.get e.origin).link = .up)
    (high : holdHi s.owc.policy e.origin ≤ s.occupancy e.origin + 1) :
    ((conclude before (stageBlock e data s)).pif.get e.origin).partHold = true ∧
      ((s.pif.get e.origin).partHold = false →
        FlowPlaced ((conclude before (stageBlock e data s)).pif.get e.origin) .hold) := by
  obtain ⟨held, placed⟩ := stageBlock_held (data := data) up high
  have rises (q : Path) : before.occupancy q ≤ (checkDrainEnd (stageBlock e data s)).occupancy q := by
    rw [occupancy_congr (congrArg Stb.pages same), occupancy_congr (t := checkDrainEnd _) (s := stageBlock e data s)
      (by simp)]
    exact stageBlock_occupancy q
  obtain ⟨still, keeps⟩ := follow_held (p := e.origin) rises (by simpa using held)
  unfold conclude
  rw [stageBlock_reportAll made found living]
  exact ⟨still, fun clear => keeps (by simpa using placed clear)⟩

theorem readByte_conclude_stageBlock (lowest : s.freePages.headD 0 = page) {a : Nat}
    (low : a < pageBase Config.ownershipPage) (outside : ¬(pageBase page ≤ a ∧ a < pageBase page + Config.blockBytes)) :
    readByte (conclude before (stageBlock e data s)).mem a = readByte s.mem a := by
  rw [readByte_conclude _ _ low, stageBlock_mem, lowest, readByte_fillPage, if_neg outside]

/-- The page is not the ownership page, which alone a commit begun at the event writes (R53, R142). -/
theorem readPage_conclude_stageBlock (lowest : s.freePages.headD 0 = page) (wf : memoryWf s.mem = true)
    (full : data.length = Config.blockBytes) (path : page < Config.pathPages) :
    readPage (conclude before (stageBlock e data s)).mem page = data := by
  have filled := memoryWf_fillPage page data wf
  have staged : (stageBlock e data s).mem = fillPage s.mem page data := by rw [stageBlock_mem, lowest]
  refine (readPage_congr ((conclude_buffer before _).mem (by rwa [staged])) filled fun a _ high => ?_).trans
    (readPage_fillPage _ data wf full)
  rw [readByte_conclude, staged]
  simp only [pageBase, Config.blockBytes, Config.ownershipPage, Config.pathPages] at *
  omega

end

theorem takeBlock_staged {e : Entry} {offset : Nat} {s : State} (data : List Byte) (here : offset = e.staged)
    (inRange : e.staged < e.count) (allowed : s.pageAllowed e.origin = true) :
    takeBlock e offset data s = stageBlock e data s := by
  rw [takeBlock, if_neg (by omega), if_pos allowed]

/-- Settles O24: what the staging of the block brings about stands to the end of the event. -/
theorem writeDataStaged : Obligations.WriteDataStaged := by
  intro p tag offset data e s table wf up unfenced writes acked phase cut here inRange allowed full
  obtain ⟨member, rfl, _⟩ := writeEntry?_some writes
  set idle := s.onPif e.origin Pif.clearAssembler with hidle
  have found : idle.entry? e.slot = some e := entry?_of_mem table.slotsDistinct member
  have link : (idle.pif.get e.origin).link = .up :=
    State.linkUp_eq_true.1 ((State.linkUp_clearAssembler e.origin s).trans up)
  have row : exec (.writeData e.origin tag offset data) s = .next (conclude idle (stageBlock e data idle)) := by
    refine congrArg Host.Outcome.next ((frameCompletes_up _ up).trans ?_)
    refine (takeWriteData_live (s := idle) offset data unfenced writes acked phase cut).trans ?_
    rw [takeBlock_staged (s := idle) data here inRange allowed]
  obtain ⟨page, first⟩ : ∃ page, s.freePages.head? = some page := by
    rw [State.pageAllowed, Bool.and_eq_true, Bool.not_eq_true'] at allowed
    exact Option.isSome_iff_exists.1 (by simpa [List.isSome_head?] using allowed.2)
  have lowest : idle.freePages.headD 0 = page := by
    change s.freePages.headD 0 = page
    rw [List.headD_eq_head?_getD, first, Option.getD_some]
  have path : page < Config.pathPages := (mem_freePages.1 (List.mem_of_head? first)).1
  refine ⟨_, page, row, first, ?_, fun a low outside => ?_, ?_, conclude_stageBlock_entry found phase acked,
    fun made high => ?_, fun posted last => ?_, ⟨by simp [hidle], by simp [hidle], by simp [hidle]⟩, by simp [hidle],
    by simp [hidle]⟩
  · exact readPage_conclude_stageBlock (s := idle) lowest wf full path
  · exact readByte_conclude_stageBlock lowest low outside
  · exact conclude_stageBlock_page lowest found phase
  · have madeIdle : ReportsMade idle := fun x there =>
      (reportDue_congr rfl fun o => isFetched_congr rfl x.slot o).trans (made x there)
    have flag : (idle.pif.get e.origin).partHold = (s.pif.get e.origin).partHold := by simp [hidle]
    rw [← flag]
    exact conclude_stageBlock_held madeIdle found phase rfl link high
  · exact ((conclude_advances idle _).pif e.origin).carries _ (stageBlock_carries link posted last)

end Sys2Proof.Machine
end

section
/-! The drive's slots, the order of the table and the reports made: what one change of the machine keeps of them (R93,
R104, R126, R128, R129, R161). -/

namespace Sys2Proof.Machine

set_option Elab.async false

/-! ## What is kept -/

/-- What R161 asks of the Drive Port: its state, the slots laid out, those that are busy, and the reset timer. -/
def Dpt.layout (d : Dpt) : DriveState × Nat × List BusySlot × Option Nat :=
  (d.state, d.slotCount, d.busy, d.resetTimer)

theorem DriveInv.of_layout {s t : State} (h : DriveInv s) (same : t.dpt.layout = s.dpt.layout) : DriveInv t := by
  simp only [Dpt.layout, Prod.mk.injEq] at same
  obtain ⟨state, slots, busy, timer⟩ := same
  unfold DriveInv
  rwa [state, slots, busy, timer]

theorem DriveInv.resetTimer_eq_none {s : State} (h : DriveInv s) (other : s.dpt.state ≠ .resetting) :
    s.dpt.resetTimer = none := by
  obtain ⟨_, _, _, timer⟩ := h
  simpa using mt timer.1 other

/-- An entry in ENDING holds an end status (R126). -/
def Entry.Settled (e : Entry) : Prop :=
  e.phase = .ending → e.endStatus.isSome = true

def TableSettled (s : State) : Prop :=
  ∀ e ∈ s.ift, e.Settled

theorem reportsInv_iff (s : State) : ReportsInv s ↔ TableInv s ∧ TableSettled s ∧ ReportsMade s :=
  Iff.rfl

/-- Going from `s` to `t` the drive's slots, the table's order and the entries' ends are kept. -/
structure KeepsLayout (s t : State) : Prop where
  drive : DriveInv s → DriveInv t
  table : TableInv s → TableInv t
  settled : TableSettled s → TableSettled t

/-- Going from `s` to `t` the reports made are kept too. -/
structure KeepsSlots (s t : State) : Prop where
  layout : KeepsLayout s t
  reports : ReportsInv s → ReportsInv t

theorem KeepsLayout.refl (s : State) : KeepsLayout s s :=
  ⟨id, id, id⟩

theorem KeepsLayout.trans {s t u : State} (h : KeepsLayout s t) (k : KeepsLayout t u) : KeepsLayout s u :=
  ⟨k.drive ∘ h.drive, k.table ∘ h.table, k.settled ∘ h.settled⟩

theorem KeepsSlots.refl (s : State) : KeepsSlots s s :=
  ⟨.refl s, id⟩

theorem KeepsSlots.trans {s t u : State} (h : KeepsSlots s t) (k : KeepsSlots t u) : KeepsSlots s u :=
  ⟨h.layout.trans k.layout, k.reports ∘ h.reports⟩

/-! ## Entries and their order -/

/-- From `x` to `y` an entry keeps its slot and its age, and is not left in ENDING without an end. -/
structure Entry.Orders (x y : Entry) : Prop where
  slot : y.slot = x.slot
  age : y.age = x.age
  settled : x.Settled → y.Settled

theorem Entry.Orders.of_eq {x y : Entry} (slot : y.slot = x.slot := by rfl) (age : y.age = x.age := by rfl)
    (phase : y.phase = x.phase := by rfl) (ended : y.endStatus = x.endStatus := by rfl) : x.Orders y :=
  ⟨slot, age, fun h ending => by rw [ended]; exact h (phase ▸ ending)⟩

theorem Entry.Orders.refl (e : Entry) : e.Orders e :=
  .of_eq

/-- An entry that is given an end. -/
theorem Entry.Orders.of_end {x y : Entry} {st : EndStatus} (slot : y.slot = x.slot := by rfl)
    (age : y.age = x.age := by rfl) (ended : y.endStatus = some st := by rfl) : x.Orders y :=
  ⟨slot, age, fun _ _ => by rw [ended]; rfl⟩

theorem Entry.Orders.unblock (k : Nat) (e : Entry) : e.Orders (e.unblock k) := by
  obtain ⟨_, _, same, ending⟩ := Entry.Freed.unblock k e
  rw [same]
  exact ⟨rfl, rfl, fun h phase => h (ending.1 phase)⟩

/-- Entries leave the table, and those that stay change in nothing that their order rests on. -/
theorem KeepsLayout.of_map {s t : State} {l : List Entry} {f : Entry → Entry} (sub : l.Sublist s.ift)
    (ift : t.ift = l.map f) (hf : ∀ x : Entry, x.Orders (f x)) (adm : t.adm = s.adm := by rfl)
    (layout : t.dpt.layout = s.dpt.layout := by rfl) : KeepsLayout s t where
  drive h := h.of_layout layout
  table h := by
    obtain ⟨ages, slots, each, sequence⟩ := h
    unfold TableInv
    rw [ift, adm]
    refine ⟨List.pairwise_map.2 ((ages.sublist sub).imp fun lt => by rwa [(hf _).age, (hf _).age]),
      List.pairwise_map.2 ((slots.sublist sub).imp fun ne => by rwa [(hf _).slot, (hf _).slot]), fun y hy => ?_,
      sequence⟩
    obtain ⟨x, hx, rfl⟩ := List.mem_map.1 hy
    rw [(hf x).slot, (hf x).age]
    exact each x (sub.subset hx)
  settled h y hy := by
    rw [ift] at hy
    obtain ⟨x, hx, rfl⟩ := List.mem_map.1 hy
    exact (hf x).settled (h x (sub.subset hx))

theorem KeepsLayout.of_frame {s t : State} (ift : t.ift = s.ift := by simp) (adm : t.adm = s.adm := by simp)
    (layout : t.dpt.layout = s.dpt.layout := by simp [Dpt.layout]) : KeepsLayout s t :=
  .of_map (List.Sublist.refl _) (ift.trans (List.map_id _).symm) .refl adm layout

theorem onEntry_layout {k : Nat} {f : Entry → Entry} (s : State) (hf : ∀ x : Entry, x.Orders (f x)) :
    KeepsLayout s (s.onEntry k f) := by
  refine .of_map (List.Sublist.refl _) (State.onEntry_ift k f s) fun x => ?_
  split
  · exact hf x
  · exact .refl x

theorem dropEntry_layout (k : Nat) (s : State) : KeepsLayout s (dropEntry k s) :=
  .of_map List.filter_sublist rfl (.unblock k)

theorem forSlots_layout {op : Nat → State → State} (h : ∀ k s, KeepsLayout s (op k s)) (l : List Nat) (s : State) :
    KeepsLayout s (forSlots op l s) :=
  forSlots_keeps (P := KeepsLayout s) (fun k u kept => kept.trans (h k u)) l (.refl s)

/-! ## Which reports are due -/

/-- A report due with fewer roles FENCED and fewer blocks fetched than before was due then (R126, R131). -/
theorem reportDue_of_reportDue {s t : State} {x : Entry}
    (fenced : t.role x.origin = .fenced → s.role x.origin = .fenced)
    (fetched : ∀ offset, s.isFetched x.slot offset = true → t.isFetched x.slot offset = true)
    (due : t.reportDue x = true) : s.reportDue x = true := by
  simp only [State.reportDue, Bool.and_eq_true, Bool.not_eq_true'] at due ⊢
  refine ⟨due.1, Bool.eq_false_iff.2 fun deliverable => Bool.eq_false_iff.1 due.2 ?_⟩
  simp only [State.deliverable, Bool.and_eq_true] at deliverable ⊢
  refine ⟨?_, fetched _ deliverable.2⟩
  have delivers := deliverable.1
  simp only [Entry.delivering, Bool.and_eq_true, Bool.or_eq_true, bne_iff_ne, ne_eq] at delivers ⊢
  tauto

/-- The reports stay made where each report due in `t` was due in `s`. -/
theorem ReportsMade.of_due {s t : State} (h : ReportsMade s)
    (each : ∀ y ∈ t.ift, t.reportDue y = true → ∃ x ∈ s.ift, s.reportDue x = true) : ReportsMade t := fun y hy => by
  refine Bool.eq_false_iff.2 fun due => ?_
  obtain ⟨x, hx, before⟩ := each y hy due
  exact absurd before (by simp [h x hx])

theorem KeepsSlots.of_reportsMade {s t : State} (layout : KeepsLayout s t)
    (made : TableInv s → TableSettled s → ReportsMade s → ReportsMade t) : KeepsSlots s t where
  layout := layout
  reports h := by
    obtain ⟨table, settled, reported⟩ := (reportsInv_iff s).1 h
    exact ⟨layout.table table, layout.settled settled, made table settled reported⟩

/-- A change that the table, the drive's slots and the pages do not see, and that fences no path. -/
theorem KeepsSlots.of_frame {s t : State} (ift : t.ift = s.ift := by simp) (adm : t.adm = s.adm := by simp)
    (layout : t.dpt.layout = s.dpt.layout := by simp [Dpt.layout]) (pages : t.stb.pages = s.stb.pages := by simp)
    (fenced : ∀ p, t.role p = .fenced → s.role p = .fenced := by simp [State.role]) : KeepsSlots s t := by
  refine .of_reportsMade (.of_frame ift adm layout) fun _ _ made => made.of_due fun y hy due => ?_
  refine ⟨y, ift ▸ hy, reportDue_of_reportDue (fenced y.origin) (fun offset fetched => ?_) due⟩
  unfold State.isFetched at fetched ⊢
  rwa [pages]

/-- A change of OWC's record that leaves the roles. -/
theorem owc_slots {o : Owc} (s : State) (roles : o.roles = s.owc.roles := by rfl) :
    KeepsSlots s { s with owc := o } :=
  .of_frame rfl rfl rfl rfl fun p h => by rwa [State.role, ← roles]

/-- The roles set afresh after such a change: a FENCED path stays FENCED, and no other becomes so (R42). -/
theorem refreshRoles_slots {o : Owc} (s : State) (roles : o.roles = s.owc.roles := by rfl) :
    KeepsSlots s (refreshRoles { s with owc := o }) := by
  refine .of_frame rfl rfl rfl rfl fun p h => ?_
  have still := (refreshRoles_fenced_iff p { s with owc := o }).1 h
  rwa [State.role, ← roles]

end Sys2Proof.Machine
end

section
/-! The reports of an event leave none that is due (R126, R128, R129): each is made once, and none brings another due. -/

namespace Sys2Proof.Machine

set_option Elab.async false

/-! ## The table's order under a report -/

theorem endEntry_layout (slot : Nat) (st : EndStatus) (s : State) : KeepsLayout s (endEntry slot st s) :=
  (onEntry_layout (k := slot) (f := Entry.ended st) s fun _ => .of_end).trans (.of_frame rfl rfl rfl)

theorem decideEnd_layout (st : EndStatus) (slot : Nat) (s : State) : KeepsLayout s (decideEnd st slot s) := by
  unfold decideEnd
  split
  · exact .refl s
  · split
    · exact .refl s
    · exact endEntry_layout slot st s

theorem finalReply_layout (e : Entry) (status : Status) (s : State) : KeepsLayout s (finalReply e status s) := by
  have offered (frame : OutFrame) : KeepsLayout s (s.offer e.origin (.iftFinal e.slot) frame) := .of_frame
  unfold finalReply
  dsimp only
  split
  · exact (offered _).trans (onEntry_layout _ fun _ => .of_eq)
  · exact (offered _).trans (dropEntry_layout _ _)

theorem makeReport_layout (e : Entry) (s : State) : KeepsLayout s (makeReport e s) := by
  have orphaned (outcome : Outcome) : KeepsLayout s (reportOrphan e outcome s) := .of_frame
  have removed (outcome : Outcome) : KeepsLayout s (dropEntry e.slot (reportOrphan e outcome s)) :=
    (orphaned outcome).trans (dropEntry_layout _ _)
  unfold makeReport
  split
  · exact (orphaned _).trans <| (onEntry_layout _ fun _ => .of_eq).trans (finalReply_layout _ _ _)
  · split
    · split
      · exact removed _
      · split
        · exact dropEntry_layout _ s
        · exact removed _
    · split
      · exact removed _
      · split
        · exact finalReply_layout _ _ s
        · exact .refl s

theorem reportSlot_layout (k : Nat) (s : State) : KeepsLayout s (reportSlot k s) := by
  have discarded : KeepsLayout s (discardFetched k s) := .of_frame rfl rfl rfl
  unfold reportSlot
  split
  · exact .refl s
  · split
    · exact discarded.trans (makeReport_layout _ _)
    · exact .refl s

theorem reportAll_layout (s : State) : KeepsLayout s (reportAll s) :=
  forSlots_layout reportSlot_layout _ s

/-! ## One report (R128, R129) -/

/-- No report is due for the entry in a slot. -/
def ReportedAt (k : Nat) (s : State) : Prop :=
  ∀ y ∈ s.ift, y.slot = k → s.reportDue y = false

theorem isFetched_finalReply {e : Entry} {j : Nat} (other : j ≠ e.slot) (status : Status) (s : State) (offset : Nat) :
    (finalReply e status s).isFetched j offset = s.isFetched j offset := by
  unfold finalReply
  dsimp only
  split
  · exact isFetched_congr (by simp) j offset
  · rw [isFetched_dropEntry other]
    exact isFetched_congr (by simp) j offset

theorem isFetched_makeReport {e : Entry} {j : Nat} (other : j ≠ e.slot) (s : State) (offset : Nat) :
    (makeReport e s).isFetched j offset = s.isFetched j offset := by
  have removed (outcome : Outcome) :
      (dropEntry e.slot (reportOrphan e outcome s)).isFetched j offset = s.isFetched j offset := by
    rw [isFetched_dropEntry other]
    exact isFetched_congr (by simp) j offset
  unfold makeReport
  split
  · rw [isFetched_finalReply other]
    exact isFetched_congr (by simp) j offset
  · split
    · split
      · exact removed _
      · split
        · exact isFetched_dropEntry other s offset
        · exact removed _
    · split
      · exact removed _
      · split
        · exact isFetched_finalReply other _ s offset
        · rfl

theorem isFetched_reportSlot {j k : Nat} (other : j ≠ k) (s : State) (offset : Nat) :
    (reportSlot k s).isFetched j offset = s.isFetched j offset := by
  unfold reportSlot
  split
  · rfl
  · next e found =>
    split
    · rw [isFetched_makeReport (by rwa [(mem_of_entry? found).2]), isFetched_discardFetched other]
    · rfl

/-- The report of one slot brings no report of another due (R129). -/
theorem ReportedAt.reportSlot_ne {j k : Nat} {s : State} (other : j ≠ k) (h : ReportedAt j s) :
    ReportedAt j (reportSlot k s) := by
  intro y hy own
  have same (x : Entry) (slot : x.slot = j) : (reportSlot k s).reportDue x = s.reportDue x :=
    reportDue_congr (by simp [State.role]) fun offset => isFetched_reportSlot (by rwa [slot]) s offset
  rw [same y own]
  cases reportSlot_table k s with
  | kept ift => exact h y (ift ▸ hy) own
  | dropped ift =>
    rw [ift] at hy
    obtain ⟨x, hx, rfl⟩ := List.mem_map.1 hy
    rw [reportDue_unblock]
    exact h x (List.mem_filter.1 hx).1 own
  | marked outcome ift =>
    rw [ift] at hy
    obtain ⟨x, hx, rfl⟩ := List.mem_map.1 hy
    by_cases here : x.slot = k
    · rw [if_pos here] at own
      exact absurd (own.symm.trans here) other
    · rw [if_neg here] at own ⊢
      exact h x hx own

/-- After a final reply the entry has left the table or is marked as reported (R128). -/
theorem finalReply_reported (e : Entry) (status : Status) (s : State) :
    ∀ y ∈ (finalReply e status s).ift, y.slot = e.slot → y.reported = true := by
  intro y hy own
  unfold finalReply at hy
  dsimp only at hy
  split at hy
  · obtain ⟨x, _, rfl⟩ := List.mem_map.1 hy
    by_cases here : x.slot = e.slot
    · simp [here]
    · simp [here] at own
  · exact absurd own fun same => by
      simpa [same] using List.find?_eq_none.1 (entry?_dropEntry_same e.slot _) y hy

theorem makeReport_reported {e : Entry} (ended : e.endStatus.isSome = true) (s : State) :
    ∀ y ∈ (makeReport e s).ift, y.slot = e.slot → y.reported = true := by
  have removed (u : State) : ∀ y ∈ (dropEntry e.slot u).ift, y.slot = e.slot → y.reported = true :=
    fun y hy own => absurd own fun same => by
      simpa [same] using List.find?_eq_none.1 (entry?_dropEntry_same e.slot u) y hy
  unfold makeReport
  split
  · exact finalReply_reported _ _ _
  · split
    · split
      · exact removed _
      · split
        · exact removed _
        · exact removed _
    · split
      · exact removed _
      · split
        · exact finalReply_reported _ _ s
        · next none => simp [none] at ended

/-- The report of a slot is made (R128). -/
theorem reportSlot_reportedAt {k : Nat} {s : State} (distinct : SlotsDistinct s) (settled : TableSettled s) :
    ReportedAt k (reportSlot k s) := by
  intro y hy own
  unfold reportSlot at hy ⊢
  split at hy
  · next none => exact absurd own fun same => by simpa [same] using List.find?_eq_none.1 none y hy
  · next e found =>
    obtain ⟨member, slot⟩ := mem_of_entry? found
    split at hy
    · next due =>
      have ending : e.phase = .ending := by
        by_contra other
        simp [reportDue_of_not_ending other] at due
      have reported := makeReport_reported (settled e member ending) (discardFetched k s) y hy (own.trans slot.symm)
      simp [State.reportDue, reported]
    · next quiet =>
      have same := entry?_of_mem distinct hy
      rw [own, found] at same
      cases same
      simp [quiet]

theorem reportSlot_keeps_reportedAt {j k : Nat} {s : State} (distinct : SlotsDistinct s) (settled : TableSettled s)
    (h : ReportedAt j s) : ReportedAt j (reportSlot k s) := by
  by_cases other : j = k
  · subst other
    exact reportSlot_reportedAt distinct settled
  · exact h.reportSlot_ne other

/-! ## The reports of an event -/

/-- Where no other report is due, none is after the report of a slot. -/
theorem reportSlot_reportsMade {k : Nat} {s : State} (distinct : SlotsDistinct s) (settled : TableSettled s)
    (others : ∀ x ∈ s.ift, x.slot ≠ k → s.reportDue x = false) : ReportsMade (reportSlot k s) := by
  intro y hy
  by_cases own : y.slot = k
  · exact reportSlot_reportedAt distinct settled y hy own
  · have quiet : ReportedAt y.slot s := fun x hx same => others x hx (same ▸ own)
    exact quiet.reportSlot_ne own y hy rfl

theorem forSlots_reportSlot_reportedAt {k : Nat} {l : List Nat} {s : State} (distinct : SlotsDistinct s)
    (settled : TableSettled s) (h : k ∈ l ∨ ReportedAt k s) : ReportedAt k (forSlots reportSlot l s) := by
  induction l generalizing s with
  | nil => exact h.resolve_left (by simp)
  | cons j rest ih =>
    refine ih ((reportSlot_table j s).slotsDistinct distinct) ((reportSlot_layout j s).settled settled) ?_
    rcases h with listed | quiet
    · rcases List.mem_cons.1 listed with rfl | later
      · exact .inr (reportSlot_reportedAt distinct settled)
      · exact .inl later
    · exact .inr (reportSlot_keeps_reportedAt distinct settled quiet)

/-- After the reports of an event none is due. -/
theorem reportAll_reportsMade {s : State} (distinct : SlotsDistinct s) (settled : TableSettled s) :
    ReportsMade (reportAll s) := by
  intro y hy
  obtain ⟨x, hx, slot, _, _⟩ := (reportAll_thins s).entries y hy
  have listed : y.slot ∈ s.slotsWhere (fun _ => true) :=
    slot ▸ List.mem_map_of_mem (List.mem_filter.2 ⟨hx, rfl⟩)
  exact forSlots_reportSlot_reportedAt distinct settled (.inl listed) y hy rfl

/-- The reports of an event are made whatever the event has brought due. -/
theorem reportAll_slots {s u : State} (h : KeepsLayout s u) : KeepsSlots s (reportAll u) where
  layout := h.trans (reportAll_layout u)
  reports inv := by
    obtain ⟨table, settled, _⟩ := (reportsInv_iff s).1 inv
    have reported := reportAll_layout u
    exact ⟨reported.table (h.table table), reported.settled (h.settled settled),
      reportAll_reportsMade (h.table table).slotsDistinct (h.settled settled)⟩

/-- A report that is not due is not made, and so nothing changes where all are made. -/
theorem reportSlot_slots (k : Nat) (s : State) : KeepsSlots s (reportSlot k s) := by
  refine .of_reportsMade (reportSlot_layout k s) fun _ _ made => ?_
  rwa [reportSlot_of_not_due fun e found => made e (mem_of_entry? found).1]

end Sys2Proof.Machine
end

section
/-! The drive's slots, the order of the table and the reports made: grants, gifts of the slot arbiter, requests for the
reserved slot, fencing and drains keep them. -/

namespace Sys2Proof.Machine

set_option Elab.async false

/-! ## A slot taken (R161 to R164) -/

/-- A free slot of a READY drive takes a command of its kind (R161). -/
theorem DriveInv.takeSlot {s : State} {b : BusySlot} (h : DriveInv s) (ready : s.dpt.state = .ready)
    (free : s.slotBusy b.slot = false) (sound : 2 ≤ s.dpt.slotCount → SlotSound s.dpt.slotCount b) :
    DriveInv { s with dpt := { s.dpt with busy := s.dpt.busy ++ [b] } } := by
  obtain ⟨laid, _, _, timer⟩ := h
  obtain ⟨least, most, apart, each⟩ := laid ready
  have unused : ∀ x ∈ s.dpt.busy, x.slot ≠ b.slot := by simpa [State.slotBusy] using free
  refine ⟨fun _ => ⟨least, most, ?_, fun x hx => ?_⟩, fun other => ?_, fun other => absurd ready other, timer⟩
  · refine List.pairwise_append.2 ⟨apart, List.pairwise_singleton .., fun x hx y hy => ?_⟩
    rw [List.mem_singleton.1 hy]
    exact unused x hx
  · rcases List.mem_append.1 hx with old | new
    · exact each x old
    · rw [List.mem_singleton.1 new]
      exact sound least
  · exact absurd (ready.symm.trans other) (by simp)

theorem DriveInv.freeSlot {s : State} (h : DriveInv s) (ready : s.dpt.state = .ready) (k : Nat) :
    DriveInv (s.freeSlot k) := by
  obtain ⟨laid, _, _, timer⟩ := h
  obtain ⟨least, most, apart, each⟩ := laid ready
  exact ⟨fun _ => ⟨least, most, apart.filter _, fun b hb => each b (List.mem_filter.1 hb).1⟩,
    fun other => absurd (ready.symm.trans other) (by simp), fun other => absurd ready other, timer⟩

/-- A change of the Drive Port alone. -/
theorem KeepsSlots.of_dpt {s : State} {d : Dpt} (drive : DriveInv s → DriveInv { s with dpt := d }) :
    KeepsSlots s { s with dpt := d } :=
  ⟨⟨drive, id, id⟩, id⟩

theorem freeSlot_slots {s : State} (ready : s.dpt.state = .ready) (k : Nat) : KeepsSlots s (s.freeSlot k) :=
  .of_dpt fun h => h.freeSlot ready k

theorem issueReserved_slots (s : State) : KeepsSlots s (issueReserved s) := by
  unfold issueReserved
  split
  · exact .refl s
  · next op _ =>
    split
    · next due =>
      obtain ⟨ready, free⟩ := due
      have last (laid : 2 ≤ s.dpt.slotCount) : s.dpt.slotCount - 1 + 1 = s.dpt.slotCount := by omega
      exact .of_dpt fun h =>
        (h.takeSlot (b := ⟨_, .blockOp op s.owc.attempt, s.driveTimeout⟩) ready free last).of_layout rfl
    · exact .refl s

theorem requestBlockOp_slots (op : BlockOp) (s : State) : KeepsSlots s (requestBlockOp op s) := by
  have asked : KeepsSlots s { s with dpt := { s.dpt with request := some op } } := .of_frame rfl rfl rfl rfl fun _ => id
  unfold requestBlockOp
  split
  · exact .refl s
  · exact asked.trans (issueReserved_slots _)

/-! ## Grants and gifts (R121, R145, R146, R162) -/

theorem mem_insertPage_of_mem {r x : PageRecord} {l : List PageRecord} (h : x ∈ l) : x ∈ insertPage r l := by
  induction l with
  | nil => cases h
  | cons y rest ih =>
    unfold insertPage
    split
    · exact List.mem_cons_of_mem r h
    · rcases List.mem_cons.1 h with rfl | h
      · exact List.mem_cons_self ..
      · exact List.mem_cons_of_mem y (ih h)

theorem allocateRun_pages_subset (slot : Nat) (p : Path) (offset : Nat) (l : List Nat) (s : State) :
    s.stb.pages ⊆ (allocateRun slot p offset l s).stb.pages := by
  induction l generalizing offset s with
  | nil => exact List.Subset.refl _
  | cons n rest ih => exact fun r hr => ih (offset + 1) _ (mem_insertPage_of_mem hr)

theorem isFetched_of_subset {s t : State} (h : s.stb.pages ⊆ t.stb.pages) {k offset : Nat}
    (fetched : s.isFetched k offset = true) : t.isFetched k offset = true := by
  obtain ⟨r, hr, own⟩ := List.any_eq_true.1 fetched
  exact List.any_eq_true.2 ⟨r, h hr, own⟩

/-- Where each entry in ENDING is one from before but for its grant, and no fetched block of it is lost, no report comes
due. -/
theorem ReportsMade.of_ending {s t : State} (h : ReportsMade s) (role : t.owc.roles = s.owc.roles)
    (each : ∀ y ∈ t.ift, y.phase = .ending → ∃ x ∈ s.ift, (∃ grant, y = { x with readGrant := grant }) ∧
      ∀ offset, s.isFetched x.slot offset = true → t.isFetched x.slot offset = true) : ReportsMade t := by
  refine h.of_due fun y hy due => ?_
  have ending : y.phase = .ending := by
    by_contra other
    simp [reportDue_of_not_ending other] at due
  obtain ⟨x, hx, ⟨grant, rfl⟩, fetched⟩ := each y hy ending
  exact ⟨x, hx, reportDue_of_reportDue (x := x) (by simp [State.role, role]) fetched due⟩

theorem withdrawRequest_slots (slot : Nat) (s : State) : KeepsSlots s (withdrawRequest slot s) :=
  .of_frame rfl rfl rfl rfl fun _ => id

theorem makeGrant_slots (g : GrantRequest) (s : State) : KeepsSlots s (makeGrant g s) := by
  cases found : s.entry? g.slot with
  | none =>
    rw [makeGrant, found]
    exact withdrawRequest_slots _ s
  | some e =>
    let allocated := allocateRun g.slot g.path e.frontier (s.freePages.take g.length) s
    let granted := allocated.onEntry g.slot (fun x => { x with readGrant := some g.length })
    have layout : KeepsLayout s granted :=
      (KeepsLayout.of_frame : KeepsLayout s (allocateRun ..)).trans (onEntry_layout _ fun _ => .of_eq)
    have made : KeepsSlots s granted := by
      refine .of_reportsMade layout fun _ _ made => made.of_ending (by simp [granted, allocated]) fun y hy _ => ?_
      obtain ⟨x, hx, rfl⟩ := List.mem_map.1 hy
      have before : x ∈ s.ift := by simpa [allocated] using hx
      refine ⟨x, before, ?_, fun offset => isFetched_of_subset (allocateRun_pages_subset ..)⟩
      split
      · exact ⟨some g.length, rfl⟩
      · exact ⟨x.readGrant, rfl⟩
    rw [makeGrant_eq found]
    have tested (t : State) : KeepsSlots t (testHold g.path t) := .of_frame
    exact made.trans <| (withdrawRequest_slots _ _).trans (tested _)

theorem walkFrom_slots (l : List GrantRequest) (full : Both Bool) (s : State) : KeepsSlots s (walkFrom l full s) := by
  induction l generalizing full s with
  | nil => exact .refl s
  | cons g rest ih =>
    unfold walkFrom
    split
    · exact ih full s
    · split
      · exact ih _ s
      · split
        · exact .refl s
        · exact (makeGrant_slots g s).trans (ih full _)

theorem walkGrants_slots (s : State) : KeepsSlots s (walkGrants s) := by
  have placed : KeepsSlots s (placeRequests s) := .of_frame (placeRequests_ift s)
  exact placed.trans (walkFrom_slots _ _ _)

theorem issueSegment_slots {k : Nat} {e : Entry} {run : Run} {s : State} (ready : s.dpt.state = .ready)
    (free : s.freePathSlot = some k) (member : e ∈ s.ift) (running : e.phase = .running) :
    KeepsSlots s (issueSegment k e run s) := by
  have within : k < s.dpt.slotCount - 1 := List.mem_range.1 (List.mem_of_find?_eq_some free)
  have unused : s.slotBusy k = false := by simpa using List.find?_some free
  let taken := s.takeSlot k (.segment e.slot run.offset run.length e.op) (segmentDescriptor k e run s)
  have slotTaken : KeepsSlots s taken := by
    have below : k + 1 < s.dpt.slotCount := by omega
    exact .of_dpt fun h =>
      (h.takeSlot (b := ⟨k, .segment e.slot run.offset run.length e.op, s.driveTimeout⟩) ready unused
        fun _ => below).of_layout rfl
  have layout : KeepsLayout taken (issueSegment k e run s) :=
    (KeepsLayout.of_frame (t := taken.markPages e.slot run.offset run.length .atDrive)).trans
      (onEntry_layout _ fun x => .of_eq (by simp) (by simp) (by simp) (by simp))
  refine .of_reportsMade (slotTaken.layout.trans layout) fun table _ made => ?_
  refine made.of_ending (by simp) fun y hy ending => ?_
  obtain ⟨x, hx, rfl⟩ := List.mem_map.1 hy
  have other : x.slot ≠ e.slot := fun own => by
    have found := entry?_of_mem table.slotsDistinct (e := x) hx
    rw [own, entry?_of_mem table.slotsDistinct member] at found
    cases found
    simp [running] at ending
  rw [if_neg other]
  refine ⟨x, hx, ⟨x.readGrant, rfl⟩, fun offset fetched => ?_⟩
  obtain ⟨r, hr, own⟩ := List.any_eq_true.1 fetched
  refine List.any_eq_true.2 ⟨_, List.mem_map_of_mem hr, ?_⟩
  have apart : r.within e.slot run.offset run.length = false := by
    simp only [PageRecord.within, Bool.and_eq_true, beq_iff_eq] at own
    obtain ⟨⟨⟨slot, _⟩, _⟩, _⟩ := own
    simp [PageRecord.within, slot, other]
  rwa [apart]

theorem arbiterRuns_slots (n : Nat) (s : State) : KeepsSlots s (arbiterRuns n s) := by
  induction n generalizing s with
  | zero => exact .refl s
  | succ n ih =>
    unfold arbiterRuns
    split
    · next gift =>
      obtain ⟨ready, k, e, run, free, oldest, issuable, rfl⟩ := arbiterGift_eq_some_iff.1 gift
      have running := Entry.running_of_issuable (e := e) (by rw [issuable]; rfl)
      exact (issueSegment_slots ready free (List.mem_of_find?_eq_some oldest) running).trans <|
        (walkGrants_slots _).trans (ih _)
    · exact .refl s

theorem runArbiter_slots (s : State) : KeepsSlots s (runArbiter s) :=
  arbiterRuns_slots _ s

theorem follow_slots (before s : State) : KeepsSlots s (follow before s) := by
  have tested : KeepsSlots s (testGoAfter before .b (testGoAfter before .a s)) := .of_frame
  have offered (t : State) : KeepsSlots t (offerReadData .b (offerReadData .a t)) := .of_frame
  exact tested.trans <| (walkGrants_slots _).trans <| (runArbiter_slots _).trans (offered _)

/-! ## Commits and the end of an event (R53, R80) -/

theorem beginCommit_slots (purpose : Purpose) (c : Contents) (s : State) : KeepsSlots s (beginCommit purpose c s) := by
  refine .trans ?_ (requestBlockOp_slots .commit _)
  exact .of_frame rfl rfl rfl rfl fun _ => id

theorem beginTransition_slots (purpose : Purpose) (s : State) : KeepsSlots s (beginTransition purpose s) := by
  unfold beginTransition
  split
  · exact owc_slots s
  · exact beginCommit_slots _ _ s

theorem beginWaiting_slots (s : State) : KeepsSlots s (beginWaiting s) := by
  unfold beginWaiting
  split
  · split
    · exact .refl s
    · exact beginCommit_slots _ _ s
  · exact .refl s

theorem checkDrainEnd_slots (s : State) : KeepsSlots s (checkDrainEnd s) := by
  unfold checkDrainEnd
  split
  · split
    · exact (refreshRoles_slots s).trans (beginTransition_slots _ _)
    · exact .refl s
  · exact .refl s

/-- The end of an event makes the reports that it has brought due (R128). -/
theorem KeepsLayout.conclude {s u : State} (h : KeepsLayout s u) (before : State) : KeepsSlots s (conclude before u) :=
  (reportAll_slots h).trans <| (checkDrainEnd_slots _).trans (follow_slots before _)

theorem enterWaiting_layout (p : Path) (s : State) : KeepsLayout s (enterWaiting p s) := by
  have entered : KeepsLayout s (s.onPif p Pif.enterWaiting) := .of_frame
  unfold enterWaiting
  dsimp only
  split
  · exact entered.trans (dropEntry_layout _ _)
  · exact entered

/-! ## Fencing and drains (R71 to R78, R80) -/

theorem fenceEntry_layout (slot : Nat) (s : State) : KeepsLayout s (fenceEntry slot s) := by
  rcases fenceEntry_cases slot s with same | ⟨e, _, _, dropped⟩ | ⟨e, found, reported, acked⟩
  · rw [same]
    exact .refl s
  · have kept : KeepsLayout s (s.onPif e.origin (Pif.keepReply slot)) := .of_frame
    rw [dropped]
    exact kept.trans (dropEntry_layout slot _)
  · have ended : KeepsLayout s ((endEntry slot .fenced s).onEntry slot
        (fun x => { x with fencedOutcome := some e.fencingOutcome })) :=
      (endEntry_layout slot _ s).trans (onEntry_layout _ fun _ => .of_eq)
    have discarded (t : State) : KeepsLayout t (discardFetched slot t) := .of_frame rfl rfl rfl
    rw [fenceEntry_open found reported acked]
    dsimp only
    split
    · exact ended.trans (discarded _)
    · exact ended

theorem fence_layout (p : Path) (s : State) : KeepsLayout s (fence p s) := by
  have answered (l : List QueuedFrame) (t : State) : KeepsLayout t (l.foldl (answerFenced p) t) := by
    induction l generalizing t with
    | nil => exact .refl t
    | cons x rest ih => exact KeepsLayout.trans .of_frame (ih _)
  have emptied : KeepsLayout s ((setRole p .fenced s).onPif p Pif.emptyReceive) := .of_frame rfl rfl rfl
  have withdrawn (t : State) : KeepsLayout t (withdrawPathReadData p t) := .of_frame
  exact emptied.trans <| (answered _ _).trans <| (withdrawn _).trans <| (enterWaiting_layout p _).trans <|
    (forSlots_layout fenceEntry_layout _ _).trans (reportAll_layout _)

theorem owc_layout (o : Owc) (s : State) : KeepsLayout s { s with owc := o } :=
  .of_frame rfl rfl rfl

theorem timed_layout (s : State) : KeepsLayout s (refreshRoles (startDrainTimer s)) :=
  .of_frame rfl rfl rfl

theorem beginFencedDrain_slots (cause : DrainCause) (owner : Path) (s : State) :
    KeepsSlots s (beginFencedDrain cause owner s) :=
  ((owc_layout _ s).trans <| (fence_layout owner _).trans (timed_layout _)).conclude s

theorem beginReleaseDrain_slots (cause : DrainCause) (releaser : Path) (successor : Option Path) (s : State) :
    KeepsSlots s (beginReleaseDrain cause releaser successor s) :=
  ((owc_layout _ s).trans (timed_layout _)).conclude s

theorem ownerLost_slots (p : Path) (s : State) : KeepsSlots s (ownerLost p s) := by
  unfold ownerLost
  split
  · split
    · exact beginFencedDrain_slots _ p s
    · exact refreshRoles_slots s
  · exact .refl s

end Sys2Proof.Machine
end

section
/-! The drive's slots, the order of the table and the reports made: completions, aborts, and the courses of OWC and DPT
keep them. -/

namespace Sys2Proof.Machine

set_option Elab.async false

/-! ## Completions (R117, R122 to R126) -/

theorem countZeroProgress_layout (slot : Nat) (s : State) : KeepsLayout s (countZeroProgress slot s) := by
  unfold countZeroProgress
  split
  · exact .refl s
  · split
    · exact onEntry_layout s fun _ => .of_eq
    · exact decideEnd_layout _ slot s

theorem dropOutstanding_layout (slot driveSlot : Nat) (s : State) : KeepsLayout s (dropOutstanding slot driveSlot s) :=
  onEntry_layout s fun _ => .of_eq

theorem freeRun_layout (slot offset length : Nat) (s : State) : KeepsLayout s (s.freeRun slot offset length) :=
  .of_frame rfl rfl rfl

theorem markPages_layout (slot offset length : Nat) (st : PageState) (s : State) :
    KeepsLayout s (s.markPages slot offset length st) :=
  .of_frame rfl rfl rfl

theorem countDone_layout (e : Entry) (offset done : Nat) (blocks : List (List Byte)) (s : State) :
    KeepsLayout s (countDone e offset done blocks s) := by
  have placed (offset : Nat) (l : List (List Byte)) (t : State) : KeepsLayout t (placeBlocks e.slot offset l t) :=
    .of_frame (placeBlocks_ift ..)
  unfold countDone
  split
  · exact .refl s
  · exact (freeRun_layout _ _ _ s).trans (onEntry_layout _ fun _ => .of_eq)
  · dsimp only
    split
    · exact (onEntry_layout s fun _ => .of_eq).trans <| (placed _ _ _).trans (markPages_layout _ _ _ _ _)
    · exact (onEntry_layout s fun _ => .of_eq).trans (freeRun_layout _ _ _ _)

theorem returnUndone_layout (e : Entry) (offset length : Nat) (s : State) :
    KeepsLayout s (returnUndone e offset length s) := by
  unfold returnUndone
  split
  · exact .refl s
  · dsimp only
    split
    · exact (onEntry_layout s fun _ => .of_eq).trans <| (markPages_layout _ _ _ _ _).trans
        (onEntry_layout _ fun _ => .of_eq)
    · exact (onEntry_layout s fun _ => .of_eq).trans (freeRun_layout _ _ _ _)

theorem finishIfDone_layout (slot : Nat) (s : State) : KeepsLayout s (finishIfDone slot s) := by
  unfold finishIfDone
  split
  · exact .refl s
  · split
    · exact endEntry_layout slot _ s
    · exact .refl s

theorem completeBlocks_layout (e : Entry) (offset length : Nat) (cls : CompletionClass) (done : Nat)
    (blocks : List (List Byte)) (s : State) : KeepsLayout s (completeBlocks e offset length cls done blocks s) := by
  cases cls with
  | good => exact (countDone_layout e offset length blocks s).trans (finishIfDone_layout _ _)
  | partialDone =>
    have returned := (countDone_layout e offset done blocks s).trans
      (returnUndone_layout e (offset + done) (length - done) _)
    unfold completeBlocks
    dsimp only
    split
    · exact returned.trans (countZeroProgress_layout _ _)
    · exact returned
  | media =>
    have ended := decideEnd_layout .mediaError e.slot s
    unfold completeBlocks
    dsimp only
    split
    · exact ended
    · exact ended.trans <| (countDone_layout _ _ _ _ _).trans (returnUndone_layout _ _ _ _)

theorem completeFlush_layout (e : Entry) (cls : CompletionClass) (s : State) :
    KeepsLayout s (completeFlush e cls s) := by
  cases cls with
  | good => exact (onEntry_layout s fun _ => .of_eq).trans (finishIfDone_layout _ _)
  | partialDone => exact countZeroProgress_layout _ s
  | media => exact decideEnd_layout _ _ s

theorem takeCompletion_layout (slot driveSlot offset length : Nat) (cls : CompletionClass) (done : Nat)
    (blocks : List (List Byte)) (s : State) :
    KeepsLayout s (takeCompletion slot driveSlot offset length cls done blocks s) := by
  have dropped := dropOutstanding_layout slot driveSlot s
  unfold takeCompletion
  dsimp only
  split
  · exact dropped
  · split
    · exact dropped.trans (completeFlush_layout _ _ _)
    · exact dropped.trans (completeBlocks_layout _ _ _ _ _ _ _)

/-! ## Aborts and the drive's failure (R124, R174) -/

theorem abortSegments_layout (slot : Nat) (l : List Segment) (s : State) : KeepsLayout s (abortSegments slot l s) := by
  induction l generalizing s with
  | nil => exact .refl s
  | cons g rest ih =>
    have dropped := dropOutstanding_layout slot g.driveSlot s
    unfold abortSegments
    dsimp only
    split
    · exact dropped.trans (ih _)
    · exact dropped.trans <| (returnUndone_layout _ _ _ _).trans (ih _)

theorem abortEntry_layout (slot : Nat) (s : State) : KeepsLayout s (abortEntry slot s) := by
  unfold abortEntry
  split
  · exact .refl s
  · split
    · exact .refl s
    · exact (abortSegments_layout slot _ s).trans (countZeroProgress_layout slot _)

theorem failSegments_layout (slot : Nat) (l : List Segment) (s : State) : KeepsLayout s (failSegments slot l s) := by
  induction l generalizing s with
  | nil => exact .refl s
  | cons g rest ih =>
    exact (dropOutstanding_layout slot _ s).trans <| (onEntry_layout _ fun _ => .of_eq).trans <|
      (freeRun_layout _ _ _ _).trans (ih _)

theorem failEntry_layout (slot : Nat) (s : State) : KeepsLayout s (failEntry slot s) := by
  unfold failEntry
  split
  · exact .refl s
  · exact (failSegments_layout slot _ s).trans (decideEnd_layout _ slot _)

/-! ## Health (R25, R26, R36, R37) -/

theorem reportHealth_slots (p : Path) (old new : Health) (s : State) : KeepsSlots s (reportHealth p old new s) := by
  have raised (t : State) : KeepsSlots t (raiseIn p.other .partnerLost t) := .of_frame
  have healthy : KeepsSlots s (ownerHealthy p s) := by
    unfold ownerHealthy
    split
    · exact refreshRoles_slots s
    · exact .refl s
  unfold reportHealth
  cases new with
  | lost =>
    dsimp only
    split
    · exact (ownerLost_slots p s).trans (raised _)
    · exact ownerLost_slots p s
  | healthy => simpa using healthy
  | doubtful => simpa using KeepsSlots.refl s

theorem reportChange_slots (p : Path) (old : Health) (s : State) : KeepsSlots s (reportChange p old s) := by
  unfold reportChange
  split
  · exact .refl s
  · exact reportHealth_slots p old _ s

theorem reevaluate_slots (p : Path) (s : State) : KeepsSlots s (reevaluate p s) := by
  have judged : KeepsSlots s (judgeHealth p s) := .of_frame
  exact judged.trans (reportChange_slots p _ _)

theorem reevaluateBoth_slots (s : State) : KeepsSlots s (reevaluateBoth s) := by
  have judged : KeepsSlots s (judgeHealth .b (judgeHealth .a s)) := .of_frame
  exact judged.trans <| (reportChange_slots .a _ _).trans (reportChange_slots .b _ _)

theorem applyScore_slots (p : Path) (score : Nat) (s : State) : KeepsSlots s (applyScore p score s) := by
  have scored : KeepsSlots s (s.onHmon p (fun h => { h with score := score })) := .of_frame
  unfold applyScore
  split
  · exact .refl s
  · exact scored.trans (reevaluate_slots p _)

theorem linkError_slots (p : Path) (s : State) : KeepsSlots s (linkError p s) := by
  have raised (t : State) : KeepsSlots t (raiseIn p .linkError t) := .of_frame
  exact (applyScore_slots p _ s).trans (raised _)

/-! ## A policy's take-effect, FROZEN and the load (R59 to R65) -/

theorem takeEffect_slots (r : PolicyRecord) (s : State) : KeepsSlots s (takeEffect r s) := by
  have tested (t : State) : KeepsSlots t (testThresholds .b (testThresholds .a t)) := .of_frame
  exact (refreshRoles_slots s).trans <| (reevaluateBoth_slots _).trans <| (tested _).trans (follow_slots _ _)

theorem enterFrozen_slots (cause : FrozenCause) (s : State) : KeepsSlots s (enterFrozen cause s) := by
  have told (t : State) : KeepsSlots t (settleReplies s.owc s.owc.owedReplies (sendNotices (raiseBoth .frozen t))) :=
    .of_frame
  unfold enterFrozen
  split
  · exact owc_slots s
  · exact (refreshRoles_slots s).trans (told _)

theorem enterLoading_slots (s : State) : KeepsSlots s (enterLoading s) :=
  refreshRoles_slots s

theorem beginLoad_slots (s : State) : KeepsSlots s (beginLoad s) := by
  refine .trans ?_ (requestBlockOp_slots .load _)
  exact owc_slots s

theorem driveReady_slots (s : State) : KeepsSlots s (driveReady s) := by
  unfold driveReady
  split
  · exact beginLoad_slots s
  · split
    · exact (enterLoading_slots s).trans (beginLoad_slots _)
    · exact issueReserved_slots s

theorem loadBad_slots (s : State) : KeepsSlots s (loadBad s) := by
  have told (r : HistoryRecord) (t : State) : KeepsSlots t
      (sendNotices (raiseBoth .frozen (raiseBoth .blockBad (addHistory r t)))) :=
    .trans (t := addHistory r t) (owc_slots t) .of_frame
  have frozen (t : State) : KeepsSlots t (refreshRoles { t with owc := t.owc.freeze .blockBad }) := refreshRoles_slots t
  unfold loadBad
  exact (takeEffect_slots _ s).trans <| (frozen _).trans (told _ _)

theorem reportIfOwnerLost_slots (s : State) : KeepsSlots s (reportIfOwnerLost s) := by
  unfold reportIfOwnerLost
  split
  · split
    · exact ownerLost_slots _ s
    · exact .refl s
  · exact .refl s

theorem loadGood_slots (owner : Option Path) (epoch : Word) (count : CommitCount) (r : PolicyRecord) (s : State) :
    KeepsSlots s (loadGood owner epoch count r s) := by
  have told (h : HistoryRecord) (t : State) : KeepsSlots t (sendNotices (addHistory h t)) :=
    .trans (t := addHistory h t) (owc_slots t) .of_frame
  have recorded (t : State) : KeepsSlots t (refreshRoles { t with owc := t.owc.loaded owner epoch count }) :=
    refreshRoles_slots t
  unfold loadGood
  exact (takeEffect_slots r s).trans <| (recorded _).trans <| (told _ _).trans (reportIfOwnerLost_slots _)

theorem completeLoad_slots (s : State) : KeepsSlots s (completeLoad s) := by
  unfold completeLoad
  split
  · exact loadGood_slots _ _ _ _ s
  · exact loadGood_slots _ _ _ _ s
  · exact loadBad_slots s

theorem attemptFailed_slots (op : BlockOp) (s : State) : KeepsSlots s (attemptFailed op s) := by
  unfold attemptFailed
  split
  · refine .trans ?_ (requestBlockOp_slots op _)
    exact owc_slots s
  · cases op with
    | load => exact loadBad_slots s
    | commit => exact enterFrozen_slots _ s

/-! ## The success of a commit (R54) -/

theorem policyStep_slots (purpose : Purpose) (s : State) : KeepsSlots s (policyStep purpose s) := by
  unfold policyStep
  split
  · split
    · exact (owc_slots s).trans (takeEffect_slots _ _)
    · exact .refl s
  · exact .refl s

theorem commitSuccess_slots (purpose : Purpose) (c : Contents) (s : State) :
    KeepsSlots s (commitSuccess purpose c s) := by
  have recorded : KeepsSlots s (refreshRoles { s with owc := s.owc.succeed purpose c }) :=
    refreshRoles_slots s (by unfold Owc.succeed; dsimp only; split <;> rfl)
  have told (t : State) : KeepsSlots t (replyFor purpose c (sendNotices (historyStep s.owc purpose c t))) := .of_frame
  have put := recorded.trans <| (policyStep_slots purpose _).trans <| (told _).trans (beginWaiting_slots _)
  unfold commitSuccess
  dsimp only
  split
  · exact put
  · exact put.trans (reportIfOwnerLost_slots _)

theorem operationSucceeded_slots (op : BlockOp) (s : State) : KeepsSlots s (operationSucceeded op s) := by
  unfold operationSucceeded
  split
  · split
    · exact completeLoad_slots s
    · exact .refl s
  · split
    · exact commitSuccess_slots _ _ s
    · exact .refl s

theorem operationFailed_slots (op : BlockOp) (s : State) : KeepsSlots s (operationFailed op s) := by
  unfold operationFailed
  split <;> split
  · exact attemptFailed_slots _ s
  · exact .refl s
  · exact attemptFailed_slots _ s
  · exact .refl s

/-! ## The drive reset and the drive given up (R170, R174) -/

/-- A change after which no slot is busy: RESETTING with its timer running, or the drive given up (R170, R174). -/
theorem KeepsLayout.of_idle {s t : State} (busy : t.dpt.busy = []) (ready : t.dpt.state ≠ .ready)
    (identifying : t.dpt.state ≠ .identifying) (timer : t.dpt.resetTimer.isSome = true ↔ t.dpt.state = .resetting)
    (ift : t.ift = s.ift := by rfl) (adm : t.adm = s.adm := by rfl) : KeepsLayout s t where
  drive _ := ⟨fun h => absurd h ready, fun h => absurd h identifying, fun _ _ => busy, timer⟩
  table h := by
    unfold TableInv
    rwa [ift, adm]
  settled h := by
    unfold TableSettled
    rwa [ift]

theorem raiseBoth_slots (flag : Flag) (s : State) : KeepsSlots s (raiseBoth flag s) :=
  .of_frame

theorem beginReset_slots (s : State) : KeepsSlots s (beginReset s) := by
  have started : KeepsLayout s { s with dpt := s.dpt.startReset } :=
    .of_idle rfl (by simp [Dpt.startReset]) (by simp [Dpt.startReset]) (by simp [Dpt.startReset])
  have aborted : KeepsSlots s (conclude s (resetAborted s)) :=
    (started.trans (forSlots_layout abortEntry_layout _ _)).conclude s
  rw [beginReset_eq]
  refine .trans ?_ (raiseBoth_slots _ _)
  split
  · exact aborted.trans (operationFailed_slots _ _)
  · exact aborted

theorem requestReset_slots (s : State) : KeepsSlots s (requestReset s) := by
  unfold requestReset
  split
  · exact beginReset_slots s
  · exact .refl s

/-- The drive is given up after a change of the Drive Port that has brought it there (R174). -/
theorem giveUp_slots {s₀ s : State} {state : DriveState} (cause : DriveCause)
    (gone : state = .failed ∨ state = .halted ∨ state = .absent) (ift : s.ift = s₀.ift := by rfl)
    (adm : s.adm = s₀.adm := by rfl) : KeepsSlots s₀ (giveUp state cause s) := by
  have given : KeepsLayout s₀ { s with dpt := s.dpt.giveUp state cause } := by
    refine .of_idle rfl ?_ ?_ ?_ ift adm <;> rcases gone with rfl | rfl | rfl <;> simp [Dpt.giveUp]
  exact ((given.trans (enterFrozen_slots .drive _).layout).trans (forSlots_layout failEntry_layout _ _)).conclude s
    |>.trans (raiseBoth_slots _ _)

/-! ## Identify (R158, R159) -/

/-- An IDENTIFY in slot 0 becomes the only command outstanding, with the reset timer stopped (R158). -/
theorem startIdentify_slots {s₀ s : State} (timer : DriveInv s₀ → s.dpt.resetTimer = none)
    (ift : s.ift = s₀.ift := by rfl) (adm : s.adm = s₀.adm := by rfl) (stb : s.stb = s₀.stb := by rfl)
    (owc : s.owc = s₀.owc := by rfl) :
    KeepsSlots s₀ (startIdentify s) := by
  let begun : State := { s with dpt := (startIdentify s).dpt }
  have layout : KeepsLayout s₀ begun := by
    refine ⟨fun h => ⟨nofun, fun _ => ⟨s.driveTimeout, rfl⟩, fun _ other => absurd rfl other, ?_⟩, fun h => ?_,
      fun h => ?_⟩
    · exact ⟨fun running => by simp [begun, startIdentify, State.takeSlot, timer h] at running, nofun⟩
    · unfold TableInv
      rwa [ift, adm]
    · unfold TableSettled
      rwa [ift]
  refine .of_reportsMade layout fun _ _ made => ?_
  have same : ReportsMade s := by
    intro e he
    rw [reportDue_congr (s := s₀) (by simp [State.role, owc]) (isFetched_congr stb _)]
    exact made e (ift ▸ he)
  exact same

end Sys2Proof.Machine
end

section
/-! The drive's slots, the order of the table and the reports made: the records and timers of the Drive Port, the links,
the resets and the carrier keep them. -/

namespace Sys2Proof.Machine

set_option Elab.async false

/-! ## Identify and the records of the drive (R158, R159, R165 to R168) -/

/-- A drive that becomes READY from IDENTIFYING has 2 to 8 slots, none of them busy (R159, R161). -/
theorem DriveInv.enterReady {s : State} {i : Identity} (h : DriveInv s) (identifying : s.dpt.state = .identifying)
    (suited : i.suitable = true) : DriveInv { s with dpt := s.dpt.enterReady i } := by
  have stopped : s.dpt.resetTimer = none := h.resetTimer_eq_none (by simp [identifying])
  have depth : 2 ≤ i.depth := by
    simp only [Identity.suitable, Bool.and_eq_true, decide_eq_true_eq] at suited
    exact suited.2
  refine ⟨fun _ => ⟨?_, Nat.min_le_left .., .nil, List.forall_mem_nil _⟩, nofun, fun other => absurd rfl other, ?_⟩
  · exact Nat.le_min.2 ⟨by decide, depth⟩
  · simp [Dpt.enterReady, stopped]

theorem judgeIdentify_slots {s : State} (i : Identity) (identifying : s.dpt.state = .identifying) :
    KeepsSlots s (judgeIdentify i (s.freeSlot 0)) := by
  unfold judgeIdentify
  split
  · exact giveUp_slots _ (.inl rfl)
  · next suited =>
    split
    · exact giveUp_slots _ (.inl rfl)
    · have readied : KeepsSlots s { s with dpt := (s.freeSlot 0).dpt.enterReady i } :=
        .of_dpt fun h => (h.enterReady identifying (Bool.eq_true_of_not_eq_false suited)).of_layout rfl
      exact readied.trans <| (driveReady_slots _).trans (follow_slots (s.freeSlot 0) _)

theorem countIdentifyFailure_slots (s : State) : KeepsSlots s (countIdentifyFailure s) :=
  .of_frame rfl rfl rfl rfl fun _ => id

theorem identifyFailed_slots {again : State → State} {s : State}
    (h : KeepsSlots s (again (countIdentifyFailure s))) : KeepsSlots s (identifyFailed again s) := by
  unfold identifyFailed
  dsimp only
  split
  · exact h
  · exact (countIdentifyFailure_slots s).trans (giveUp_slots _ (.inl rfl))

theorem identifyRejected_slots {s : State} (status : DriveStatus) (identifying : s.dpt.state = .identifying) :
    KeepsSlots s (identifyRejected status s) := by
  have again : KeepsSlots s (identifyFailed startIdentify s) :=
    identifyFailed_slots (startIdentify_slots fun h => h.resetTimer_eq_none (by simp [identifying]))
  cases status with
  | good => exact .refl s
  | partialDone => exact again
  | media => exact again
  | other => exact giveUp_slots _ (.inr (.inl rfl))

theorem identifyExpired_slots (s : State) : KeepsSlots s (identifyExpired s) := by
  unfold identifyExpired
  split
  · exact identifyFailed_slots ((countIdentifyFailure_slots s).trans (beginReset_slots _))
  · exact .refl s

theorem raiseMedia_slots (status : DriveStatus) (s : State) : KeepsSlots s (raiseMedia status s) := by
  unfold raiseMedia
  split
  · exact raiseBoth_slots _ s
  · exact .refl s

theorem acceptSegment_slots {s : State} (ready : s.dpt.state = .ready) (slot entry offset length : Nat) (op : Op)
    (status : DriveStatus) (done : Nat) (blocks : List (List Byte)) :
    KeepsSlots s (acceptSegment slot entry offset length op status done blocks s) := by
  have freed := (freeSlot_slots ready slot).trans (raiseMedia_slots status _)
  exact (freed.layout.trans (takeCompletion_layout entry slot offset length _ done blocks _)).conclude s

theorem acceptOperation_slots {s : State} (ready : s.dpt.state = .ready) (slot : Nat) (op : BlockOp)
    (status : DriveStatus) (done : Nat) (block : List Byte) : KeepsSlots s (acceptOperation slot op status done block s) := by
  have freed := (freeSlot_slots ready slot).trans (raiseMedia_slots status _)
  have placed (t : State) : KeepsSlots t { t with mem := fillPage t.mem Config.ownershipPage block } :=
    .of_frame rfl rfl rfl rfl fun _ => id
  unfold acceptOperation
  dsimp only
  split
  · cases op with
    | load => exact freed.trans <| (placed _).trans (operationSucceeded_slots _ _)
    | commit => exact freed.trans (operationSucceeded_slots _ _)
  · exact freed.trans (operationFailed_slots op _)

theorem takeReadyRecord_slots {s : State} (ready : s.dpt.state = .ready) (slot : Nat) (status : DriveStatus)
    (done : Nat) (blocks : List (List Byte)) : KeepsSlots s (takeReadyRecord slot status done blocks s) := by
  have violated : KeepsSlots s (giveUp .halted .violation s) := giveUp_slots _ (.inr (.inl rfl))
  unfold takeReadyRecord
  split
  · exact violated
  · split
    · split
      · exact acceptSegment_slots ready ..
      · exact acceptOperation_slots ready ..
      · exact violated
    · exact violated

theorem takeRecord_slots (slot : Nat) (status : DriveStatus) (done : Nat) (blocks : List (List Byte)) (s : State) :
    KeepsSlots s (takeRecord slot status done blocks s) := by
  unfold takeRecord
  cases state : s.dpt.state with
  | ready => exact takeReadyRecord_slots state ..
  | identifying =>
    dsimp only
    split
    · exact identifyRejected_slots status state
    · exact .refl s
  | resetting | failed | halted | absent => exact .refl s

theorem takeReservedRecord_slots (status : DriveStatus) (done : Nat) (block : List Byte) (s : State) :
    KeepsSlots s (takeReservedRecord status done block s) := by
  unfold takeReservedRecord
  split
  · exact .refl s
  · exact takeRecord_slots _ _ _ _ s

theorem takeIdentifyRecord_slots (status : DriveStatus) (done : Nat) (i : Identity) (s : State) :
    KeepsSlots s (takeIdentifyRecord status done i s) := by
  unfold takeIdentifyRecord
  split
  · next due => exact judgeIdentify_slots i due.1
  · exact takeRecord_slots _ _ _ _ s

/-! ## Timers, the ready indication and the line (R169, R172, R175) -/

theorem slotExpired_slots (slot : Nat) (s : State) : KeepsSlots s (slotExpired slot s) := by
  unfold slotExpired
  cases s.dpt.state with
  | ready =>
    dsimp only
    split
    · exact beginReset_slots s
    · exact .refl s
  | identifying =>
    dsimp only
    split
    · exact identifyExpired_slots s
    · exact .refl s
  | resetting | failed | halted | absent => exact .refl s

theorem takeReadyIndication_slots (s : State) : KeepsSlots s (takeReadyIndication s) := by
  unfold takeReadyIndication
  split
  · exact startIdentify_slots fun _ => rfl
  · exact .refl s

theorem resetExpired_slots (s : State) : KeepsSlots s (resetExpired s) := by
  unfold resetExpired
  split
  · exact giveUp_slots _ (.inl rfl)
  · exact .refl s

theorem presentFalls_slots (s : State) : KeepsSlots s (presentFalls s) := by
  unfold presentFalls
  dsimp only
  split
  · exact .of_frame rfl rfl rfl rfl fun _ => id
  · exact giveUp_slots _ (.inr (.inr rfl))

theorem presentRises_slots (s : State) : KeepsSlots s (presentRises s) := by
  unfold presentRises
  dsimp only
  split
  · next absent => exact startIdentify_slots fun h => h.resetTimer_eq_none (by simp [absent])
  · exact .of_frame rfl rfl rfl rfl fun _ => id

/-! ## Inbound frames (R3, R140 to R143) -/

theorem takeBlock_layout (e : Entry) (offset : Nat) (data : List Byte) (s : State) :
    KeepsLayout s (takeBlock e offset data s) := by
  have placed : KeepsLayout s (testHold e.origin
      { s.allocate { number := s.freePages.headD 0, path := e.origin, slot := some e.slot, offset := e.staged,
                     state := .staged } with mem := fillPage s.mem (s.freePages.headD 0) data }) := .of_frame
  have offered (frame : OutFrame) (t : State) : KeepsLayout t (t.offer e.origin .stb frame) := .of_frame
  have acked (t : State) : KeepsLayout t (acknowledge e t) := (onEntry_layout t fun _ => .of_eq).trans (offered _ _)
  have staged : KeepsLayout s (stageBlock e data s) := by
    have counted := placed.trans (onEntry_layout (k := e.slot) (f := fun x => { x with staged := x.staged + 1 }) _
      fun _ => .of_eq)
    unfold stageBlock
    dsimp only
    split
    · exact counted.trans (acked _)
    · exact counted
  unfold takeBlock
  split
  · exact decideEnd_layout _ _ s
  · split
    · exact staged
    · exact decideEnd_layout _ _ s

theorem takeWriteData_slots (p : Path) (tag offset : Word) (data : List Byte) (s : State) :
    KeepsSlots s (takeWriteData p tag offset data s) := by
  unfold takeWriteData
  split
  · exact .refl s
  · split
    · exact linkError_slots p s
    · split
      · exact .refl s
      · exact (takeBlock_layout _ _ data s).conclude s

theorem answerPulse_slots (p : Path) (sequence : Byte) (s : State) : KeepsSlots s (answerPulse p sequence s) := by
  have counted : KeepsSlots s (s.onHmon p (fun x => { x with pulseCounted := true })) := .of_frame
  have echoed (frame : OutFrame) (t : State) : KeepsSlots t (t.onPif p (Pif.placeEcho frame)) := .of_frame
  have taken : KeepsSlots s (takePulse p s) := by
    unfold takePulse
    dsimp only
    split
    · exact .refl s
    · exact counted.trans (applyScore_slots p _ _)
  exact taken.trans (echoed _ _)

theorem routeFrame_slots (p : Path) (frame : InFrame) (s : State) : KeepsSlots s (routeFrame p frame s) := by
  have held : KeepsSlots s (takeHold p s) := .of_frame
  have released : KeepsSlots s (takeGo p s) := .of_frame
  have arrived (q : QueuedFrame) : KeepsSlots s (arrive p q s) := .of_frame
  cases frame with
  | pulse epoch sequence => exact answerPulse_slots p sequence s
  | writeData tag offset data => exact takeWriteData_slots p tag offset data s
  | hold => exact held
  | go => exact released
  | queued q => exact arrived q

theorem clearAssembler_slots (p : Path) (s : State) : KeepsSlots s (s.onPif p Pif.clearAssembler) :=
  .of_frame

theorem frameCompletes_slots (p : Path) (frame : InFrame) (s : State) : KeepsSlots s (frameCompletes p frame s) := by
  unfold frameCompletes
  split
  · exact (clearAssembler_slots p s).trans (routeFrame_slots p frame _)
  · cases frame with
    | writeData tag offset data => exact takeWriteData_slots p tag offset data s
    | pulse | hold | go | queued => exact .refl s

/-! ## The assembler (R1, R2, R4, R5) -/

theorem discardFrame_slots (p : Path) (s : State) : KeepsSlots s (discardFrame p s) :=
  (clearAssembler_slots p s).trans (linkError_slots p _)

theorem completeFrame_slots (p : Path) (kind : Byte) (length : Nat) (bytes : List Byte) (sum : Word) (s : State) :
    KeepsSlots s (completeFrame p kind length bytes sum s) := by
  unfold completeFrame
  split
  · split
    · exact (clearAssembler_slots p s).trans (routeFrame_slots p _ _)
    · exact discardFrame_slots p s
  · exact discardFrame_slots p s

theorem takeMarked_slots (p : Path) (byte : Byte) (s : State) : KeepsSlots s (takeMarked p byte s) := by
  have begun (t : State) : KeepsSlots t (t.onPif p (Pif.beginFrame byte)) := .of_frame
  have truncated := (discardFrame_slots p s).trans (begun _)
  unfold takeMarked
  split
  · exact begun s
  · exact truncated
  · exact truncated

theorem takeUnmarked_slots (p : Path) (byte : Byte) (s : State) : KeepsSlots s (takeUnmarked p byte s) := by
  have assembled (a : Assembler) : KeepsSlots s (s.onPif p (Pif.assemble a)) := .of_frame
  unfold takeUnmarked
  split
  · exact .refl s
  · exact assembled _
  · unfold takeLength
    dsimp only
    split
    · exact discardFrame_slots p s
    · exact assembled _
  · unfold takeBody
    split
    · exact assembled _
    · split
      · exact assembled _
      · exact completeFrame_slots _ _ _ _ _ s

theorem takeCharacter_slots (p : Path) (marked : Bool) (byte : Byte) (s : State) :
    KeepsSlots s (takeCharacter p marked byte s) := by
  unfold takeCharacter
  split
  · split
    · exact takeMarked_slots p byte s
    · exact takeUnmarked_slots p byte s
  · exact .refl s

theorem takeCharacterIf_slots (due : Assembler → Bool) (p : Path) (marked : Bool) (byte : Byte) (s : State) :
    KeepsSlots s (takeCharacterIf due p marked byte s) := by
  unfold takeCharacterIf
  split
  · exact takeCharacter_slots p marked byte s
  · exact .refl s

theorem gapExpired_slots (p : Path) (s : State) : KeepsSlots s (gapExpired p s) := by
  unfold gapExpired
  split
  · exact discardFrame_slots p s
  · exact .refl s

/-! ## The end of a transmission (R14, R77, R131) -/

theorem freeWhere_layout (test : PageRecord → Bool) (s : State) : KeepsLayout s (s.freeWhere test) :=
  .of_frame rfl rfl rfl

theorem reportTransmitted_layout (tie : Tie) (s : State) : KeepsLayout s (reportTransmitted tie s) := by
  cases tie with
  | plain => exact .refl s
  | heldPage page => exact freeWhere_layout _ s
  | block slot age page =>
    have delivered := (freeWhere_layout (fun r => r.number == page) s).trans
      (onEntry_layout (k := slot) (f := fun x => { x with delivered := x.delivered + 1 }) _ fun _ => .of_eq)
    unfold reportTransmitted countDelivered
    dsimp only
    split
    · exact .refl s
    · split
      · split
        · exact delivered.trans (endEntry_layout slot _ _)
        · exact delivered
      · exact .refl s

theorem frameSent_slots (p : Path) (s : State) : KeepsSlots s (frameSent p s) := by
  have finished (x : Sending) : KeepsLayout s (s.onPif p (Pif.finishSending x)) := .of_frame
  have chosen (t : State) : KeepsLayout t (t.onPif p Pif.chooseNext) := .of_frame
  unfold frameSent
  split
  · exact .refl s
  · exact ((finished _).trans <| (enterWaiting_layout p _).trans <| (chosen _).trans
      (reportTransmitted_layout _ _)).conclude s

/-! ## Resets and carrier (R17, R133, R157, R177, R193) -/

/-- The table is emptied and the counter of ages restarts (R93, R135). -/
theorem KeepsSlots.of_empty {s t : State} (drive : DriveInv s → DriveInv t) (ift : t.ift = [])
    (sequence : t.adm.sequence = 0) : KeepsSlots s t where
  layout :=
    { drive := drive
      table := fun _ => by simp [TableInv, ift, sequence]
      settled := fun _ => by simp [TableSettled, ift] }
  reports _ := by simp [ReportsInv, TableInv, ReportsMade, ift, sequence]

theorem powerUp_slots (cause : ResetCause) (present : Bool) (s : State) : KeepsSlots s (powerUp cause present s) := by
  have cleared : KeepsSlots s (clearAll cause present s) :=
    .of_empty (fun _ => ⟨nofun, nofun, fun _ _ => rfl, nofun, nofun⟩) rfl rfl
  unfold powerUp
  dsimp only
  split
  · exact cleared.trans (startIdentify_slots fun _ => rfl)
  · exact cleared.trans <| (enterFrozen_slots _ _).trans (raiseBoth_slots _ _)

theorem softResetWork_slots (s : State) : KeepsSlots s (softResetWork s) :=
  .of_empty (fun h => h.of_layout (by simp [softResetWork])) rfl rfl

theorem softResetDrive_slots (s : State) : KeepsSlots s (softResetDrive s) := by
  have cleared : KeepsSlots s { s with dpt := s.dpt.softClear } := .of_frame rfl rfl rfl rfl fun _ => id
  have reset := cleared.trans (beginReset_slots _)
  unfold softResetDrive
  dsimp only
  split
  case h_1 => exact cleared.trans (enterFrozen_slots _ _)
  case h_2 => exact cleared
  all_goals exact reset

theorem softReset_slots (s : State) : KeepsSlots s (softReset s) := by
  have links : KeepsSlots s (softResetLinks s) := .of_frame
  have recorded (f : Fnu) (t : State) : KeepsSlots t { t with fnu := f } := .of_frame rfl rfl rfl rfl fun _ => id
  have driven := links.trans <| (softResetWork_slots _).trans <| (enterLoading_slots _).trans (softResetDrive_slots _)
  unfold softReset
  dsimp only
  split
  · exact driven.trans <| (recorded _ _).trans (raiseBoth_slots _ _)
  · exact driven.trans (recorded _ _)

theorem cutEntry_layout (slot : Nat) (s : State) : KeepsLayout s (cutEntry slot s) := by
  have marked : KeepsLayout s (s.onEntry slot (fun x => { x with cut := true })) := onEntry_layout s fun _ => .of_eq
  have discarded (t : State) : KeepsLayout t (discardFetched slot t) := .of_frame rfl rfl rfl
  unfold cutEntry
  split
  · exact .refl s
  · split
    · exact dropEntry_layout slot s
    · split
      · exact .refl s
      · dsimp only
        split
        · exact marked.trans <| (decideEnd_layout _ _ _).trans (discarded _)
        · split
          · exact marked.trans (decideEnd_layout _ _ _)
          · exact marked
        · exact marked

theorem carrierLost_slots (p : Path) (s : State) : KeepsSlots s (carrierLost p s) := by
  have dropped : KeepsSlots s (s.onPif p Pif.carrierLost) := .of_frame
  have lost (t : State) : KeepsSlots t (healthLost p t) := by
    have set : KeepsSlots t (t.onHmon p (fun _ => Hmon.carrierLost)) := .of_frame
    unfold healthLost
    dsimp only
    split
    · exact set
    · exact set.trans (reportHealth_slots p _ _ _)
  have cut (t : State) : KeepsLayout t (cutEntries p t) :=
    (forSlots_layout cutEntry_layout _ t).trans (freeWhere_layout _ _)
  unfold carrierLost
  split
  · exact ((dropped.trans (lost _)).layout.trans (cut _)).conclude s
  · exact .refl s

theorem carrierBack_slots (p : Path) (s : State) : KeepsSlots s (carrierBack p s) := by
  have back (f : Pif → Pif) (h : Hmon → Hmon) : KeepsSlots s ((s.onPif p f).onHmon p h) := .of_frame
  unfold carrierBack
  split
  · exact .refl s
  · exact (back _ _).trans (reevaluate_slots p _)

end Sys2Proof.Machine
end

section
/-! The drive's slots, the order of the table and the reports made: the heads taken and the timers keep them, and so
does every step (R93, R104, R126, R128, R129, R161). -/

namespace Sys2Proof.Machine

set_option Elab.async false

/-! ## Heads taken (R94 to R96) -/

/-- Taking a head moves the pointer, and leaves the counter of ages (R93, R96). -/
theorem removeHead_slots (p : Path) (s : State) : KeepsSlots s (removeHead p s) :=
  ⟨⟨id, id, id⟩, id⟩

theorem takeHead_slots {p : Path} {decision : QueuedFrame → Option (State → State)} (s : State)
    (h : ∀ head act, decision head = some act → headTakeable s p head = true →
      KeepsSlots (removeHead p s) (act (removeHead p s))) : KeepsSlots s (takeHead p decision s) := by
  unfold takeHead
  split
  · next chosen =>
    split
    · exact .refl s
    · next head rest queue =>
      have takeable : headTakeable s p head = true := by
        simpa [State.takeable, queue] using takeable_of_chosenPath chosen
      split
      · next decided => exact (removeHead_slots p s).trans (h _ _ decided takeable)
      · exact .refl s
  · exact .refl s

/-! ## Acceptance (R93, R104, R105) -/

/-- The age that the next entry is given is above every age in the table, and within the counter (R93). -/
theorem TableInv.nextAge {s : State} (h : TableInv s) (room : s.adm.sequence < Config.sequenceMax ∨ s.ift = []) :
    (∀ e ∈ s.ift, e.age < s.nextAge) ∧ s.nextAge ≤ Config.sequenceMax := by
  obtain ⟨_, _, each, _⟩ := h
  unfold State.nextAge
  split
  · next below => exact ⟨fun e he => (each e he).2, below.le⟩
  · next full =>
    have empty : s.ift = [] := room.resolve_left full
    exact ⟨fun e he => by simp [empty] at he, Nat.zero_le _⟩

/-- A settled entry joins the table in a free slot and with the next age (R93, R104). -/
theorem addEntry_layout {s : State} {e : Entry} (free : s.freeEntrySlot = some e.slot) (age : e.age = s.nextAge)
    (room : s.adm.sequence < Config.sequenceMax ∨ s.ift = []) (settled : e.Settled) : KeepsLayout s (addEntry e s) where
  drive := id
  table h := by
    obtain ⟨younger, within⟩ := h.nextAge room
    obtain ⟨ages, slots, each, _⟩ := h
    have slot : e.slot < Config.entrySlots := List.mem_range.1 (List.mem_of_find?_eq_some free)
    have apart : ∀ x ∈ s.ift, x.slot ≠ e.slot := by simpa using List.find?_eq_none.1 (entry?_of_freeEntrySlot free)
    refine ⟨List.pairwise_append.2 ⟨ages, List.pairwise_singleton .., fun x hx y hy => ?_⟩,
      List.pairwise_append.2 ⟨slots, List.pairwise_singleton .., fun x hx y hy => ?_⟩, fun x hx => ?_,
      Nat.succ_le_succ (age ▸ within)⟩
    · rw [List.mem_singleton.1 hy, age]
      exact younger x hx
    · rw [List.mem_singleton.1 hy]
      exact apart x hx
    · rcases List.mem_append.1 hx with old | new
      · exact ⟨(each x old).1, Nat.lt_succ_of_lt (age ▸ younger x old)⟩
      · rw [List.mem_singleton.1 new]
        exact ⟨slot, Nat.lt_succ_self _⟩
  settled h x hx := by
    rcases List.mem_append.1 hx with old | new
    · exact h x old
    · rwa [List.mem_singleton.1 new]

/-- An entry that starts in ENDING has met a drive given up, and holds its end (R105). -/
theorem newEntry_settled (s : State) (p : Path) (c : CommandFields) (op : Op) (slot : Nat) :
    (newEntry s p c op slot).Settled := by
  intro ending
  by_cases gone : s.dpt.Gone
  · obtain ⟨_, status, _⟩ := newEntry_gone (p := p) (c := c) (op := op) (slot := slot) gone
    rw [status]
    rfl
  · exact absurd ending (newEntry_not_ending gone)

theorem acceptCommand_slots {p : Path} {c : CommandFields} {op : Op} {slot : Nat} {s : State}
    (free : s.freeEntrySlot = some slot) (room : s.adm.sequence < Config.sequenceMax ∨ s.ift = []) :
    KeepsSlots s (acceptCommand p c op slot s) := by
  have added : KeepsLayout s (addEntry (newEntry s p c op slot) s) :=
    addEntry_layout free rfl room (newEntry_settled s p c op slot)
  have layout : KeepsLayout s (entryAsked p c op slot s) := by
    have offered (frame : OutFrame) (t : State) : KeepsLayout t (t.offer p .adm frame) := .of_frame
    unfold entryAsked
    split
    · exact added.trans (offered _ _)
    · exact added
  have unseen (x : Entry) : (entryAsked p c op slot s).reportDue x = s.reportDue x := by
    refine reportDue_congr ?_ (isFetched_congr ?_ _) <;> unfold entryAsked <;> split <;> simp [addEntry, State.role]
  have reported : KeepsSlots s (reportSlot slot (entryAsked p c op slot s)) := by
    refine .of_reportsMade (layout.trans (reportSlot_layout slot _)) fun table settled made => ?_
    refine reportSlot_reportsMade (layout.table table).slotsDistinct (layout.settled settled) fun x hx other => ?_
    rw [entryAsked_ift] at hx
    rcases List.mem_append.1 hx with old | new
    · rw [unseen]
      exact made x old
    · exact absurd (List.mem_singleton.1 new ▸ rfl) other
  rw [acceptCommand_eq]
  exact reported.trans <| (checkDrainEnd_slots _).trans (walkGrants_slots _)

/-- A head that passes its checks is takeable only with a free slot and an age to give (R95). -/
theorem decideCommand_slots {p : Path} {c : CommandFields} {s : State}
    (takeable : (checkCommand s p c).isSome = true ∨ s.hasCapacity p = true) : KeepsSlots s (decideCommand p c s) := by
  unfold decideCommand
  split
  · exact .of_frame
  · next passed =>
    have capacity : s.hasCapacity p = true := takeable.resolve_left (by simp [passed])
    split
    · next free =>
      simp only [State.hasCapacity, Bool.and_eq_true, Bool.or_eq_true, decide_eq_true_eq, List.isEmpty_iff] at capacity
      exact acceptCommand_slots free capacity.2
    · exact .refl s

theorem commandRow_slots (p : Path) (test : Byte → Byte → Bool) (s : State) :
    KeepsSlots s (takeHead p (commandWhere p test) s) := by
  refine takeHead_slots s fun head act decided takeable => ?_
  unfold commandWhere at decided
  split at decided
  · obtain ⟨_, ⟨⟩⟩ := Option.ite_none_right_eq_some.1 decided
    simp only [headTakeable, Bool.and_eq_true, Bool.or_eq_true] at takeable
    exact decideCommand_slots takeable.2
  · cases decided

/-! ## Ownership requests (R46 to R51) -/

theorem oweReply_slots (p : Path) (tag : Word) (purpose : Purpose) (s : State) :
    KeepsSlots s (oweReply p tag purpose s) :=
  .of_frame rfl rfl rfl rfl fun _ => id

theorem decideClaim_slots (p : Path) (c : ClaimFields) (s : State) : KeepsSlots s (decideClaim p c s) := by
  have claimed : KeepsSlots s (refreshRoles { s with owc := s.owc.claimBy p }) := refreshRoles_slots s
  unfold decideClaim
  split
  · exact .of_frame
  · exact claimed.trans <| (oweReply_slots p _ _ _).trans (beginTransition_slots _ _)
  · exact (oweReply_slots p _ _ s).trans (beginFencedDrain_slots _ _ _)
  · exact claimed.trans <| (oweReply_slots p _ _ _).trans (beginCommit_slots _ _ _)

theorem claimRow_slots (p : Path) (test : Byte → Bool) (s : State) :
    KeepsSlots s (takeHead p (claimWhere p test) s) := by
  refine takeHead_slots s fun head act decided _ => ?_
  unfold claimWhere at decided
  split at decided
  · obtain ⟨_, ⟨⟩⟩ := Option.ite_none_right_eq_some.1 decided
    exact decideClaim_slots p _ _
  · cases decided

theorem decideRelease_slots (p : Path) (tag epoch : Word) (flags : Byte) (s : State) :
    KeepsSlots s (decideRelease p tag epoch flags s) := by
  unfold decideRelease
  split
  · exact .of_frame
  · unfold acceptRelease
    split
    · exact (oweReply_slots p _ _ s).trans (beginReleaseDrain_slots _ _ _ _)
    · exact (oweReply_slots p _ _ s).trans (beginReleaseDrain_slots _ _ _ _)

theorem releaseRow_slots (p : Path) (handover : Bool) (s : State) :
    KeepsSlots s (takeHead p (releaseWhere p handover) s) := by
  refine takeHead_slots s fun head act decided _ => ?_
  unfold releaseWhere at decided
  split at decided
  · obtain ⟨_, ⟨⟩⟩ := Option.ite_none_right_eq_some.1 decided
    exact decideRelease_slots p _ _ _ _
  · cases decided

/-- A REJOIN fences no path (R50). -/
theorem readmit_slots (p : Path) (s : State) : KeepsSlots s (readmit p s) := by
  refine .of_frame (by simp [readmit]) (by simp [readmit]) (by simp [readmit]) (by simp [readmit]) fun q fenced => ?_
  have set : (setRole p (nonOwnerRole s.owc.policy) s).role q = .fenced := (refreshRoles_fenced_iff q _).1 fenced
  have unfenced : nonOwnerRole s.owc.policy ≠ .fenced := by
    unfold nonOwnerRole
    split <;> simp
  by_cases own : q = p
  · subst own
    simp [State.role, setRole, unfenced] at set
  · simpa [State.role, setRole, Both.get_set_ne, own] using set

theorem rejoinRow_slots (p : Path) (s : State) : KeepsSlots s (takeHead p (rejoinHead p) s) := by
  refine takeHead_slots s fun head act decided _ => ?_
  unfold rejoinHead at decided
  split at decided
  · cases decided
    have answered (tag : Word) (status : Status) (t : State) : KeepsSlots t (admAnswer p tag status t) := .of_frame
    unfold decideRejoin
    split
    · exact (readmit_slots p _).trans (answered _ _ _)
    · exact answered _ _ _
  · cases decided

theorem decidePolicy_slots (p : Path) (tag epoch : Word) (record : PolicyRecord) (s : State) :
    KeepsSlots s (decidePolicy p tag epoch record s) := by
  unfold decidePolicy
  split
  · exact .of_frame
  · split
    · exact .of_frame
    · refine .trans ?_ <| (oweReply_slots p _ _ _).trans (beginCommit_slots _ _ _)
      exact owc_slots s

theorem policyRow_slots (p : Path) (s : State) : KeepsSlots s (takeHead p (policyHead p) s) := by
  refine takeHead_slots s fun head act decided _ => ?_
  unfold policyHead at decided
  split at decided
  · cases decided
    exact decidePolicy_slots p _ _ _ _
  · cases decided

/-! ## Decisions of FNU (R180 to R193) -/

theorem withRoom_slots {p : Path} {act : State → State} (s : State) (h : KeepsSlots s (act s)) :
    KeepsSlots s (withRoom p act s) := by
  unfold withRoom
  split
  · exact h
  · exact .refl s

theorem unitRow_slots {p : Path} {decision : QueuedFrame → Option (State → State)} (unit : decision ∈ unitDecisions p)
    (s : State) : KeepsSlots s (takeHead p decision s) := by
  refine takeHead_slots s fun head act decided _ => ?_
  obtain ⟨answer, rfl, kept⟩ :
      ∃ answer, act = withRoom p answer ∧ KeepsSlots (removeHead p s) (answer (removeHead p s)) := by
    simp only [unitDecisions, List.mem_cons, List.not_mem_nil, or_false] at unit
    rcases unit with rfl | rfl | rfl | rfl | rfl | rfl | rfl
    all_goals
      simp only [inspectSetHead, inspectNextHead, inspectBadHead, clearFlagsHead, clearOrphansHead, clearBadHead,
        notifyMaskHead] at decided
      split at decided
      · simp only [Option.ite_none_right_eq_some, Option.ite_none_left_eq_some, Option.some.injEq] at decided
        obtain ⟨_, rfl⟩ := decided
        exact ⟨_, rfl, .of_frame⟩
      · cases decided
  exact withRoom_slots _ kept

theorem decideDeviceReset_slots (p : Path) (tag epoch : Word) (s : State) :
    KeepsSlots s (decideDeviceReset p tag epoch s) := by
  have deciding (d : Option (Path × Word)) (t : State) : KeepsSlots t (setDeciding d t) := .of_frame
  unfold decideDeviceReset
  refine .trans (deciding (some (p, tag)) s) (.trans ?_ (deciding none _))
  split
  · exact withRoom_slots _ .of_frame
  · exact softReset_slots _

theorem deviceResetRow_slots (p : Path) (s : State) : KeepsSlots s (takeHead p (deviceResetHead p) s) := by
  refine takeHead_slots s fun head act decided _ => ?_
  unfold deviceResetHead at decided
  split at decided
  · cases decided
    exact decideDeviceReset_slots p _ _ _
  · cases decided

/-! ## Timers and the part's own steps -/

theorem windowExpires_slots (p : Path) (s : State) : KeepsSlots s (windowExpires p s) := by
  have next (t : State) : KeepsSlots t (nextWindow p t) := .of_frame
  unfold windowExpires
  split
  · exact (applyScore_slots p _ s).trans (next _)
  · exact .refl s

theorem graceExpires_slots (s : State) : KeepsSlots s (graceExpires s) := by
  unfold graceExpires
  split
  · split
    · exact beginFencedDrain_slots _ _ s
    · exact .refl s
  · exact .refl s

theorem enterStage_layout (stage : DrainStage) (s : State) : KeepsLayout s (enterStage stage s) :=
  .of_frame rfl rfl rfl

theorem refreshRoles_layout (s : State) : KeepsLayout s (refreshRoles s) :=
  .of_frame rfl rfl rfl

theorem stage1Expires_slots (s : State) : KeepsSlots s (stage1Expires s) := by
  unfold stage1Expires
  split
  · exact ((fence_layout _ s).trans <| (enterStage_layout .fenced _).trans (refreshRoles_layout _)).conclude s
  · exact .refl s

theorem stage2Expires_slots (s : State) : KeepsSlots s (stage2Expires s) := by
  have reset := requestReset_slots s
  unfold stage2Expires
  split
  · dsimp only
    split
    · exact (reset.layout.trans (enterStage_layout _ _)).conclude _
    · exact reset
  · exact .refl s

theorem stage3Expires_slots (s : State) : KeepsSlots s (stage3Expires s) := by
  unfold stage3Expires
  split
  · have ended (l : List Nat) := ((owc_layout { s.owc with drainTimer := none } s).trans
      (forSlots_layout (decideEnd_layout .driveStall) l _)).conclude s
    dsimp only
    split
    · exact (ended _).trans (requestReset_slots _)
    · exact ended _
  · exact .refl s

theorem removeDue_slots (slot : Nat) (s : State) : KeepsSlots s (removeDue slot s) :=
  (reportSlot_slots slot s).trans <| (checkDrainEnd_slots _).trans (follow_slots s _)

theorem beginDueLoad_slots (s : State) : KeepsSlots s (beginDueLoad s) := by
  unfold beginDueLoad
  split
  · exact beginLoad_slots s
  · exact .refl s

/-! ## Every step -/

theorem KeepsSlots.of_next {s t u : State} (k : KeepsSlots s u)
    (h : (.next u : Host.Outcome State Fault Refusal) = .next t) : KeepsSlots s t := by
  cases h
  exact k

theorem exec_slots {c : Instr} {s t : State} (h : exec c s = .next t) : KeepsSlots s t := by
  cases c with
  | powerOnReset drivePresent => exact (powerUp_slots .power drivePresent s).of_next h
  | pinReset => exact (powerUp_slots .pin s.dpt.present s).of_next h
  | carrierLoss p => exact (carrierLost_slots p s).of_next h
  | carrierReturn p => exact (carrierBack_slots p s).of_next h
  | truncation p kind => exact (takeCharacterIf_slots _ p true kind s).of_next h
  | overLength p low => exact (takeCharacterIf_slots _ p false low s).of_next h
  | gapTimeout p => exact (gapExpired_slots p s).of_next h
  | checkFailure p low => exact (takeCharacterIf_slots _ p false low s).of_next h
  | unknownKind p low => exact (takeCharacterIf_slots _ p false low s).of_next h
  | pulse p epoch sequence => exact (frameCompletes_slots p (.pulse epoch sequence) s).of_next h
  | hold p => exact (frameCompletes_slots p .hold s).of_next h
  | go p => exact (frameCompletes_slots p .go s).of_next h
  | writeData p tag offset data => exact (frameCompletes_slots p (.writeData tag offset data) s).of_next h
  | receiveQueueArrival p frame => exact (frameCompletes_slots p (.queued frame) s).of_next h
  | commandRead p => exact (commandRow_slots p _ s).of_next h
  | commandWrite p => exact (commandRow_slots p _ s).of_next h
  | commandWritePosted p => exact (commandRow_slots p _ s).of_next h
  | commandFlush p => exact (commandRow_slots p _ s).of_next h
  | commandBadOp p => exact (commandRow_slots p _ s).of_next h
  | claim p => exact (claimRow_slots p _ s).of_next h
  | forcedClaim p => exact (claimRow_slots p _ s).of_next h
  | overrideClaim p => exact (claimRow_slots p _ s).of_next h
  | release p => exact (releaseRow_slots p false s).of_next h
  | releaseHandover p => exact (releaseRow_slots p true s).of_next h
  | rejoin p => exact (rejoinRow_slots p s).of_next h
  | policy p => exact (policyRow_slots p s).of_next h
  | inspectSet p => exact (unitRow_slots (p := p) (by simp [unitDecisions]) s).of_next h
  | inspectNext p => exact (unitRow_slots (p := p) (by simp [unitDecisions]) s).of_next h
  | clearFaultFlags p => exact (unitRow_slots (p := p) (by simp [unitDecisions]) s).of_next h
  | clearOrphanList p => exact (unitRow_slots (p := p) (by simp [unitDecisions]) s).of_next h
  | notifyMask p => exact (unitRow_slots (p := p) (by simp [unitDecisions]) s).of_next h
  | deviceReset p => exact (deviceResetRow_slots p s).of_next h
  | waitingFrameEntry p => exact ((enterWaiting_layout p s).conclude s).of_next h
  | frameTransmitted p => exact (frameSent_slots p s).of_next h
  | readDataOffer p => exact (.of_frame : KeepsSlots s (offerReadData p s)).of_next h
  | pulseWindowExpiry p => exact (windowExpires_slots p s).of_next h
  | graceExpiry => exact (graceExpires_slots s).of_next h
  | drainStage1Expiry => exact (stage1Expires_slots s).of_next h
  | drainStage2Expiry => exact (stage2Expires_slots s).of_next h
  | drainStage3Expiry => exact (stage3Expires_slots s).of_next h
  | drainEnd => exact (checkDrainEnd_slots s).of_next h
  | waitingTransition => exact (beginWaiting_slots s).of_next h
  | loadBegin => exact (beginDueLoad_slots s).of_next h
  | reservedOperationIssue => exact (issueReserved_slots s).of_next h
  | segmentIssue => exact (runArbiter_slots s).of_next h
  | readGrant => exact ((walkGrants_slots s).trans (runArbiter_slots _)).of_next h
  | pathSlotCompletion slot status done blocks => exact (takeRecord_slots slot status done.toNat blocks s).of_next h
  | entryRemoval slot => exact (removeDue_slots slot s).of_next h
  | reservedSlotCompletion status done block => exact (takeReservedRecord_slots status done.toNat block s).of_next h
  | identifyCompletion status done capacity blockSize depth =>
    exact (takeIdentifyRecord_slots status done.toNat _ s).of_next h
  | identifyTimeout => exact (identifyExpired_slots s).of_next h
  | slotTimeout slot => exact (slotExpired_slots slot s).of_next h
  | readyIndication => exact (takeReadyIndication_slots s).of_next h
  | resetTimeout => exact (resetExpired_slots s).of_next h
  | drvPresentFall => exact (presentFalls_slots s).of_next h
  | drvPresentRise => exact (presentRises_slots s).of_next h
  | linkCharacter p marked byte => exact (takeCharacter_slots p marked byte s).of_next h
  | inspectBadMode p => exact (unitRow_slots (p := p) (by simp [unitDecisions]) s).of_next h
  | clearBadTarget p => exact (unitRow_slots (p := p) (by simp [unitDecisions]) s).of_next h

theorem step_slots {s t : State} (h : step s = .next t) : KeepsSlots s t := by
  unfold step at h
  split at h
  · exact (KeepsSlots.refl s).of_next h
  · next c rest _ =>
    have queued : KeepsSlots s (s.withPending rest) := .of_frame
    exact queued.trans (exec_slots h)

/-- Settles O9: a step keeps the drive's slots and the table's order, and with them the reports made. -/
theorem stepKeepsSlots : Obligations.StepKeepsSlots :=
  ⟨fun _ _ drive h => (step_slots h).layout.drive drive, fun _ _ table h => (step_slots h).layout.table table,
    fun _ _ reports h => (step_slots h).reports reports⟩

end Sys2Proof.Machine
end

section
/-! The drive given up (R174): OWC in FROZEN and its answers, every entry left holding an end with nothing at the
drive. -/

namespace Sys2Proof.Machine

set_option Elab.async false

/-! ## The entries ended (R174) -/

theorem failSegments_quiet (k : Nat) (l : List Segment) (s : State) : Quiet s (failSegments k l s) := by
  induction l generalizing s with
  | nil => exact .refl s
  | cons g rest ih =>
    have counted (u : State) : Quiet u (u.onEntry k (fun x => { x with issued := x.issued - g.length })) :=
      .onEntry u fun _ => .of_eq .of_eq
    have freed (u : State) : Quiet u (u.freeRun k g.offset g.length) := .of_table rfl rfl rfl rfl
    exact (dropOutstanding_quiet k g.driveSlot s).trans <| (counted _).trans <| (freed _).trans (ih _)

theorem failSegments_freeOf {k : Nat} {l : List Segment} {g : Segment} (listed : g ∈ l) (s : State) :
    FreeOf k g.driveSlot (failSegments k l s) := by
  induction l generalizing s with
  | nil => cases listed
  | cons first rest ih =>
    rcases List.mem_cons.1 listed with rfl | later
    · have counted : Quiet (dropOutstanding k g.driveSlot s)
          ((dropOutstanding k g.driveSlot s).onEntry k (fun x => { x with issued := x.issued - g.length })) :=
        .onEntry _ fun _ => .of_eq .of_eq
      have freed (u : State) : Quiet u (u.freeRun k g.offset g.length) := .of_table rfl rfl rfl rfl
      exact (dropOutstanding_freeOf k g.driveSlot s).quiet <| counted.trans <| (freed _).trans
        (failSegments_quiet k rest _)
    · exact ih later _

theorem failEntry_quiet (k : Nat) (s : State) : Quiet s (failEntry k s) := by
  unfold failEntry
  split
  · exact .refl s
  · exact (failSegments_quiet k _ s).trans (decideEnd_quiet _ k _)

/-- The entry holds an end, and nothing of it is at the drive. -/
def Entry.Over (e : Entry) : Prop :=
  e.outstanding = [] ∧ e.endStatus.isSome = true

theorem Entry.Over.rests {x y : Entry} (h : x.Over) (rests : x.Rests y) : y.Over :=
  ⟨List.subset_nil.1 (h.1 ▸ rests.outstanding), rests.stands.ended h.2⟩

/-- Giving up the drive leaves the entry of a slot over. -/
theorem failEntry_over {k : Nat} {s : State} (distinct : SlotsDistinct s) {y : Entry} (hy : y ∈ (failEntry k s).ift)
    (own : y.slot = k) : y.Over := by
  obtain ⟨e, he, rests⟩ := (failEntry_quiet k s).entries y hy
  have found : s.entry? k = some e := by
    rw [← own, rests.stands.slot]
    exact entry?_of_mem distinct he
  have failed : failEntry k s = decideEnd .driveFailed k (failSegments k e.outstanding s) := by
    rw [failEntry, found]
  refine ⟨List.eq_nil_iff_forall_not_mem.2 fun g hg => ?_, ?_⟩
  · have free := (failSegments_freeOf (k := k) (rests.outstanding hg) s).quiet (decideEnd_quiet .driveFailed k _)
    rw [← failed] at free
    exact free y hy own g hg rfl
  · have there := entry?_of_mem ((failEntry_quiet k s).slotsDistinct distinct) hy
    rw [own, failed] at there
    exact decideEnd_ended _ there

theorem forSlots_failEntry_over {l : List Nat} {s : State} (distinct : SlotsDistinct s) {y : Entry}
    (hy : y ∈ (forSlots failEntry l s).ift) (listed : y.slot ∈ l) : y.Over := by
  induction l generalizing s with
  | nil => cases listed
  | cons k rest ih =>
    rcases List.mem_cons.1 listed with own | later
    · obtain ⟨x, hx, rests⟩ := (forSlots_quiet failEntry_quiet rest (failEntry k s)).entries y hy
      exact (failEntry_over distinct hx (rests.stands.slot.symm.trans own)).rests rests
    · exact ih ((failEntry_quiet k s).slotsDistinct distinct) hy later

/-! ## FROZEN through the event (R63, R174) -/

/-- Outside DRAINING an event ends with its reports and with what follows from them. -/
theorem conclude_of_not_draining (before : State) {s : State} (other : s.owc.state ≠ .draining) :
    conclude before s = follow before (reportAll s) := by
  rw [conclude, checkDrainEnd_of_not_draining (by simpa using other)]

theorem enterFrozen_state (cause : FrozenCause) (s : State) :
    (enterFrozen cause s).owc.state = .frozen ∧ (enterFrozen cause s).owc.frozenCause = some cause := by
  by_cases state : s.owc.state = .frozen
  · rw [enterFrozen, if_pos state]
    exact ⟨state, rfl⟩
  · rw [enterFrozen_owc state]
    exact ⟨rfl, rfl⟩

/-- What goes on after the answers of an entry into FROZEN loses none of them. -/
theorem FrozenAnswered.mono {s t u : State} (h : FrozenAnswered s t) (later : Advances t u)
    (owed : u.owc.owedReplies = t.owc.owedReplies) : FrozenAnswered s u := by
  obtain ⟨notified, answered, replies⟩ := h
  exact ⟨notified.mono later.keepsFrames, owed.trans answered,
    fun r held up => later.keepsFrames _ _ rfl (replies r held up)⟩

/-! ## The drive given up -/

/-- OWC has been told that the drive is given up (R63, R174). -/
def driveToldGone (state : DriveState) (cause : DriveCause) (s : State) : State :=
  enterFrozen .drive { s with dpt := s.dpt.giveUp state cause }

/-- Every segment and entry has been ended (R174). -/
def driveEnded (state : DriveState) (cause : DriveCause) (s : State) : State :=
  forSlots failEntry ((driveToldGone state cause s).slotsWhere (fun _ => true)) (driveToldGone state cause s)

theorem giveUp_eq (state : DriveState) (cause : DriveCause) (s : State) :
    giveUp state cause s = raiseBoth .driveFailed (conclude s (driveEnded state cause s)) :=
  rfl

section
variable {state : DriveState} (cause : DriveCause) (s : State)

@[simp] theorem driveToldGone_owc :
    (driveToldGone state cause s).owc.state = .frozen ∧ (driveToldGone state cause s).owc.frozenCause = some .drive :=
  enterFrozen_state .drive _

@[simp] theorem driveEnded_frame :
    (driveEnded state cause s).pif = (driveToldGone state cause s).pif ∧
      (driveEnded state cause s).fnu = (driveToldGone state cause s).fnu ∧
      (driveEnded state cause s).owc = (driveToldGone state cause s).owc ∧
      (driveEnded state cause s).dpt = s.dpt.giveUp state cause := by
  simp [driveEnded, driveToldGone]

theorem driveEnded_over (distinct : SlotsDistinct s) : ∀ e ∈ (driveEnded state cause s).ift, e.Over := by
  intro e he
  have told : SlotsDistinct (driveToldGone state cause s) := distinct.congr (by simp [driveToldGone])
  obtain ⟨x, hx, rests⟩ := (forSlots_quiet failEntry_quiet _ (driveToldGone state cause s)).entries e he
  refine forSlots_failEntry_over told he ?_
  rw [rests.stands.slot]
  exact List.mem_map_of_mem (List.mem_filter.2 ⟨hx, rfl⟩)

theorem giveUp_conclude :
    giveUp state cause s = raiseBoth .driveFailed (follow s (reportAll (driveEnded state cause s))) := by
  rw [giveUp_eq, conclude_of_not_draining s (by simp)]

theorem giveUp_quiet (other : state ≠ .ready) : Quiet (driveEnded state cause s) (giveUp state cause s) := by
  have raised (u : State) : Quiet u (raiseBoth .driveFailed u) := .of_table
  rw [giveUp_eq]
  exact (conclude_quiet s (by simpa [Dpt.giveUp] using other)).trans (raised _)

theorem giveUp_advances : Advances (driveToldGone state cause s) (giveUp state cause s) := by
  have ended : Advances (driveToldGone state cause s) (driveEnded state cause s) := .of_frame
  rw [giveUp_eq]
  exact ended.trans <| (conclude_advances s _).trans (raiseBoth_advances _ _)

theorem giveUp_answered (unfrozen : s.owc.state ≠ .frozen) : FrozenAnswered s (giveUp state cause s) := by
  have told : FrozenAnswered s (driveToldGone state cause s) :=
    (enterFrozen_answered (s := { s with dpt := s.dpt.giveUp state cause }) unfrozen).of_same rfl fun _ => rfl
  exact told.mono (giveUp_advances cause s) (by simp [giveUp_eq])

/-- An entry into FAILED, HALTED or ABSENT (R174). -/
theorem giveUp_driveGivenUp (other : state ≠ .ready) : DriveGivenUp state cause s (giveUp state cause s) := by
  have quiet := giveUp_quiet cause s other
  refine ⟨?_, ?_, ?_, ?_, ?_, by simp, by simp, ?_, raiseBoth_flagInBoth .driveFailed _, ?_, ?_,
    giveUp_answered cause s, fun table e he => ?_, (giveUp_keepsRecord state cause s).block, by simp⟩
  case refine_3 => simpa [Dpt.giveUp] using quiet.busy
  case refine_6 => simpa [Dpt.giveUp] using quiet.requests
  case refine_9 =>
    obtain ⟨x, hx, rests⟩ := quiet.entries e he
    exact (driveEnded_over cause s table.slotsDistinct x hx).rests rests
  all_goals simp [giveUp_conclude, Dpt.giveUp]

end

/-- What the Drive Port changes before it gives the drive up is outside its identity, its slots and the requests
sent. -/
theorem DriveGivenUp.of_dpt {state : DriveState} {cause : DriveCause} {s t : State} {d : Dpt}
    (h : DriveGivenUp state cause { s with dpt := d } t) (identity : d.identity = s.dpt.identity := by rfl)
    (slots : d.slotCount = s.dpt.slotCount := by rfl) (requests : d.requests = s.dpt.requests := by rfl) :
    DriveGivenUp state cause s t := by
  obtain ⟨st, held, busy, request, timer, same, count, sent, rest⟩ := h
  exact ⟨st, held, busy, request, timer, same.trans identity, count.trans slots, sent.trans requests, rest⟩

end Sys2Proof.Machine
end

section
/-! The completion records of path slots (R165, R166, R168, R173), failed identify attempts (R158), and the timers and
the line of the drive (R169, R170, R172, R174, R175). -/

namespace Sys2Proof.Machine

set_option Elab.async false

/-! ## Records of path slots (R165, R166, R168, R173) -/

theorem classOf_flush {status : DriveStatus} (other : status ≠ .other) (done length : Nat) :
    classOf .flush status done length =
      if status = .media then .media else if status = .good then .good else .partialDone := by
  cases status with
  | good | partialDone | media => rfl
  | other => exact absurd rfl other

theorem classOf_of_ranged {op : Op} (ranged : op ≠ .flush) (status : DriveStatus) (done length : Nat) :
    classOf op status done length =
      if status = .media then .media else if done = length then .good else .partialDone := by
  cases op with
  | flush => exact absurd rfl ranged
  | read | write => cases status <;> rfl

/-- A segment of a FLUSH has no blocks (R156). -/
theorem Holder.length_segment (entry offset length : Nat) (op : Op) :
    (Holder.segment entry offset length op).length = if op = .flush then 0 else length := by
  cases op <;> rfl

theorem takeRecord_ready {s : State} (ready : s.dpt.state = .ready) (slot : Nat) (status : DriveStatus) (done : Nat)
    (blocks : List (List Byte)) : takeRecord slot status done blocks s = takeReadyRecord slot status done blocks s := by
  rw [takeRecord, ready]

theorem takeReadyRecord_segment {s : State} {slot entry offset length done : Nat} {op : Op} {status : DriveStatus}
    (held : s.holderOf slot = some (.segment entry offset length op)) (laid : slot < s.dpt.slotCount)
    (other : status ≠ .other) (within : done ≤ if op = .flush then 0 else length) (blocks : List (List Byte)) :
    takeReadyRecord slot status done blocks s = acceptSegment slot entry offset length op status done blocks s := by
  rw [takeReadyRecord, held]
  exact if_pos ⟨laid, other, Holder.length_segment .. ▸ within⟩

/-- A record for no slot of the drive, for a free slot, with another status or with too many blocks (R173). -/
theorem takeReadyRecord_violation {s : State} {slot done : Nat} {status : DriveStatus}
    (bad : s.dpt.slotCount ≤ slot ∨ s.holderOf slot = none ∨ status = .other ∨
      ∃ h, s.holderOf slot = some h ∧ h.length < done) (blocks : List (List Byte)) :
    takeReadyRecord slot status done blocks s = giveUp .halted .violation s := by
  unfold takeReadyRecord
  split
  · rfl
  · next h held =>
    refine if_neg fun ⟨laid, known, within⟩ => ?_
    rcases bad with beyond | free | other | ⟨x, there, more⟩
    · exact absurd laid (Nat.not_lt.2 beyond)
    · simp [free] at held
    · exact known other
    · rw [there] at held
      cases held
      exact absurd within (Nat.not_le.2 more)

theorem raiseMedia_flag {status : DriveStatus} (media : status = .media) (s : State) :
    FlagInBoth .mediaError (raiseMedia status s) := by
  rw [raiseMedia, if_pos media]
  exact raiseBoth_flagInBoth .mediaError s

section
variable {slot entry offset length done : Nat} {op : Op} {status : DriveStatus} {blocks : List (List Byte)} {s : State}

theorem acceptSegment_media (media : status = .media) :
    FlagInBoth .mediaError (acceptSegment slot entry offset length op status done blocks s) := by
  have counted (u : State) : Advances u
      (takeCompletion entry slot offset length (classOf op status done length) done blocks u) := .of_frame
  exact (raiseMedia_flag media (s.freeSlot slot)).mono ((counted _).trans (conclude_advances s _))

theorem acceptSegment_kept :
    (acceptSegment slot entry offset length op status done blocks s).dpt.state = s.dpt.state ∧
      SameBlock s (acceptSegment slot entry offset length op status done blocks s) ∧
      (acceptSegment slot entry offset length op status done blocks s).hmon = s.hmon := by
  simp [acceptSegment, SameBlock, State.freeSlot]

end

/-- Settles O52: a well-formed record is counted, another in READY halts the drive, and the rest are discarded. -/
theorem pathSlotRecordJudged : Obligations.PathSlotRecordJudged := by
  refine ⟨fun s slot entry offset length op status done blocks ready held laid other within => ?_,
    fun s slot status done blocks => ⟨fun ready bad => ?_, fun deaf => ?_, fun identifying beyond => ?_⟩⟩
  · have taken : exec (.pathSlotCompletion slot status done blocks) s =
        .next (acceptSegment slot entry offset length op status done.toNat blocks s) := by
      have record := (takeRecord_ready ready slot status done.toNat blocks).trans
        (takeReadyRecord_segment held laid other within blocks)
      exact congrArg Host.Outcome.next record
    obtain ⟨state, block, health⟩ := acceptSegment_kept (slot := slot) (entry := entry) (offset := offset)
      (length := length) (done := done.toNat) (op := op) (status := status) (blocks := blocks) (s := s)
    refine ⟨_, taken, ?_, acceptSegment_media, state.trans ready, block, health⟩
    by_cases flush : op = .flush
    · subst flush
      rw [acceptSegment, classOf_flush other, if_pos rfl]
      rfl
    · rw [acceptSegment, classOf_of_ranged flush, if_neg flush]
      rfl
  · have record := (takeRecord_ready ready slot status done.toNat blocks).trans (takeReadyRecord_violation bad blocks)
    exact ⟨_, congrArg Host.Outcome.next record, giveUp_driveGivenUp .violation s (by decide)⟩
  · have discarded : takeRecord slot status done.toNat blocks s = s := by
      unfold takeRecord
      rcases deaf with state | state | state | state <;> rw [state]
    exact congrArg Host.Outcome.next discarded
  · have discarded : takeRecord slot status done.toNat blocks s = s := by
      rw [takeRecord, identifying]
      exact if_neg beyond
    exact congrArg Host.Outcome.next discarded

/-! ## Failed identify attempts (R158) -/

/-- An IDENTIFY in slot 0 is the only command outstanding (R158). -/
theorem startIdentify_eq (s : State) :
    startIdentify s = { s with
      dpt := { s.dpt with
        state := .identifying
        busy := [{ slot := 0, holder := .identify, timer := s.owc.policy.driveTimeoutMs.toNat }]
        requests := s.dpt.requests ++ [.identify] } } :=
  rfl

theorem identifyFailed_again {again : State → State} {s : State} (few : s.dpt.identifyFailures < 2) :
    identifyFailed again s = again (countIdentifyFailure s) :=
  if_pos (Nat.succ_lt_succ few)

theorem identifyFailed_third {again : State → State} {s : State} (many : 2 ≤ s.dpt.identifyFailures) :
    identifyFailed again s = giveUp .failed .noIdentify (countIdentifyFailure s) :=
  if_neg (Nat.not_lt.2 (Nat.succ_le_succ many))

theorem identifyFailed_third_givenUp (again : State → State) {s : State} (many : 2 ≤ s.dpt.identifyFailures) :
    DriveGivenUp .failed .noIdentify s (identifyFailed again s) := by
  rw [identifyFailed_third many]
  exact (giveUp_driveGivenUp .noIdentify (countIdentifyFailure s) (by decide)).of_dpt

theorem exec_identifyRejected {s : State} {status : DriveStatus} (identifying : s.dpt.state = .identifying)
    (failed : status = .partialDone ∨ status = .media) (done : Word) (capacity : Lba) (blockSize depth : Nat) :
    exec (.identifyCompletion status done capacity blockSize depth) s = .next (identifyFailed startIdentify s) := by
  have taken (i : Identity) : takeIdentifyRecord status done.toNat i s = identifyFailed startIdentify s := by
    rcases failed with rfl | rfl <;> simp [takeIdentifyRecord, takeRecord, identifying, identifyRejected]
  exact congrArg Host.Outcome.next (taken _)

/-- The counter rises at a failed attempt, and a drive reset leaves it (R158, R170). -/
theorem identifyFailed_beginReset_failures (s : State) :
    (identifyFailed beginReset s).dpt.identifyFailures = s.dpt.identifyFailures + 1 := by
  rcases Nat.lt_or_ge s.dpt.identifyFailures 2 with few | many
  · rw [identifyFailed_again few]
    simp [countIdentifyFailure]
  · rw [identifyFailed_third many]
    simp [countIdentifyFailure]

/-- Settles O58: the first and second failure begin another attempt, at once or after a reset; the third gives up. -/
theorem identifyAttemptsFail : Obligations.IdentifyAttemptsFail := by
  refine fun s status done capacity blockSize depth identifying => ⟨fun failed => ?_, fun busy => ?_⟩
  · refine ⟨_, exec_identifyRejected identifying failed done capacity blockSize depth, fun few => ?_,
      identifyFailed_third_givenUp startIdentify⟩
    rw [identifyFailed_again few, startIdentify_eq, ← identifying]
    rfl
  · have expired : identifyExpired s = identifyFailed beginReset s := if_pos ⟨identifying, busy⟩
    refine ⟨_, congrArg Host.Outcome.next expired, identifyFailed_beginReset_failures s, fun few => ?_,
      identifyFailed_third_givenUp beginReset⟩
    rw [identifyFailed_again few]
    exact resetBegun_beginReset (countIdentifyFailure s)

/-! ## Timers and the ready indication (R169, R170, R172) -/

theorem slotExpired_ready {s : State} (ready : s.dpt.state = .ready) (slot : Nat) :
    slotExpired slot s = if s.slotBusy slot then beginReset s else s := by
  rw [slotExpired, ready]

/-- Settles O59: a busy slot's timeout begins a reset, and the ready indication after it an attempt to identify. -/
theorem timeoutResetsDrive : Obligations.TimeoutResetsDrive := by
  refine fun s slot => ⟨fun ready busy => ?_, fun ready free => ?_, fun resetting => ?_, fun other => ?_⟩
  · have expired : slotExpired slot s = beginReset s := (slotExpired_ready ready slot).trans (if_pos busy)
    exact ⟨_, congrArg Host.Outcome.next expired, resetBegun_beginReset s, by simp⟩
  · have expired : slotExpired slot s = s := (slotExpired_ready ready slot).trans (if_neg (by simp [free]))
    exact congrArg Host.Outcome.next expired
  · have taken : takeReadyIndication s = startIdentify { s with dpt := { s.dpt with resetTimer := none } } :=
      if_pos resetting
    exact congrArg Host.Outcome.next taken
  · have discarded : takeReadyIndication s = s := if_neg other
    exact congrArg Host.Outcome.next discarded

/-! ## The reset timer and the line (R172, R174, R175) -/

/-- Settles O60: the drive is given up at the reset timer's expiry and the line's fall, and identified at its rise. -/
theorem driveLostAndReturned : Obligations.DriveLostAndReturned := by
  refine fun s => ⟨fun resetting running => ?_, fun other => ?_, fun there => ?_, fun absent => ⟨?_, ?_⟩,
    fun there => ?_⟩
  · have expired : resetExpired s = giveUp .failed .noReady s := if_pos ⟨resetting, running⟩
    exact ⟨_, congrArg Host.Outcome.next expired, giveUp_driveGivenUp .noReady s (by decide)⟩
  · have kept : resetExpired s = s := if_neg fun h => other h.1
    exact congrArg Host.Outcome.next kept
  · let gone : State := { s with dpt := { s.dpt with present := false, referenceMark := false } }
    have fell : presentFalls s = giveUp .absent .none gone := if_neg there
    refine ⟨_, congrArg Host.Outcome.next fell, (giveUp_driveGivenUp .none gone (by decide)).of_dpt, ?_, ?_⟩ <;>
      simp [gone]
  · have fell : presentFalls s = { s with dpt := { s.dpt with present := false } } := if_pos absent
    exact congrArg Host.Outcome.next fell
  · have rose : presentRises s = startIdentify { s with
        dpt := { s.dpt with present := true, cause := .none, identifyFailures := 0 } } := if_pos absent
    exact congrArg Host.Outcome.next rose
  · have rose : presentRises s = { s with dpt := { s.dpt with present := true } } := if_neg there
    exact congrArg Host.Outcome.next rose

end Sys2Proof.Machine
end

section
/-! The judgement of identify results (R158 to R160), and what OWC does at READY (R59, R64, R164). -/

namespace Sys2Proof.Machine

set_option Elab.async false

/-! ## The results judged (R159) -/

theorem suitable_iff {capacity blockSize depth : Nat} :
    Identity.suitable { capacity := capacity, blockSize := blockSize, depth := takenDepth depth } = true ↔
      blockSize = 4096 ∧ 16 ≤ capacity ∧ 2 ≤ depth := by
  have deep : Config.minDepth ≤ takenDepth depth ↔ 2 ≤ depth := by
    simp only [takenDepth, Config.minDepth, Config.maxDepth]
    omega
  simp only [Identity.suitable, Bool.and_eq_true, beq_iff_eq, decide_eq_true_eq, deep, and_assoc]
  exact Iff.rfl

theorem sameDrive_iff {d : Dpt} {i : Identity} :
    d.sameDrive i = true ↔ (d.referenceMark = true → ∀ held, d.identity = some held →
      held.capacity = i.capacity ∧ held.blockSize = i.blockSize) := by
  unfold Dpt.sameDrive
  cases d.referenceMark <;> cases d.identity <;> simp

theorem takeIdentifyRecord_results {s : State} (identifying : s.dpt.state = .identifying) (done : Nat) (i : Identity) :
    takeIdentifyRecord .good done i s = judgeIdentify i (s.freeSlot 0) :=
  if_pos ⟨identifying, rfl⟩

theorem judgeIdentify_unsuited {i : Identity} {s : State} (unsuited : ¬i.suitable = true) :
    judgeIdentify i s = giveUp .failed .unsuited s :=
  if_pos (Bool.eq_false_of_not_eq_true unsuited)

theorem judgeIdentify_changed {i : Identity} {s : State} (suited : i.suitable = true)
    (changed : ¬s.dpt.sameDrive i = true) : judgeIdentify i s = giveUp .failed .changed s :=
  (if_neg (by simp [suited])).trans (if_pos (Bool.eq_false_of_not_eq_true changed))

theorem judgeIdentify_ready {i : Identity} {s : State} (suited : i.suitable = true) (same : s.dpt.sameDrive i = true) :
    judgeIdentify i s = enterReady i s :=
  (if_neg (by simp [suited])).trans (if_neg (by simp [same]))

/-! ## An operation issued in the reserved slot (R164) -/

/-- The operation stands in the reserved slot, its descriptor has been sent, and no request waits (R163, R164). -/
def OperationIssued (op : BlockOp) (attempt timer : Nat) (s : State) : Prop :=
  { slot := s.dpt.slotCount - 1, holder := .blockOp op attempt, timer := timer } ∈ s.dpt.busy ∧ s.dpt.request = none ∧
    s.blockRequest op ∈ s.dpt.requests

theorem blockRequest_congr {s t : State} (slots : t.dpt.slotCount = s.dpt.slotCount)
    (identity : t.dpt.identity = s.dpt.identity) (op : BlockOp) : t.blockRequest op = s.blockRequest op := by
  have capacity : t.reportedCapacity = s.reportedCapacity := by
    rw [State.reportedCapacity, State.reportedCapacity, identity]
  cases op <;> simp [State.blockRequest, slots, capacity]

theorem operationIssued_withReserved (op : BlockOp) (attempt timer : Nat) (s : State) :
    OperationIssued op attempt timer
      { s with dpt := s.dpt.withReserved op attempt timer (s.blockRequest op) } := by
  have request := blockRequest_congr (s := s)
    (t := { s with dpt := s.dpt.withReserved op attempt timer (s.blockRequest op) }) rfl rfl op
  exact ⟨List.mem_append_right _ (List.mem_singleton_self _), rfl,
    List.mem_append_right _ (List.mem_singleton.2 request)⟩

/-- What follows from an event takes nothing off the drive. -/
theorem OperationIssued.follow {op : BlockOp} {attempt timer : Nat} {s : State} (h : OperationIssued op attempt timer s)
    (before : State) : OperationIssued op attempt timer (follow before s) := by
  obtain ⟨busy, request, sent⟩ := h
  have supplies := follow_supplies before s
  refine ⟨?_, by simpa using request, ?_⟩
  · rw [(by simp : (Machine.follow before s).dpt.slotCount = s.dpt.slotCount)]
    exact supplies.busy.subset busy
  · rw [blockRequest_congr (s := s) (by simp) (by simp)]
    exact supplies.requests.subset sent

theorem beginLoad_owc (s : State) : (beginLoad s).owc = { s.owc with attempt := 1 } := by
  simp [beginLoad]

theorem beginLoad_issued {s : State} (free : s.ReservedFree) :
    OperationIssued .load 1 s.owc.policy.driveTimeoutMs.toNat (beginLoad s) := by
  have still : State.ReservedFree { s with owc := { s.owc with attempt := 1 } } := free
  rw [beginLoad, requestBlockOp_free still]
  exact operationIssued_withReserved .load 1 _ { s with owc := { s.owc with attempt := 1 } }

/-! ## OWC at READY (R59, R64, R159) -/

/-- OWC in LOADING with no attempt begun (R59). -/
def Owc.AwaitsLoad (o : Owc) : Prop :=
  o.state = .loading ∧ o.attempt = 0

/-- OWC in FROZEN for want of the drive (R64). -/
def Owc.AwaitsDrive (o : Owc) : Prop :=
  o.state = .frozen ∧ o.frozenCause = some .drive

section
variable {s : State}

theorem driveReady_loads (loads : s.owc.AwaitsLoad) : driveReady s = beginLoad s :=
  if_pos loads

theorem driveReady_returns (returns : s.owc.AwaitsDrive) : driveReady s = beginLoad (enterLoading s) := by
  have other : ¬s.owc.AwaitsLoad := fun ⟨loading, _⟩ => by simp [returns.1] at loading
  exact (if_neg other).trans (if_pos returns)

theorem driveReady_waits (loads : ¬s.owc.AwaitsLoad) (returns : ¬s.owc.AwaitsDrive) : driveReady s = issueReserved s :=
  (if_neg loads).trans (if_neg returns)

/-- The record at the return to LOADING (R64, R42). -/
theorem enterLoading_owc (s : State) :
    (enterLoading s).owc.state = .loading ∧ (enterLoading s).owc.owner = none ∧
      (enterLoading s).owc.frozenCause = none ∧ (enterLoading s).owc.contents = none ∧
      ∀ q, s.role q = .fenced → (enterLoading s).role q = .fenced :=
  ⟨rfl, rfl, rfl, rfl, (enterLoading_keepsRecord s).fenced⟩

end

/-! ## READY (R159) -/

/-- The Drive Port has its slots laid out, none of them busy, and OWC has not yet been told. -/
def readied (i : Identity) (s : State) : State :=
  { s with dpt := s.dpt.enterReady i }

theorem enterReady_eq (i : Identity) (s : State) : enterReady i s = follow s (driveReady (readied i s)) :=
  rfl

theorem readied_reservedFree (i : Identity) (s : State) : (readied i s).ReservedFree :=
  ⟨rfl, List.forall_mem_nil _⟩

section
variable (i : Identity) (s : State)

theorem enterReady_dpt :
    (enterReady i s).dpt.state = .ready ∧ (enterReady i s).dpt.cause = .none ∧ (enterReady i s).dpt.identity = some i ∧
      (enterReady i s).dpt.referenceMark = true ∧ (enterReady i s).dpt.slotCount = min 8 i.depth ∧
      (enterReady i s).dpt.identifyFailures = 0 := by
  simp [enterReady_eq, readied, Dpt.enterReady, Config.maxDriveSlots]

theorem enterReady_owc : (enterReady i s).owc = (driveReady (readied i s)).owc := by
  simp [enterReady_eq]

theorem enterReady_loads (loads : s.owc.AwaitsLoad) :
    (enterReady i s).owc = { s.owc with attempt := 1 } ∧
      OperationIssued .load 1 s.owc.policy.driveTimeoutMs.toNat (enterReady i s) := by
  have begun : driveReady (readied i s) = beginLoad (readied i s) := driveReady_loads loads
  rw [enterReady_owc, enterReady_eq, begun, beginLoad_owc]
  exact ⟨rfl, (beginLoad_issued (readied_reservedFree i s)).follow s⟩

theorem enterReady_returns (returns : s.owc.AwaitsDrive) :
    (enterReady i s).owc.state = .loading ∧ (enterReady i s).owc.attempt = 1 ∧ (enterReady i s).owc.owner = none ∧
      (enterReady i s).owc.frozenCause = none ∧ (enterReady i s).owc.contents = none ∧
      (enterReady i s).owc.history = s.owc.history ∧ (enterReady i s).owc.orphans = s.owc.orphans ∧
      (∀ q, s.role q = .fenced → (enterReady i s).role q = .fenced) ∧
      OperationIssued .load 1 s.owc.policy.driveTimeoutMs.toNat (enterReady i s) := by
  have begun : driveReady (readied i s) = beginLoad (enterLoading (readied i s)) := driveReady_returns returns
  have free : (enterLoading (readied i s)).ReservedFree := readied_reservedFree i s
  obtain ⟨state, owner, cause, contents, fenced⟩ := enterLoading_owc (readied i s)
  have recorded : (enterReady i s).owc = { (enterLoading (readied i s)).owc with attempt := 1 } := by
    rw [enterReady_owc, begun, beginLoad_owc]
  have issued := (beginLoad_issued free).follow s
  rw [← begun, ← enterReady_eq] at issued
  simp only [State.role, recorded]
  exact ⟨state, trivial, owner, cause, contents, rfl, rfl, fenced, issued⟩

theorem enterReady_waits (loads : ¬s.owc.AwaitsLoad) (returns : ¬s.owc.AwaitsDrive) :
    (enterReady i s).owc = s.owc ∧ ∀ op, s.dpt.request = some op →
      OperationIssued op s.owc.attempt s.owc.policy.driveTimeoutMs.toNat (enterReady i s) := by
  have let_issue : driveReady (readied i s) = issueReserved (readied i s) := driveReady_waits loads returns
  rw [enterReady_owc, enterReady_eq, let_issue]
  refine ⟨by simp [readied], fun op waiting => ?_⟩
  rw [issueReserved_free (readied_reservedFree i s) waiting]
  exact (operationIssued_withReserved op _ _ (readied i s)).follow s

end

/-- Settles O57: the results are judged for suitability and then for sameness, and OWC goes on by its state at READY. -/
theorem identifyResultsJudged : Obligations.IdentifyResultsJudged := by
  intro s done capacity blockSize depth identifying suitable same
  let i : Identity := { capacity := capacity.toNat, blockSize := blockSize, depth := takenDepth depth }
  have suits : suitable ↔ i.suitable = true := suitable_iff.symm
  have sames : same ↔ (s.freeSlot 0).dpt.sameDrive i = true := 
    (sameDrive_iff (d := (s.freeSlot 0).dpt) (i := i)).symm
  refine ⟨judgeIdentify i (s.freeSlot 0), congrArg Host.Outcome.next (takeIdentifyRecord_results identifying _ i),
    (judgeIdentify_keepsRecord i (s.freeSlot 0)).block, fun suited held => ?_, fun unsuited => ?_,
    fun suited changed => ?_⟩
  · rw [judgeIdentify_ready (suits.1 suited) (sames.1 held)]
    obtain ⟨state, cause, identity, mark, slots, failures⟩ := enterReady_dpt i (s.freeSlot 0)
    obtain ⟨_, least, _⟩ := suited
    refine ⟨state, cause, identity, mark, ?_, failures, ?_, by simp, by simp, enterReady_loads i (s.freeSlot 0),
      enterReady_returns i (s.freeSlot 0), fun loads returns => ?_⟩
    · rw [slots]
      simp only [i, takenDepth, Config.maxDepth]
      omega
    · rw [State.reportedCapacity, identity]
      simp only [i, Config.reservedBlocks]
      omega
    · obtain ⟨kept, issues⟩ := enterReady_waits i (s.freeSlot 0) loads returns
      refine ⟨kept, fun op waiting => ?_⟩
      cases op <;> exact issues _ waiting
  · rw [judgeIdentify_unsuited (mt suits.2 unsuited)]
    exact (giveUp_driveGivenUp .unsuited (s.freeSlot 0) (by decide)).of_dpt
  · rw [judgeIdentify_changed (suits.1 suited) (mt sames.2 changed)]
    exact (giveUp_driveGivenUp .changed (s.freeSlot 0) (by decide)).of_dpt

end Sys2Proof.Machine
end

section
/-! Fault flags and the answers of the Fault and Notice Unit: a flag raised in one copy, and what CLEAR and NOTIFY_MASK
change (R92, R179 to R183). -/

namespace Sys2Proof.Machine

set_option Elab.async false

/-! ## One flag among the others (R21) -/

theorem flagId_pred_lt (flag : Flag) : flagId flag - 1 < 9 := by
  cases flag <;> decide

/-- The bits of the flags are distinct. -/
theorem flagId_pred_injective : Function.Injective fun flag => flagId flag - 1 := by
  intro x y same
  cases x <;> cases y <;> trivial

theorem hasFlag_flagMask_of_ne {flag other : Flag} (h : other ≠ flag) : hasFlag (flagMask flag) other = false := by
  have bits : flagId flag - 1 ≠ flagId other - 1 := fun same => h (flagId_pred_injective same.symm)
  have single : flagMask flag = BitVec.twoPow 9 (flagId flag - 1) := (BitVec.twoPow_eq 9 _).symm
  simp [hasFlag, single, bits]

theorem hasFlag_and_not (set : FlagSet) (mask : Word) (flag : Flag) :
    hasFlag (set &&& ~~~(mask.setWidth 9)) flag = (hasFlag set flag && !mask.getLsbD (flagId flag - 1)) := by
  simp [hasFlag, flagId_pred_lt flag]

/-! ## A flag raised in one copy (R179) -/

theorem raiseIn_set {p : Path} {flag : Flag} {s : State} (set : hasFlag (s.fnu.flags.get p) flag = true) :
    raiseIn p flag s = s :=
  if_pos set

/-- The other flags of the copy, and every flag of the other copy, stay as they are. -/
theorem raiseIn_hasFlag_of_ne {p : Path} {flag other : Flag} (s : State) (h : other ≠ flag) :
    hasFlag ((raiseIn p flag s).fnu.flags.get p) other = hasFlag (s.fnu.flags.get p) other := by
  rw [raiseIn_flags]
  split
  · rfl
  · rw [Both.get_set_same, hasFlag_or, hasFlag_flagMask_of_ne h, Bool.or_false]

theorem raiseIn_flags_other (p : Path) (flag : Flag) (s : State) :
    (raiseIn p flag s).fnu.flags.get p.other = s.fnu.flags.get p.other := by
  rw [raiseIn_flags]
  split
  · rfl
  · exact Both.get_set_other _ p _

/-- The notice is offered where the flag was clear and the mask has its bit, and none otherwise. -/
theorem raiseIn_pif {p : Path} {flag : Flag} {s : State} (clear : hasFlag (s.fnu.flags.get p) flag = false) :
    (raiseIn p flag s).pif =
      if hasFlag (s.fnu.masks.get p) flag then s.pif.set p ((s.pif.get p).offerFlagNotice flag) else s.pif := by
  unfold raiseIn
  rw [if_neg (by simp [clear])]
  dsimp only
  split <;> rfl

/-- On an UP path the notice is carried, unless one of the same id waits already (R180). -/
theorem Pif.offerFlagNotice_carries {f : Pif} (flag : Flag) (up : f.link = .up) :
    Carries (f.offerFlagNotice flag) (.flagNotice flag) ∨ ∃ w ∈ f.waiting, w.producer = .fnuFlag flag := by
  unfold Pif.offerFlagNotice
  split
  · next held =>
    obtain ⟨_, waits⟩ := Bool.and_eq_true_iff.1 held
    obtain ⟨w, listed, same⟩ := List.any_eq_true.1 waits
    exact .inr ⟨w, listed, beq_iff_eq.1 same⟩
  · exact .inl (carries_offer (.fnuFlag flag) { frame := .flagNotice flag, tie := .plain } up)

/-- Settles O17: the copy gains the flag alone, and its path the notice that the mask asks for. -/
theorem flagRaisedInOneCopy : Obligations.FlagRaisedInOneCopy := by
  intro p flag s
  refine ⟨raiseIn_set, fun clear => ⟨raiseIn p flag s, rfl, raiseIn_hasFlag p flag s,
    fun other => raiseIn_hasFlag_of_ne s, raiseIn_flags_other p flag s, by simp, ?_, fun unmasked => ?_,
    fun masked up => ?_, by simp⟩⟩ <;> rw [raiseIn_pif clear]
  · split
    · exact Both.get_set_other _ p _
    · rfl
  · simp [unmasked]
  · rw [if_pos masked, Both.get_set_same]
    exact Pif.offerFlagNotice_carries flag (State.linkUp_eq_true.1 up)

/-! ## The decisions that need room for their answer (R180) -/

@[simp] theorem answersRoom_removeHead (p : Path) (s : State) : answersRoom (removeHead p s) p = answersRoom s p := by
  cases p <;> rfl

theorem withRoom_of_room {p : Path} {act : State → State} {s : State} (room : answersRoom s p = true) :
    withRoom p act s = act s :=
  if_pos room

theorem withRoom_of_full {p : Path} {act : State → State} {s : State} (full : answersRoom s p = false) :
    withRoom p act s = s :=
  if_neg (by simp [full])

theorem TakesHead.takeHead_room {s : State} {p : Path} {frame : QueuedFrame}
    {decision : QueuedFrame → Option (State → State)} {act : State → State} (h : TakesHead s p frame)
    (room : answersRoom s p = true) (decided : decision frame = some (withRoom p act)) :
    takeHead p decision s = act (removeHead p s) := by
  rw [h.takeHead_eq decided, withRoom_of_room (by simpa using room)]

/-! ## NOTIFY_MASK (R183) -/

/-- Settles O39: the sender's mask is replaced and the answer offered, and nothing else changes. -/
theorem noticeMaskReplaced : Obligations.NoticeMaskReplaced := by
  intro p s tag mask head room
  have taken : takeHead p (notifyMaskHead p) s = setNoticeMask p tag mask (removeHead p s) :=
    head.takeHead_room room rfl
  exact congrArg Host.Outcome.next taken

/-! ## CLEAR (R92, R181, R182) -/

/-- What a CLEAR does with room for its answer, by its target. -/
def clearAct (p : Path) (tag : Word) (target : Byte) (mask : Word) : State → State :=
  if target = 0#8 then clearFlags p tag mask
  else if target = 1#8 then clearOrphans p tag
  else answer p tag .badTable

/-- Each of the three CLEAR rows decides a head with its own target. -/
theorem exec_clearRow {s : State} {p : Path} {tag mask : Word} {target : Byte}
    (h : TakesHead s p (.clear tag target mask)) :
    exec (clearRow p target) s = .next (withRoom p (clearAct p tag target mask) (removeHead p s)) := by
  unfold clearRow clearAct
  split
  · next flags => exact congrArg Host.Outcome.next (h.takeHead_eq (if_pos flags))
  · next other =>
    split
    · next orphans => exact congrArg Host.Outcome.next (h.takeHead_eq (if_pos orphans))
    · next neither => exact congrArg Host.Outcome.next (h.takeHead_eq (if_neg (not_or.2 ⟨other, neither⟩)))

theorem clearPermitted_iff {s : State} {p : Path} :
    clearPermitted s p = true ↔
      (s.owc.state = .owned ∧ s.owc.owner = some p) ∨ (s.owc.state = .unowned ∧ s.role p ≠ .fenced) := by
  simp [clearPermitted]

/-- Settles O40: each target has its own decision, and without room for the answer there is none. -/
theorem clearDecided : Obligations.ClearDecided := by
  intro p s tag mask target head answers permitted
  have row := exec_clearRow head
  refine ⟨fun full => ?_, fun room => ?_⟩
  · rw [row, withRoom_of_full (by simpa using full)]
  rw [withRoom_of_room (by simpa using room), clearAct] at row
  refine ⟨fun flags => ?_, fun orphans may => ?_, fun orphans denied => ?_, fun notFlags notOrphans => ?_⟩
  · subst flags
    refine ⟨clearFlags p tag mask (removeHead p s), row, fun flag => ?_, ?_, rfl, rfl, rfl, rfl, rfl, rfl, rfl, rfl,
      rfl⟩
    · rw [← hasFlag_and_not]
      exact congrArg (hasFlag · flag) (Both.get_set_same _ p _)
    · exact Both.get_set_other _ p _
  · have accepted : clearPermitted (removeHead p s) p = true := clearPermitted_iff.2 may
    subst orphans
    exact row.trans (congrArg Host.Outcome.next (if_pos accepted))
  · have refused : ¬clearPermitted (removeHead p s) p = true := fun may => denied (clearPermitted_iff.1 may)
    subst orphans
    exact row.trans (congrArg Host.Outcome.next (if_neg refused))
  · rwa [if_neg notFlags, if_neg notOrphans] at row

end Sys2Proof.Machine
end

section
/-! INSPECT (R21, R184 to R191): what each position of the eight tables holds, field by field, and the one RECORD that
answers it. -/

namespace Sys2Proof.Machine

set_option Elab.async false

/-! ## Records laid out field by field (R185) -/

/-- The bytes of a record, from its fields in order: each by its size and the number it holds. -/
def layOut (fields : List (Nat × Nat)) : List Byte :=
  fields.flatMap fun f => beBytes f.1 f.2

theorem layOut_cons (size value : Nat) (rest : List (Nat × Nat)) :
    layOut ((size, value) :: rest) = beBytes size value ++ layOut rest :=
  List.flatMap_cons

theorem laidOut_layOut (fields : List (Nat × Nat)) : LaidOut (layOut fields) fields := by
  induction fields with
  | nil => rfl
  | cons f rest ih =>
    obtain ⟨size, value⟩ := f
    have width := beBytes_length size value
    rw [layOut_cons]
    refine ⟨by simp [width], fieldAt_of_beBytes (List.take_left' width), ?_⟩
    rwa [List.drop_left' width]

theorem optByte_eq (value : Option Nat) : optByte value = beBytes 1 (value.getD 0xFF) := by
  cases value <;> rfl

theorem flagByte_eq (b0 b1 b2 b3 : Bool) :
    flagByte b0 b1 b2 b3 = beBytes 1 (b0.toNat + 2 * b1.toNat + 4 * b2.toNat + 8 * b3.toNat) := by
  have bit (b : Bool) (n : Nat) : (if b then n else 0) = n * b.toNat := by cases b <;> simp
  simp only [flagByte, bit, Nat.one_mul]

/-! ## Bit sets (R190) -/

theorem bitSet_succ (width : Nat) (l : List Nat) :
    bitSet (width + 1) l = bitSet width l + if l.contains width then 2 ^ width else 0 := by
  simp [bitSet, List.range_succ]

theorem bitSet_lt (width : Nat) (l : List Nat) : bitSet width l < 2 ^ width := by
  induction width with
  | zero => simp [bitSet]
  | succ width ih =>
    rw [bitSet_succ, pow_succ]
    split <;> omega

/-- Bit k of a bit set stands for number k. -/
theorem bitSet_testBit {width k : Nat} (l : List Nat) (h : k < width) :
    (bitSet width l).testBit k = decide (k ∈ l) := by
  induction width with
  | zero => omega
  | succ width ih =>
    have low := bitSet_lt width l
    rw [bitSet_succ]
    rcases Nat.lt_succ_iff_lt_or_eq.1 h with below | rfl
    · rw [← ih below]
      split
      · rw [Nat.add_comm, Nat.testBit_two_pow_add_gt below]
      · rfl
    · split
      · next listed =>
        rw [Nat.add_comm, Nat.testBit_two_pow_add_eq, Nat.testBit_lt_two_pow low]
        simpa using listed
      · next absent =>
        rw [Nat.add_zero, Nat.testBit_lt_two_pow low]
        simpa using absent

/-! ## The records of the tables (R186 to R191) -/

theorem identityRecord_layOut (s : State) :
    identityRecord s = layOut [(2, 0x4F4C), (2, 0x0220), (1, 1), (1, resetCauseCode s.fnu.resetCause),
      (1, driveStateCode s.dpt.state), (1, driveCauseCode s.dpt.cause), (1, s.dpt.slotCount),
      (6, (s.dpt.identity.map (fun i => i.capacity)).getD 0),
      (6, (s.dpt.identity.map (fun i => i.capacity)).getD 0 - 8), (1, s.fnu.postedLost)] := by
  unfold identityRecord State.reportedCapacity
  cases s.dpt.identity <;> simp [layOut, Config.reservedBlocks]

theorem pathRecord_layOut (s : State) (q : Path) :
    pathRecord s q = layOut [(1, linkCode (s.pif.get q).link), (1, (s.hmon.get q).score),
      (1, healthCode (s.hmon.get q).health), (1, roleCode (s.role q)), (1, s.occupancy q), (1, quotaOf s.owc.policy q),
      (1, (s.pif.get q).serverHold.toNat + 2 * (s.pif.get q).partHold.toNat), (1, s.entryCount q),
      (1, (s.pif.get q).rxq.length), (1, (s.pif.get q).transmitCount)] := by
  rw [pathRecord, flagByte_eq]
  rfl

theorem ownershipRecord_layOut (s : State) :
    let o := s.owc
    ownershipRecord s = layOut [(1, ownStateCode o.state), (1, pathCode o.owner), (2, o.epoch.toNat),
      (4, o.commitCount.toNat),
      optField ((if o.state = .draining then o.drainStage else none).map drainStageCode),
      optField ((if o.state = .draining then o.drainCause else none).map drainCauseCode),
      optField ((if o.state = .draining ∨ o.state = .committing then o.successor else none).map pathCode),
      optField (o.drainedPath.map (fun q => pathCode (some q))), optField (o.purpose.map purposeCode),
      optField ((if o.state = .frozen then o.frozenCause else none).map frozenCauseCode), (1, o.attempt)] := by
  simp only [apply_ite (Option.map _), Option.map_none]
  rw [ownershipRecord]
  simp only [optByte_eq]
  rfl

theorem inflightRecord_layOut (e : Entry) :
    inflightRecord e = layOut [(1, pathCode (some e.origin)), (2, e.tag.toNat), (1, opCode e.op),
      (1, e.common.toNat + 2 * e.posted.toNat + 4 * e.acked.toNat + 8 * e.cut.toNat), (6, e.start), (2, e.count),
      (2, e.epoch.toNat), (6, e.age), (1, phaseCode e.phase), (2, e.counters.1), (2, e.counters.2.1),
      (2, e.counters.2.2), (2, e.frontier), (1, e.returned.length), (1, e.reissue), (4, bitSet 32 e.blockedBy),
      (1, bitSet 8 (e.outstanding.map (fun g => g.driveSlot))),
      optField ((if e.phase = .ending then e.endStatus else none).map (fun st => statusCode st.status)),
      optField (e.fencedOutcome.map outcomeCode)] := by
  simp only [apply_ite (Option.map _), Option.map_none]
  unfold inflightRecord
  obtain ⟨first, second, third⟩ := e.counters
  simp only [flagByte_eq, optByte_eq, layOut, optField, List.flatMap_cons, List.flatMap_nil, List.append_assoc,
    List.append_nil]

theorem orphanHeader_layOut (s : State) :
    orphanHeader s = layOut ([(1, s.owc.orphans.length), (1, s.owc.dropped)] ++ List.replicate 15 (1, 0)) :=
  rfl

theorem orphanBytes_layOut (r : OrphanRecord) :
    orphanBytes r = layOut [(1, pathCode (some r.origin)), (2, r.tag.toNat), (1, opCode r.op), (6, r.start),
      (2, r.count), (2, r.done), (2, r.epoch.toNat), (1, outcomeCode r.outcome)] :=
  rfl

theorem historyBytes_layOut (r : HistoryRecord) :
    historyBytes r = layOut [(2, r.epoch.toNat), (1, pathCode r.newOwner), (1, pathCode r.previousOwner),
      (1, historyCauseCode r.cause), (1, r.orphans)] :=
  rfl

theorem faultsRecord_layOut (s : State) (p : Path) :
    faultsRecord s p = layOut [(2, (s.fnu.flags.get p).toNat), (2, (s.fnu.masks.get p).toNat)] :=
  rfl

/-! ## What a position holds (R184) -/

theorem single_beyond {fields : List Byte} {index : Nat} (h : 1 ≤ index) : single fields index = .beyond :=
  if_neg (by omega)

section
variable {α : Type} {encode : α → List Byte} {l : List α} {index : Nat}

theorem listed_record {x : α} (h : l[index]? = some x) : listed encode l index = .record (encode x) := by
  rw [listed, h]

theorem listed_beyond (h : l.length ≤ index) : listed encode l index = .beyond := by
  rw [listed, List.getElem?_eq_none h]

end

theorem readPosition_inflight_free {s : State} {slot : Nat} (p : Path) (room : slot < 32)
    (free : s.entry? slot = none) :
    readPosition s p { table := 4, index := slot } = .empty := by
  simp [readPosition, Config.entrySlots, room, free]

theorem readPosition_inflight_entry {s : State} {slot : Nat} {e : Entry} (p : Path) (room : slot < 32)
    (held : s.entry? slot = some e) :
    readPosition s p { table := 4, index := slot } = .record (inflightRecord e) := by
  simp [readPosition, Config.entrySlots, room, held]

theorem readPosition_inflight_beyond {s : State} {slot : Nat} (p : Path) (past : 32 ≤ slot) :
    readPosition s p { table := 4, index := slot } = .beyond := by
  simp [readPosition, Config.entrySlots, Nat.not_lt.2 past]

/-! ## The answer to an INSPECT (R184) -/

/-- What an INSPECT does with room for its answer, by its mode. -/
def inspectAct (p : Path) (tag : Word) (mode table : Byte) (index : Word) : State → State :=
  if mode = 0#8 then inspectAt p tag table index
  else if mode = 1#8 then inspectOn p tag
  else recordAnswer p tag .badOp table.toNat index.toNat []

/-- Each of the three INSPECT rows decides a head with its own mode. -/
theorem exec_inspectRow {s : State} {p : Path} {tag index : Word} {mode table : Byte}
    (h : TakesHead s p (.inspect tag mode table index)) :
    exec (inspectRow p mode) s = .next (withRoom p (inspectAct p tag mode table index) (removeHead p s)) := by
  unfold inspectRow inspectAct
  split
  · next set => exact congrArg Host.Outcome.next (h.takeHead_eq (if_pos set))
  · next other =>
    split
    · next goesOn => exact congrArg Host.Outcome.next (h.takeHead_eq (if_pos goesOn))
    · next neither => exact congrArg Host.Outcome.next (h.takeHead_eq (if_neg (not_or.2 ⟨other, neither⟩)))

section
variable {s : State} {p : Path} {tag : Word} {c : Cursor}

theorem answerPosition_record {fields : List Byte} (holds : readPosition s p c = .record fields) :
    answerPosition p tag c s =
      recordAnswer p tag .ok c.table c.index fields (setCursor p { c with index := c.index + 1 } s) := by
  rw [answerPosition, holds]

theorem answerPosition_empty (holds : readPosition s p c = .empty) :
    answerPosition p tag c s =
      recordAnswer p tag .empty c.table c.index [] (setCursor p { c with index := c.index + 1 } s) := by
  rw [answerPosition, holds]

theorem answerPosition_beyond (holds : readPosition s p c = .beyond) :
    answerPosition p tag c s = recordAnswer p tag .endOfTable c.table c.index [] (setCursor p c s) := by
  rw [answerPosition, holds]

end

/-- Settles O38: the row that the mode names reads its position and answers it, and each position holds its record. -/
theorem inspectAnswered : Obligations.InspectAnswered := by
  refine ⟨?_, ?_, ?_⟩
  · intro p s tag mode table index head h record reads
    have row := exec_inspectRow head
    have answered {c : Cursor} (act : inspectAct p tag mode table index h = answerPosition p tag c h)
        (room : answersRoom s p = true) : reads c := by
      rw [withRoom_of_room (by simpa using room), act] at row
      refine ⟨fun fields holds => ?_, fun holds => ?_, fun holds => ?_⟩
      · rw [row, answerPosition_record holds]; rfl
      · rw [row, answerPosition_empty holds]; rfl
      · rw [row, answerPosition_beyond holds]; rfl
    refine ⟨fun full => by rw [row, withRoom_of_full (by simpa using full)], fun room => ?_⟩
    have decided : exec (inspectRow p mode) s = .next (inspectAct p tag mode table index h) := by
      rw [row, withRoom_of_room (by simpa using room)]
    refine ⟨fun set known => answered ?_ room, fun set unknown => ?_, fun goesOn => answered ?_ room,
      fun notSet notNext => ?_⟩
    · rw [inspectAct, if_pos set, inspectAt, if_pos known]
    · rw [decided, inspectAct, if_pos set, inspectAt, if_neg (by omega)]
      rfl
    · rw [inspectAct, if_neg (by simp [goesOn]), if_pos goesOn]
      rfl
    · rw [decided, inspectAct, if_neg notSet, if_neg notNext]
      rfl
  · intro s p at_ holds o capacity during
    have shown {table index : Nat} {bytes : List Byte} {fields : List (Nat × Nat)}
        (record : at_ table index = .record bytes) (same : bytes = layOut fields) : holds table index fields :=
      ⟨bytes, record, same ▸ laidOut_layOut fields⟩
    refine ⟨shown rfl (identityRecord_layOut s), fun q => ?_, shown rfl (ownershipRecord_layOut s), rfl,
      fun slot room free => readPosition_inflight_free p room free, fun slot e room held => ?_,
      shown rfl (orphanHeader_layOut s), fun i r found => shown (listed_record found) (orphanBytes_layOut r),
      fun i r found => shown (listed_record found) (historyBytes_layOut r), shown rfl (faultsRecord_layOut s p),
      fun i => ⟨fun past => ⟨single_beyond past, single_beyond past, single_beyond past, single_beyond past⟩,
        fun past => listed_beyond past, fun past => readPosition_inflight_beyond p past, fun past => ?_,
        fun past => listed_beyond past⟩⟩
    · cases q <;> exact shown rfl (pathRecord_layOut s _)
    · refine ⟨bitSet 32 e.blockedBy, bitSet 8 (e.outstanding.map (fun g => g.driveSlot)),
        fun k below => bitSet_testBit e.blockedBy below, fun k below => ?_,
        shown (readPosition_inflight_entry p room held) ((inflightRecord_layOut e).trans (congrArg layOut ?_))⟩
      · simp [bitSet_testBit _ below]
      · unfold Entry.counters
        cases e.op <;> rfl
    · have later : i ≠ 0 := by omega
      exact (if_neg later).trans (listed_beyond (Nat.le_sub_one_of_lt past))
  · decide

end Sys2Proof.Machine
end

section
/-! The soft reset (R17, R39, R68, R93, R135, R154, R177, R193): what it empties, what it keeps, and the DEVICE_RESET
that brings it about (R192). -/

namespace Sys2Proof.Machine

set_option Elab.async false

/-! ## The links (R17, R39) -/

theorem Pif.softReset_cleared (f : Pif) :
    f.softReset.rxq = [] ∧ f.softReset.serverHold = false ∧ f.softReset.partHold = false := by
  unfold Pif.softReset
  split <;> simp [Pif.softClear]

theorem clearHeld_hmon (p q : Path) (s : State) :
    ((clearHeld p s).hmon.get q).score = (s.hmon.get q).score ∧
      ((clearHeld p s).hmon.get q).health = (s.hmon.get q).health ∧
      ((clearHeld p s).hmon.get q).window = (s.hmon.get q).window := by
  unfold clearHeld
  split
  · rw [State.onHmon_hmon, Both.get_set]
    split
    · next same => subst same; exact ⟨rfl, rfl, rfl⟩
    · exact ⟨rfl, rfl, rfl⟩
  · exact ⟨rfl, rfl, rfl⟩

theorem softResetLinks_pif (q : Path) (s : State) : (softResetLinks s).pif.get q = (s.pif.get q).softReset := by
  cases q <;> simp [softResetLinks, State.onPif_pif, Both.get, Both.set]

theorem softResetLinks_hmon (q : Path) (s : State) :
    ((softResetLinks s).hmon.get q).score = (s.hmon.get q).score ∧
      ((softResetLinks s).hmon.get q).health = (s.hmon.get q).health ∧
      ((softResetLinks s).hmon.get q).window = (s.hmon.get q).window := by
  simp [softResetLinks, clearHeld_hmon]

/-! ## The records of the entries (R135) -/

theorem addOrphan_orphans {r : OrphanRecord} {s : State} (room : s.owc.orphans.length < Config.orphanDepth) :
    (addOrphan r s).owc.orphans = s.owc.orphans ++ [r] := by
  simp [addOrphan, Owc.withOrphan, Nat.not_le.2 room]

/-- Where the orphan list has room for them all, the records stand behind those it held, oldest first. -/
theorem cutAll_orphans {l : List Entry} {s : State} (room : l.length + s.owc.orphans.length ≤ Config.orphanDepth) :
    (cutAll l s).owc.orphans = s.owc.orphans ++ l.map (fun e => e.orphan .resetCut) := by
  induction l generalizing s with
  | nil => simp [cutAll]
  | cons e rest ih =>
    rw [List.length_cons] at room
    have added : (addOrphan (e.orphan .resetCut) s).owc.orphans = s.owc.orphans ++ [e.orphan .resetCut] :=
      addOrphan_orphans (by omega)
    rw [cutAll, ih (by rw [added, List.length_append, List.length_singleton]; omega), added, List.append_assoc]
    rfl

/-! ## An event with nothing in the table or the pages -/

/-- The table, the staging buffer and OWC's record as the soft reset leaves them to the Drive Port. -/
structure Emptied (s : State) : Prop where
  table : s.ift = []
  staging : s.stb = { pages := [], grants := [] }
  loading : s.owc.state = .loading
  owner : s.owc.owner = none
  attempt : s.owc.attempt = 0
  contents : s.owc.contents = none
  owed : s.owc.owedReplies = []

theorem Emptied.of_dpt {s : State} (h : Emptied s) (d : Dpt) : Emptied { s with dpt := d } :=
  ⟨h.table, h.staging, h.loading, h.owner, h.attempt, h.contents, h.owed⟩

theorem offerReadData_of_empty {s : State} (p : Path) (table : s.ift = []) : offerReadData p s = s := by
  simp [offerReadData, table]

theorem walkGrants_of_empty {s : State} (table : s.ift = []) (grants : s.stb.grants = []) : walkGrants s = s := by
  simp [walkGrants, placeRequests, table, grants, walkFrom]

theorem testGoAfter_of_empty {before s : State} (p : Path) (pages : before.stb.pages = []) :
    testGoAfter before p s = s := by
  simp [testGoAfter, State.occupancy, pages]

/-- With no entry and no page there is nothing to report, to grant, to issue or to deliver. -/
theorem conclude_of_empty {before s : State} (pages : before.stb.pages = []) (table : s.ift = [])
    (grants : s.stb.grants = []) (settled : s.owc.state ≠ .draining) (other : s.dpt.state ≠ .ready) :
    conclude before s = s := by
  have reported : reportAll s = s := by simp [reportAll, State.slotsWhere, table, forSlots]
  rw [conclude_of_not_draining before settled, reported, follow, testGoAfter_of_empty .a pages,
    testGoAfter_of_empty .b pages, walkGrants_of_empty table grants, runArbiter_of_not_ready other,
    offerReadData_of_empty .a table, offerReadData_of_empty .b table]

/-- An operation that OWC has abandoned counts no failed attempt (R68, R177). -/
theorem operationFailed_of_emptied {s : State} (h : Emptied s) (op : BlockOp) : operationFailed op s = s := by
  cases op <;> simp [operationFailed, State.commitInFlight, h.attempt, h.contents]

/-! ## The drive (R177) -/

/-- With nothing in the table a drive reset is the Drive Port's alone, with DRIVE_RESET. -/
theorem beginReset_of_emptied {s : State} (h : Emptied s) :
    beginReset s = raiseBoth .driveReset { s with dpt := s.dpt.startReset } := by
  have aborted : resetAborted s = { s with dpt := s.dpt.startReset } := by
    simp [resetAborted, State.slotsWhere, h.table, forSlots]
  have concluded : conclude s (resetAborted s) = { s with dpt := s.dpt.startReset } := by
    rw [aborted]
    exact conclude_of_empty (by simp [h.staging]) h.table (by simp [h.staging]) (by simp [h.loading])
      (by simp [Dpt.startReset])
  have abandoned (op : BlockOp) :
      operationFailed op { s with dpt := s.dpt.startReset } = { s with dpt := s.dpt.startReset } :=
    operationFailed_of_emptied (h.of_dpt _) op
  rw [beginReset_eq, concluded]
  cases s.operationAtDrive with
  | none => rfl
  | some op => exact congrArg (raiseBoth .driveReset) (abandoned op)

/-- At the drive a soft reset is OWC's entry into FROZEN with no drive, nothing new while a reset is under way, and a
drive reset in every other state. -/
inductive DriveSoftReset (s : State) : State → Prop
  | gone (absent : s.dpt.state = .absent) : DriveSoftReset s (enterFrozen .drive { s with dpt := s.dpt.softClear })
  | underWay (resetting : s.dpt.state = .resetting) : DriveSoftReset s { s with dpt := s.dpt.softClear }
  | begun (present : s.dpt.state ≠ .absent) :
    DriveSoftReset s (raiseBoth .driveReset { s with dpt := s.dpt.softClear.startReset })

theorem softResetDrive_of_emptied {s : State} (h : Emptied s) : DriveSoftReset s (softResetDrive s) := by
  unfold softResetDrive
  split
  case h_1 absent => exact .gone absent
  case h_2 resetting => exact .underWay resetting
  all_goals
    next state =>
    rw [beginReset_of_emptied (h.of_dpt _)]
    exact .begun (by simp [state])

/-- What the drive's part of a soft reset leaves as the steps before it left it. -/
theorem softResetDrive_keeps {s : State} (h : Emptied s) :
    (softResetDrive s).ift = s.ift ∧ (softResetDrive s).stb = s.stb ∧ (softResetDrive s).hmon = s.hmon ∧
      (softResetDrive s).owc.orphans = s.owc.orphans ∧ (softResetDrive s).owc.history = s.owc.history ∧
      (∀ q, ((softResetDrive s).pif.get q).rxq = (s.pif.get q).rxq) ∧
      ∀ q, ((softResetDrive s).pif.get q).partHold = (s.pif.get q).partHold := by
  have drive := softResetDrive_of_emptied h
  generalize softResetDrive s = t at drive ⊢
  cases drive <;> simp

/-- OWC is in LOADING with nothing in flight, and in FROZEN where there is no drive (R68, R177). -/
theorem softResetDrive_owc {s : State} (h : Emptied s) :
    (softResetDrive s).owc.state = (if s.dpt.state = .absent then .frozen else .loading) ∧
      (softResetDrive s).owc.owner = none ∧ (softResetDrive s).owc.attempt = 0 ∧
      (softResetDrive s).owc.contents = none ∧ (softResetDrive s).owc.owedReplies = [] := by
  have waits {t : State} (owc : t.owc = s.owc) (present : s.dpt.state ≠ .absent) :
      t.owc.state = (if s.dpt.state = .absent then .frozen else .loading) ∧ t.owc.owner = none ∧ t.owc.attempt = 0 ∧
        t.owc.contents = none ∧ t.owc.owedReplies = [] := by
    simp [owc, present, h.loading, h.owner, h.attempt, h.contents, h.owed]
  have drive := softResetDrive_of_emptied h
  generalize softResetDrive s = t at drive ⊢
  cases drive with
  | gone absent =>
    rw [enterFrozen_owc (by simp [h.loading]), if_pos absent]
    exact ⟨rfl, rfl, rfl, rfl, rfl⟩
  | underWay resetting => exact waits rfl (by simp [resetting])
  | begun present => exact waits (by simp) present

theorem softResetDrive_resets {s : State} (h : Emptied s) (present : s.dpt.state ≠ .absent) :
    (softResetDrive s).dpt.state = .resetting := by
  have drive := softResetDrive_of_emptied h
  generalize softResetDrive s = t at drive ⊢
  cases drive with
  | gone absent => exact absurd absent present
  | underWay resetting => exact resetting
  | begun => simp [Dpt.startReset]

/-! ## The soft reset (R193) -/

/-- The links, the work and OWC's record before the Drive Port's part of a soft reset. -/
def softResetLoading (s : State) : State :=
  enterLoading (softResetWork (softResetLinks s))

theorem softResetLoading_emptied (s : State) : Emptied (softResetLoading s) :=
  ⟨rfl, by simp [softResetLoading, enterLoading, softResetWork], rfl, rfl, rfl, rfl, rfl⟩

theorem softResetLoading_pif (q : Path) (s : State) :
    ((softResetLoading s).pif.get q).rxq = [] ∧ ((softResetLoading s).pif.get q).serverHold = false ∧
      ((softResetLoading s).pif.get q).partHold = false := by
  simp [softResetLoading, enterLoading, softResetLinks_pif, Pif.softReset_cleared]

theorem softResetLoading_hmon (s : State) : (softResetLoading s).hmon = (softResetLinks s).hmon := by
  simp [softResetLoading, enterLoading]

theorem softResetLoading_frame (s : State) :
    (softResetLoading s).adm = { pointer := .b, sequence := 0 } ∧ (softResetLoading s).dpt = s.dpt := by
  simp [softResetLoading, enterLoading, softResetWork]

theorem softResetLoading_history (s : State) : (softResetLoading s).owc.history = s.owc.history := by
  have worked : (softResetLoading s).owc.history = (softResetWork (softResetLinks s)).owc.history := rfl
  simp [worked]

theorem softResetLoading_orphans {s : State} (room : s.ift.length + s.owc.orphans.length ≤ Config.orphanDepth) :
    (softResetLoading s).owc.orphans = s.owc.orphans ++ s.ift.map (fun e => e.orphan .resetCut) := by
  have recorded := cutAll_orphans (l := (softResetLinks s).ift)
    (s := { softResetLinks s with stb := { pages := [], grants := [] } }) (by simpa using room)
  have worked : (softResetLoading s).owc.orphans = (softResetWork (softResetLinks s)).owc.orphans := rfl
  rw [worked, softResetWork]
  simpa using recorded

/-- After the drive a soft reset changes FNU's own fields alone, and raises DATA_LOSS. -/
theorem softReset_driven (s : State) :
    (softReset s).ift = (softResetDrive (softResetLoading s)).ift ∧
      (softReset s).stb = (softResetDrive (softResetLoading s)).stb ∧
      (softReset s).adm = (softResetDrive (softResetLoading s)).adm ∧
      (softReset s).hmon = (softResetDrive (softResetLoading s)).hmon ∧
      (softReset s).owc = (softResetDrive (softResetLoading s)).owc ∧
      (softReset s).dpt = (softResetDrive (softResetLoading s)).dpt ∧
      (∀ q, ((softReset s).pif.get q).rxq = ((softResetDrive (softResetLoading s)).pif.get q).rxq) ∧
      (∀ q, ((softReset s).pif.get q).serverHold = ((softResetDrive (softResetLoading s)).pif.get q).serverHold) ∧
      ∀ q, ((softReset s).pif.get q).partHold = ((softResetDrive (softResetLoading s)).pif.get q).partHold := by
  unfold softReset
  dsimp only
  split <;> simp [softResetLoading]

theorem softReset_work (s : State) :
    (softReset s).ift = [] ∧ (softReset s).stb = { pages := [], grants := [] } ∧
      (softReset s).adm = { pointer := .b, sequence := 0 } := by
  have emptied := softResetLoading_emptied s
  obtain ⟨ift, stb, adm, _⟩ := softReset_driven s
  obtain ⟨table, staging, _⟩ := softResetDrive_keeps emptied
  refine ⟨ift.trans (table.trans emptied.table), stb.trans (staging.trans emptied.staging), ?_⟩
  simp [adm, softResetLoading_frame]

theorem softReset_pif (q : Path) (s : State) :
    ((softReset s).pif.get q).rxq = [] ∧ ((softReset s).pif.get q).serverHold = false ∧
      ((softReset s).pif.get q).partHold = false := by
  obtain ⟨_, _, _, _, _, _, rxq, serverHold, partHold⟩ := softReset_driven s
  obtain ⟨_, _, _, _, _, queue, hold⟩ := softResetDrive_keeps (softResetLoading_emptied s)
  obtain ⟨empty, server, part⟩ := softResetLoading_pif q s
  exact ⟨(rxq q).trans ((queue q).trans empty), (serverHold q).trans (by simpa using server),
    (partHold q).trans ((hold q).trans part)⟩

/-- HMON keeps each path's score, health and window (R39). -/
theorem softReset_hmon (q : Path) (s : State) :
    ((softReset s).hmon.get q).score = (s.hmon.get q).score ∧
      ((softReset s).hmon.get q).health = (s.hmon.get q).health ∧
      ((softReset s).hmon.get q).window = (s.hmon.get q).window := by
  obtain ⟨_, _, _, hmon, _⟩ := softReset_driven s
  obtain ⟨_, _, health, _⟩ := softResetDrive_keeps (softResetLoading_emptied s)
  rw [hmon, health, softResetLoading_hmon]
  exact softResetLinks_hmon q s

/-- OWC's record (R68). -/
theorem softReset_owc (s : State) :
    (softReset s).owc.state = (if s.dpt.state = .absent then .frozen else .loading) ∧
      (softReset s).owc.owner = none ∧ (softReset s).owc.attempt = 0 ∧ (softReset s).owc.contents = none ∧
      (softReset s).owc.owedReplies = [] ∧ (softReset s).owc.history = s.owc.history := by
  obtain ⟨_, _, _, _, owc, _⟩ := softReset_driven s
  obtain ⟨state, owner, attempt, contents, owed⟩ := softResetDrive_owc (softResetLoading_emptied s)
  obtain ⟨_, _, _, _, history, _⟩ := softResetDrive_keeps (softResetLoading_emptied s)
  obtain ⟨_, drive⟩ := softResetLoading_frame s
  rw [owc, ← drive]
  exact ⟨state, owner, attempt, contents, owed, history.trans (softResetLoading_history s)⟩

theorem softReset_orphans {s : State} (room : s.ift.length + s.owc.orphans.length ≤ Config.orphanDepth) :
    (softReset s).owc.orphans = s.owc.orphans ++ s.ift.map (fun e => e.orphan .resetCut) := by
  obtain ⟨_, _, _, _, owc, _⟩ := softReset_driven s
  obtain ⟨_, _, _, orphans, _⟩ := softResetDrive_keeps (softResetLoading_emptied s)
  rw [owc, orphans, softResetLoading_orphans room]

theorem softReset_resets {s : State} (present : s.dpt.state ≠ .absent) : (softReset s).dpt.state = .resetting := by
  obtain ⟨_, _, _, _, _, dpt, _⟩ := softReset_driven s
  obtain ⟨_, drive⟩ := softResetLoading_frame s
  rw [dpt, softResetDrive_resets (softResetLoading_emptied s) (by rwa [drive])]

theorem softReset_fnu (s : State) :
    (softReset s).fnu.resetCause = .soft ∧ (softReset s).fnu.postedLost = lostCount s.ift ∧
      (softReset s).fnu.masks = s.fnu.masks ∧ (softReset s).fnu.cursors = s.fnu.cursors := by
  unfold softReset
  dsimp only
  split <;> simp [Fnu.softReset, enterLoading]

theorem softReset_dataLoss {s : State} (lost : 0 < lostCount s.ift) : FlagInBoth .dataLoss (softReset s) := by
  rw [softReset, if_pos lost]
  exact raiseBoth_flagInBoth .dataLoss _

/-! ## DEVICE_RESET (R192) -/

theorem exec_deviceReset {s : State} {p : Path} {tag epoch : Word} (h : TakesHead s p (.deviceReset tag epoch)) :
    exec (.deviceReset p) s = .next (decideDeviceReset p tag epoch (removeHead p s)) :=
  congrArg Host.Outcome.next (h.takeHead_eq rfl)

/-- A refused DEVICE_RESET is answered where there is room for the answer, and leaves none in decision. -/
theorem decideDeviceReset_refused {p : Path} {tag epoch : Word} {status : Status} {s : State}
    (idle : s.fnu.deciding = none) (judged : judgeDeviceReset s p epoch = some status) :
    decideDeviceReset p tag epoch s =
      if answersRoom s p then s.offer p .fnuAnswer (.reply tag status 0#16 s.owc.epoch) else s := by
  have refused : judgeDeviceReset (setDeciding (some (p, tag)) s) p epoch = some status := judged
  have settled : setDeciding none s = s := by
    unfold setDeciding
    rw [← idle]
  unfold decideDeviceReset withRoom
  dsimp only
  rw [refused]
  dsimp only
  rw [show answersRoom (setDeciding (some (p, tag)) s) p = answersRoom s p from rfl]
  split
  · exact congrArg (State.offer p .fnuAnswer (.reply tag status 0#16 s.owc.epoch)) settled
  · exact settled

theorem decideDeviceReset_accepted {p : Path} {tag epoch : Word} {s : State}
    (judged : judgeDeviceReset s p epoch = none) :
    decideDeviceReset p tag epoch s = setDeciding none (softReset (setDeciding (some (p, tag)) s)) := by
  have accepted : judgeDeviceReset (setDeciding (some (p, tag)) s) p epoch = none := judged
  unfold decideDeviceReset
  dsimp only
  rw [accepted]

theorem judgeDeviceReset_cases (s : State) (p : Path) (epoch : Word) :
    let standing :=
      (s.owc.state = .owned ∧ s.owc.owner = some p) ∨
        ((s.hmon.get p).health = .healthy ∧ s.role p ≠ .fenced ∧ (s.owc.state = .unowned ∨ s.owc.state = .frozen))
    (epoch ≠ s.owc.epoch → judgeDeviceReset s p epoch = some .staleEpoch) ∧
      (epoch = s.owc.epoch → ¬standing → judgeDeviceReset s p epoch = some .notOwner) ∧
      (epoch = s.owc.epoch → standing → judgeDeviceReset s p epoch = none) := by
  unfold judgeDeviceReset
  refine ⟨fun stale => if_pos stale, fun current denied => ?_, fun current standing => ?_⟩
  · obtain ⟨notOwner, notFree⟩ := not_or.1 denied
    rw [if_neg (not_not.2 current), if_neg notOwner, if_neg notFree]
  · rw [if_neg (not_not.2 current)]
    split
    · rfl
    · next notOwner => exact if_pos (standing.resolve_left notOwner)

/-- Settles O41: a DEVICE_RESET is refused by the first check that fails, and an accepted one is the soft reset. -/
theorem deviceResetDecided : Obligations.DeviceResetDecided := by
  intro p s tag epoch head idle answers standing
  have row := exec_deviceReset head
  obtain ⟨stale, denied, accepted⟩ := judgeDeviceReset_cases (removeHead p s) p epoch
  have refused {status : Status} (judged : judgeDeviceReset (removeHead p s) p epoch = some status) :
      answers status := by
    refine row.trans (congrArg Host.Outcome.next ?_)
    rw [decideDeviceReset_refused (by exact idle) judged, answersRoom_removeHead]
    rfl
  refine ⟨fun other => refused (stale other), fun current no => refused (denied current no), fun current may => ?_⟩
  rw [decideDeviceReset_accepted (accepted current may)] at row
  let u := setDeciding (some (p, tag)) (removeHead p s)
  have record := softReset_keepsRecord u
  obtain ⟨table, staging, arbiter⟩ := softReset_work u
  obtain ⟨state, owner, attempt, contents, owed, history⟩ := softReset_owc u
  obtain ⟨cause, lost, masks, cursors⟩ := softReset_fnu u
  refine ⟨setDeciding none (softReset u), row, table, congrArg Stb.pages staging, congrArg Stb.grants staging, arbiter,
    fun q => ?_, fun q => ?_, state, owner, attempt, contents, owed, history, record.block, record.fenced,
    fun room => softReset_orphans (s := u) room, fun q => ?_, cause, lost, rfl, masks, cursors,
    fun posted => softReset_dataLoss (s := u) posted, fun present => softReset_resets (s := u) present, ?_⟩
  · obtain ⟨empty, _⟩ := softReset_pif q u
    exact empty
  · obtain ⟨_, holds⟩ := softReset_pif q u
    exact ⟨by simp [u], by simp [u], holds⟩
  · have scores := softReset_hmon q u
    exact scores
  · simp [u]

end Sys2Proof.Machine
end
